-- ==== Sys2Proof/Word.lean ====
section
/-!
DEFINITION. Word.lean: the widths the manual gives its data (R16), and nothing else.
-/

namespace Sys2Proof

/-- One byte, the smallest addressable unit (R47). -/
abbrev Byte := BitVec 8

/-- A 32-bit register (R16). -/
abbrev Word := BitVec 32

/-- A 64-bit register (R16), and the width of a supervisory register. -/
abbrev DWord := BitVec 64

end Sys2Proof
end

