-- ==== Sys2Proof/Syntax.lean ====
section
/-!
DEFINITION. Syntax.lean: who sends register accesses, the operands of the commands, and the commands: one constructor per row
of spec/opcode_table.json, in the table's order.
-/

namespace Sys2Proof

/-- The requesters of the register space and of physical memory (R53, R47): the supervisory cores, the movers, the debug port
and the NVS controller. -/
inductive Requester where
  | sup (c : Fin 4)
  | mover (m : Fin 16)
  | debug
  | nvs
  deriving DecidableEq, Repr

/-- A write to one register of a comparator (R108). -/
inductive CmpWrite where
  | target (v : DWord)
  | cfg (v : Word)
  deriving DecidableEq, Repr

/-- A write to one register or entry of a gate list epoch (R177, R189). -/
inductive GclWrite where
  | base (v : DWord)
  | cycle (v : Word)
  | cfg (v : Word)
  | entry (i : Fin 256) (v : DWord)
  deriving DecidableEq, Repr

/-- A write to a VLAN or classifier entry of one epoch (R236, R243). -/
inductive SwcWrite where
  | vlan (v : Fin 4096) (value : DWord)
  | cls (n : Fin 256) (w : Fin 6) (value : Word)
  deriving DecidableEq, Repr

/-- The pair state a HEARTBEAT carries (R273, R296). -/
inductive PairCode where
  | off | seek | alone | transfer | shadow | paired
  deriving DecidableEq, Repr

/-- One tenant's entry of a DIGEST message (R273). -/
structure DigestItem where
  tenant : Fin 1024
  digest : DWord
  fault : Bool
  deriving DecidableEq, Repr

/-- One publication's entry of a PUBSTATE message (R273). -/
structure PubState where
  pub : Nat
  stNum : Word
  sqNum : Word
  curve : Nat
  values : List DWord
  deriving DecidableEq, Repr

/-- A write to a structural register of a stream or channel (R311). -/
inductive StreamWrite where
  | cfg (st : Fin 2048) (v : Word)
  | cfg2 (st : Fin 2048) (v : Word)
  | channel (c : Fin 16384) (v : Word)
  deriving DecidableEq, Repr

/-- A write to a register of the resampler (R380, R381, R383). -/
inductive RsWrite where
  | rscfg (st : Fin 2048) (v : Word)
  | phdly (c : Fin 16384) (v : Word)
  | iset (i : Fin 8) (v : Word)
  | dset (i : Fin 16) (v : Word)
  | gdmin (g : Fin 16) (v : Word)
  | period (g : Fin 16) (v : Word)
  | base (g : Fin 16) (v : DWord)
  deriving DecidableEq, Repr

/-- A write to one register of a guard (R426). -/
inductive GuardWrite where
  | cfg (g : Fin 4096) (v : Word)
  | base (g : Fin 4096) (v : Word)
  | len (g : Fin 4096) (v : Word)
  deriving DecidableEq, Repr

/-- A write to a tenant's CFG or guard groups (R425). -/
inductive TenCfgWrite where
  | cfg (t : Fin 1024) (v : Word)
  | groupsLo (t : Fin 1024) (v : Word)
  | groupsHi (t : Fin 1024) (v : Word)
  deriving DecidableEq, Repr

/-- What a burst moves in beats of 32 bytes (R638, R653, R504): a write beat carries a byte mask. -/
inductive BurstKind where
  | read (beats : Nat)
  | write (beats : List (List (Option Byte)))
  | atomic (new : List (Option Byte))
  deriving DecidableEq, Repr

/-- A burst presented to a bank's arbiter (R652 to R654): the CK_FAB cycle, counted from the command's start, its port, the
tenant-valid bit and burgee, whether it is a pre-roll access, its first byte, and the beats whose parity fails, at first and on
the one repeat of R646. -/
structure Burst where
  start : Nat
  port : Fin 97
  tv : Bool
  burgee : Fin 1024
  preroll : Bool
  addr : BitVec 40
  kind : BurstKind
  bad : List Nat
  badAgain : List Nat
  deriving DecidableEq, Repr

/-- What is done with the boundary scan register (R761): Capture-DR, with the levels of the balls by cell, or Update-DR with the
cells that were shifted in. -/
inductive ScanOp where
  | capture (levels : BitVec 126)
  | update (cells : BitVec 126)
  deriving DecidableEq, Repr

/-- The core that issues an instruction, and its guard (R485). -/
structure Issue where
  core : Fin 68
  pn : Bool
  ps : Fin 8
  deriving DecidableEq, Repr

/-- What a Halyard message carries whatever its type (R273): the lane it arrives on, and its sequence number on that lane. -/
structure HalHead where
  lane : Fin 2
  num : BitVec 16
  deriving DecidableEq, Repr

/-- The page list of a PAGELIST message (R291): how many pages the tenant has, and the CRC-64 of the pages this frame carries. -/
structure PageCrcs where
  count : Nat
  crcs : List DWord
  deriving DecidableEq, Repr

/-- A port whose frame starts, and whether a buffer cell of it is read with an uncorrectable parity error (R227). -/
structure TxRead where
  port : Fin 10
  parityErr : Bool
  deriving DecidableEq, Repr

/-- An internal egress, HOST or INGEST, and whether a buffer cell of its frame is read with an uncorrectable parity error (R227). -/
structure InnerRead where
  host : Bool
  parityErr : Bool
  deriving DecidableEq, Repr

/-- The commands the block takes: one constructor per row of the table of operations and events. -/
inductive Instr where
  /-- REGISTER_WRITE (R26): A write to a register field that has no row of its own stores, sets or clears bits by its access code, subject to locks, reserved fields and unlisted encodings. -/
  | registerWrite (who : Requester) (addr : Nat) (wide : Bool) (value : DWord)
  /-- UNMAPPED_ACCESS (R25): A read or write to an unmapped register-space address returns zero or is dropped, and SYS logs the first such access. -/
  | unmappedAccess (who : Requester) (addr : Nat) (write : Bool)
  /-- LOW_WORD_READ_LATCH (R18): A 32-bit read of a 64-bit register's low word latches its high word for that requester. -/
  | lowWordReadLatch (who : Requester) (addr : Nat)
  /-- HIGH_WORD_READ (R22): A read of a 64-bit register's high word returns the latched value when the requester's latch names the register, and the current high word otherwise. -/
  | highWordRead (who : Requester) (addr : Nat)
  /-- LOW_WORD_WRITE_HOLD (R19): A write of a 64-bit register's low word is held per requester until the high word is written. -/
  | lowWordWriteHold (who : Requester) (addr : Nat) (value : Word)
  /-- HIGH_WORD_WRITE_COMMIT (R22): A write of a 64-bit register's high word commits both halves when the holding names the register, and otherwise writes the high half alone. -/
  | highWordWriteCommit (who : Requester) (addr : Nat) (value : Word)
  /-- TAB_SNAP (R67): TAB_CMD.SNAP captures TOD and the angle counter into the requester's snapshot registers. -/
  | tabSnap (who : Requester)
  /-- TOD_LOAD (R68): TAB_CMD.LOAD copies TODSET into TOD and sets TOD_VALID and TS_STEP. -/
  | todLoad
  /-- TOD_STEP (R69): A write of TAB_STEP's high word adds the signed step to TOD and sets TS_STEP. -/
  | todStep (ns : DWord)
  /-- EVQ_FLUSH (R120): TAB_CMD.EVQ_FLUSH empties the PTP event queue and clears LOST. -/
  | evqFlush
  /-- EVQ_POP (R85): A read of TAB_EVQ_W3 removes the head record of the PTP event queue. -/
  | evqPop (who : Requester)
  /-- SERVO_OFFSET_SAMPLE (R74): An offset sample from the PTP stack or from PPS_IN drives the servo and the sync state machine. -/
  | servoOffsetSample (o : DWord)
  /-- PPS_IN_EDGE (R80): A rising edge on PPS_IN is timestamped into TAB_PPSIN_TS and, with SRC = PPSIN, yields an offset sample. -/
  | ppsInEdge
  /-- SYNC_SAMPLE_TIMEOUT (R76): HO_TIMEOUT × 125 ms without an offset sample moves the sync state to HOLDOVER or FREE. -/
  | syncSampleTimeout
  /-- HO_EXPIRED (R76): HO_ELAPSED passing HO_LIMIT sets STATUS.HO_EXPIRED once per holdover. -/
  | hoExpired
  /-- SRC_WRITE (R117): A write that changes TAB_CTL.SRC arms the next offset sample or moves the sync state to FREE. -/
  | srcWrite (src : BitVec 2)
  /-- SERVO_EN_WRITE (R74): A write of SERVO_EN reinitialises the integrator on 0 to 1, or discards the held rate samples on 0. -/
  | servoEnWrite (en : Bool)
  /-- RATE_SECOND (R77): Each REFCLK second, SRV_RATE is sampled, HO_DRIFT is averaged in LOCKED, and in HOLDOVER SRV_RATE moves by HO_DRIFT. -/
  | rateSecond
  /-- PPSIN_MISS (R80): 1.5 s without a PPS_IN edge while SRC = PPSIN sets PPSIN_MISS once. -/
  | ppsinMiss
  /-- REF10M_WRITE (R81): A write of REF10M arms the move of the PTP PLL to SYNC10M_IN, or returns it to REFCLK. -/
  | ref10mWrite (on : Bool)
  /-- REF10M_ACQUIRE (R81): At the first SYNC10M_IN edge after REF10M = 1, the PTP PLL takes SYNC10M_IN and REF10M_ACT sets. -/
  | ref10mAcquire
  /-- REF10M_LOSS (R81): 1 µs without a SYNC10M_IN edge sets REF10M_LOSS and returns the PLL to REFCLK. -/
  | ref10mLoss
  /-- PPS_OUT_EDGE (R82): PPS_OUT rises at each whole second or cycle boundary by PPSOUT_MODE, for PPSOUT_WIDTH µs. -/
  | ppsOutEdge
  /-- ANGLE_TICK (R103): The angle counter crosses a tick boundary and TAB raises tick k with its TOD. -/
  | angleTick
  /-- COMPARATOR_FIRE (R105): An angle-event comparator reaches its target, records EVTS, sets CMPST and delivers to its destination. -/
  | comparatorFire (c : Fin 256)
  /-- COMPARATOR_WRITE (R108): A write of a comparator's TARGET or CFG re-arms it and clears LATE. -/
  | comparatorWrite (c : Fin 256) (w : CmpWrite)
  /-- LANE_ENABLE (R132): A write of EN = 1 with a mode moves the lane from DISABLED to NO_SIGNAL with its transmitter on. -/
  | laneEnable (p : Fin 10) (mode : BitVec 2)
  /-- LANE_DISABLE (R132): A write of EN = 0 returns the lane to DISABLED with its transmitter off. -/
  | laneDisable (p : Fin 10)
  /-- PCX_CFG_WRITE (R129): A write to PCX_p_CFG leaves MODE, FEC and AN_EN unchanged while EN = 1 and applies the other fields. -/
  | pcxCfgWrite (p : Fin 10) (value : Word)
  /-- SDS_PLL_LOSS (R128): Loss of SerDes PLL lock sends every enabled lane to NO_SIGNAL with its transmitter off. -/
  | sdsPllLoss
  /-- SDS_PLL_RELOCK (R128): The SerDes PLL relocks and enabled lanes turn their transmitters back on. -/
  | sdsPllRelock
  /-- LINK_SIGNAL_DETECT (R132): Signal present for 10 µs moves the lane from NO_SIGNAL to SYNC_WAIT. -/
  | linkSignalDetect (p : Fin 10)
  /-- LINK_SYNC_LOCK (R132): Block lock or code-group sync held for 100 µs moves the lane to AN or UP. -/
  | linkSyncLock (p : Fin 10)
  /-- LINK_SYNC_LOSS (R132): Loss of sync in UP or RFAULT returns the lane to SYNC_WAIT and sets LINK_DOWN. -/
  | linkSyncLoss (p : Fin 10)
  /-- LINK_SIGNAL_LOSS (R132): Loss of signal returns the lane to NO_SIGNAL. -/
  | linkSignalLoss (p : Fin 10)
  /-- AN_COMPLETE (R130): Autonegotiation ends, and the lane moves to UP or REFUSED by the partner's result. -/
  | anComplete (p : Fin 10) (gig : Bool) (fullDuplex : Bool)
  /-- AN_PARTNER_RESTART (R130): A partner restart of autonegotiation returns a REFUSED lane to AN. -/
  | anPartnerRestart (p : Fin 10)
  /-- AN_RESTART (R132): CMD.AN_RESTART returns a REFUSED lane to AN. -/
  | anRestart (p : Fin 10)
  /-- RFAULT_RECEIVE (R132): Received remote fault ordered sets move the lane from UP to RFAULT. -/
  | rfaultReceive (p : Fin 10)
  /-- RFAULT_END (R132): 128 columns without remote fault return the lane from RFAULT to UP. -/
  | rfaultEnd (p : Fin 10)
  /-- RX_FRAME (R137): A received frame passes PCS, MAC checks, the checksum and tag stages, and RDE at the port. -/
  | rxFrame (p : Fin 10) (bytes : List Byte) (fcsOk : Bool) (codeErr : Bool)
  /-- RX_FIFO_DEQUEUE (R161): A frame leaves the receive FIFO toward RDE and the switch core in arrival order. -/
  | rxFifoDequeue (p : Fin 10)
  /-- PAUSE_REPEAT (R162): Every QUANTA × 256 bit times above the low watermark, the PAUSE frame repeats. -/
  | pauseRepeat (p : Fin 10)
  /-- RX_PAUSE_FRAME (R164): A received PAUSE frame is obeyed or discarded by RXPAUSE_EN and counted. -/
  | rxPauseFrame (p : Fin 10) (quanta : BitVec 16)
  /-- PAUSE_QUANTA_EXPIRE (R164): The pause time from a received PAUSE frame runs out and transmission resumes. -/
  | pauseQuantaExpire (p : Fin 10)
  /-- TX_FRAME_START (R168): Transmission selection starts the next frame from the highest eligible class whose gate is open and whose frame fits. -/
  | txFrameStart (p : TxRead)
  /-- TSQ_POP (R157): A read of TSQ_W2 removes the head entry of the transmit timestamp queue. -/
  | tsqPop (who : Requester) (p : Fin 10)
  /-- TSQ_FLUSH (R159): CMD.TSQ_FLUSH empties the TSQ and zeroes LOST. -/
  | tsqFlush (p : Fin 10)
  /-- PCX_CNT_CLR (R181): CMD.CNT_CLR zeroes every port counter and both CNTHALF registers. -/
  | pcxCntClr (p : Fin 10)
  /-- PORT_RESET (R220): PTR resets port p's class L fields and discards every frame queued to the port. -/
  | portReset (p : Fin 10)
  /-- GCL_ENTRY_END (R170): A gate list entry's TIME expires and the next entry's gates take effect. -/
  | gclEntryEnd (p : Fin 10)
  /-- GCL_CYCLE_START (R171): A PTP-anchored gate list starts a cycle at entry 0. -/
  | gclCycleStart (p : Fin 10) (e : Fin 2)
  /-- GCL_FLIP (R178): GCL_CTL.FLIP makes the other epoch pending, or is refused. -/
  | gclFlip (p : Fin 10)
  /-- GCL_ENABLE_WRITE (R179): A write of GCL_CTL.EN enables or disables gating and completes a pending flip at once when EN becomes 0. -/
  | gclEnableWrite (p : Fin 10) (en : Bool) (flip : Bool)
  /-- GCL_EPOCH_WRITE (R177): A write to a gate list epoch with drain count 1 changes nothing and sets GCL_REFUSED. -/
  | gclEpochWrite (p : Fin 10) (e : Fin 2) (w : GclWrite)
  /-- SWC_PIPELINE_ENTER (R207): A frame from a port or HOST takes a sequence number and the active epochs and enters a lookup pipeline. -/
  | swcPipelineEnter (i : Fin 12)
  /-- SWC_LOOKUP_DONE (R201): A lookup completes and its result is reported to every egress queue's resequencer. -/
  | swcLookupDone (i : Fin 12) (seq : Fin 256) (parityErr : Bool)
  /-- RESEQ_TIMEOUT (R209): A missing sequence number waited 2 µs, and the resequencer gives up on it. -/
  | reseqTimeout (e : Fin 12) (c : Fin 8) (i : Fin 12)
  /-- DOWN_DROP (R220): A frame reaching the head of a queue of a port that is not up is discarded and counted. -/
  | downDrop (e : Fin 12) (c : Fin 8)
  /-- AGE_DROP (R221): A frame that waited AGELIM ms at the head of its queue is discarded. -/
  | ageDrop (e : Fin 12) (c : Fin 8)
  /-- LEN_DROP (R222): A stored frame too long for the egress MAXLEN is discarded at the head of its queue. -/
  | lenDrop (e : Fin 12) (c : Fin 8)
  /-- INTERNAL_EGRESS (R196): INGEST or HOST egress hands a frame to its consumer by strict priority once a credit is returned. -/
  | internalEgress (host : InnerRead)
  /-- FDB_FLIP (R234): SWC_EPOCH.FDB_FLIP switches the active forwarding epoch. -/
  | fdbFlip
  /-- CLS_FLIP (R234): SWC_EPOCH.CLS_FLIP switches the active classifier epoch. -/
  | clsFlip
  /-- SWC_TABLE_WRITE (R236): A write to a VLAN or classifier entry is accepted only in an inactive, drained epoch. -/
  | swcTableWrite (e : Fin 2) (w : SwcWrite)
  /-- FDB_READ (R242): FDB READ copies an address table entry to D0–D2. -/
  | fdbRead (e : Fin 2) (index : Fin 65536)
  /-- FDB_WRITE (R242): FDB WRITE stores D0–D2 at an entry index. -/
  | fdbWrite (e : Fin 2) (index : Fin 65536)
  /-- FDB_INSERT (R242): FDB INSERT stores a valid entry at the matching key or the lowest invalid way. -/
  | fdbInsert (e : Fin 2)
  /-- FDB_DELETE (R242): FDB DELETE removes the entry matching the key. -/
  | fdbDelete (e : Fin 2)
  /-- FDB_SEARCH (R242): FDB SEARCH finds the entry matching the key. -/
  | fdbSearch (e : Fin 2)
  /-- SWC_THR_WRITE (R217): A write of a queue's MIN or K applies to the next cell, or is refused when the sum of MIN would exceed 32,768. -/
  | swcThrWrite (e : Fin 12) (c : Fin 8) (value : Word)
  /-- RDE_CFG_WRITE (R246): A write of the redundancy mode and ports takes effect only with the named ports disabled, and a pair mode starts the pair state machine. -/
  | rdeCfgWrite (value : Word)
  /-- RING_FORWARD (R270): A ring frame is forwarded cut-through to the other ring port once the egress is free and its gate allows it. -/
  | ringForward (p : Fin 10)
  /-- SOURCE_AGE_OUT (R258): A source entry unused for AGE ms becomes free. -/
  | sourceAgeOut (entry : Fin 8192)
  /-- DD_FLUSH (R260): RDE_CMD.DD_FLUSH frees every source entry. -/
  | ddFlush
  /-- PROXY_FLIP (R263): RDE_CMD.PROXY_FLIP switches the active proxy epoch. -/
  | proxyFlip
  /-- PROXY_ENTRY_WRITE (R263): A write to a proxy entry is accepted only in an inactive, drained epoch. -/
  | proxyEntryWrite (e : Fin 2) (m : Fin 512) (value : DWord)
  /-- RDE_CNT_CLR (R296): RDE_CMD.CNT_CLR zeroes every RDE counter. -/
  | rdeCntClr
  /-- HEARTBEAT_SEND (R273): Every 62.5 µs each pair module sends a HEARTBEAT on both lanes. -/
  | heartbeatSend
  /-- HEARTBEAT_RECEIVE (R274): A partner HEARTBEAT is deduplicated and drives the pair state machine. -/
  | heartbeatReceive (seq : HalHead) (state : PairCode) (leads : Bool) (serial : DWord) (tick : Word)
  /-- HEARTBEAT_MISS (R275): A heartbeat interval passes without a partner heartbeat on either lane and RDE_HB_MISS counts it. -/
  | heartbeatMiss
  /-- PAIR_SEEK_TIMEOUT (R282): SEEKTO × 10 ms in SEEK without a partner moves the pair to ALONE. -/
  | pairSeekTimeout
  /-- HALYARD_TICK_RECEIVE (R278): The follower takes the leader's TICK message and adopts its reference when B_t differs. -/
  | halyardTickReceive (seq : HalHead) (tick : Word) (sec : BitVec 48) (ns : BitVec 30) (fw : Word) (base : BitVec 16) (blk : BitVec 13)
  /-- DIGEST_RECEIVE (R286): A partner DIGEST message is taken and compared with the local digest. -/
  | digestReceive (seq : HalHead) (tick : Word) (items : List DigestItem)
  /-- PAGELIST_RECEIVE (R291): The donor takes PAGELIST and fixes the target tick. -/
  | pagelistReceive (seq : HalHead) (t : Fin 1024) (crcs : PageCrcs)
  /-- XFER_COPY (R291): After the tenant's last yield before the target tick, the donor copies changed pages and publication state and sends them. -/
  | xferCopy (t : Fin 1024)
  /-- PAGE_RECEIVE (R273): The joiner takes a PAGE message of transferred data. -/
  | pageReceive (seq : HalHead) (t : Fin 1024) (target : Word) (index : Nat) (quarter : Fin 4) (data : List Byte)
  /-- PUBSTATE_RECEIVE (R273): The joiner takes a PUBSTATE message of publication state. -/
  | pubstateReceive (seq : HalHead) (t : Fin 1024) (target : Word) (pubs : List PubState)
  /-- XFER_END_RECEIVE (R291): XFER_END makes the joiner install the transfer and reply done or retry. -/
  | xferEndReceive (seq : HalHead) (t : Fin 1024) (target : Word) (frames : Nat) (reply : Option Bool)
  /-- RDE_RESUME (R290): RDE_TCMD RESUME returns a tenant to SHADOW, or to ACTIVE while ALONE. -/
  | rdeResume (t : Fin 1024)
  /-- RDE_SILENCE (R290): RDE_TCMD SILENCE makes a pair tenant SILENT. -/
  | rdeSilence (t : Fin 1024)
  /-- RDE_RETRANSFER (R290): RDE_TCMD RETRANSFER returns a pair tenant to WAIT and restarts its transfer. -/
  | rdeRetransfer (t : Fin 1024)
  /-- SV_FRAME_INGEST (R322): An SV frame from INGEST is decoded, matched, checked and its samples classified into the stream history. -/
  | svFrameIngest
  /-- FILL_DEADLINE (R326): A stream's fill deadline passes undelivered, and the stage predicts or invalidates the samples up to the need instant. -/
  | fillDeadline (st : Fin 2048) (tick : Word)
  /-- HORIZON_FREEZE (R332): A predicted or missing sample whose horizon passes is frozen. -/
  | horizonFreeze (st : Fin 2048) (tick : Word)
  /-- RESAMPLE_OUTPUT (R366): Once every decimator output it reads is present, an output sample is computed and written to the windows. -/
  | resampleOutput (st : Fin 2048)
  /-- RESAMPLE_REWRITE (R333): Output samples that depended on replaced samples are recomputed and rewritten without the predicted mark. -/
  | resampleRewrite (st : Fin 2048)
  /-- TICK_READY (R38): SVC declares tick k ready for a tenant once its streams have delivered or been filled and written. -/
  | tickReady (t : Fin 1024) (tick : Word)
  /-- SUB_FLIP (R309): SVC_CMD.SUB_FLIP switches the active subscription epoch. -/
  | subFlip
  /-- SUB_ENTRY_WRITE (R309): A write to a subscription entry is accepted only in an inactive, drained epoch. -/
  | subEntryWrite (e : Fin 2) (n : Fin 2048) (w : Fin 20) (value : Word)
  /-- STREAM_ENABLE (R312): A write of stream EN = 1 enters IDLE, or is refused under the limits. -/
  | streamEnable (st : Fin 2048) (value : Word)
  /-- STREAM_DISABLE (R314): A write of stream EN = 0 enters DISABLED and discards the history. -/
  | streamDisable (st : Fin 2048) (value : Word)
  /-- STREAM_CFG_WRITE (R311): A write changing a structural field of an enabled stream is refused. -/
  | streamCfgWrite (w : StreamWrite)
  /-- SVC_CNT_CLR (R343): SVC_CMD.CNT_CLR zeroes every ingest counter. -/
  | svcCntClr
  /-- GRID_ENABLE (R357): A write of GEN = 1 fixes the grid delay and starts the grid, or is refused. -/
  | gridEnable (g : Fin 16) (value : Word)
  /-- GRID_DISABLE (R383): A write of GEN = 0 is refused while an enabled stream maps to the grid. -/
  | gridDisable (g : Fin 16) (value : Word)
  /-- COEF_DATA_ACCESS (R382): A read or write of SVC_RS_COEF_DATA accesses one coefficient and advances the address. -/
  | coefDataAccess (who : Requester) (value : Option Word)
  /-- RESAMPLE_CFG_WRITE (R380): A write of RSCFG or PHDLY is refused for an enabled stream, over the load limit or beyond a fixed grid delay. -/
  | resampleCfgWrite (w : RsWrite)
  /-- TCMD_START (R388): TCMD START moves a STOPPED tenant to ACTIVE and clears RSTCNT. -/
  | tcmdStart (t : Fin 1024)
  /-- TCMD_STOP (R388): TCMD STOP moves an ACTIVE tenant to STOPPED when its dispatch ends. -/
  | tcmdStop (t : Fin 1024)
  /-- TCMD_RESET (R411): TCMD RESET starts a TNR of the tenant. -/
  | tcmdReset (t : Fin 1024) (restart : Bool)
  /-- TNR_COMPLETE (R411): A tenant reset completes and the tenant goes to ACTIVE or STOPPED. -/
  | tnrComplete (t : Fin 1024)
  /-- TCMD_MOVE (R421): TCMD MOVE starts moving a tenant to another core, or is refused. -/
  | tcmdMove (t : Fin 1024) (core : Fin 64)
  /-- MOVE_COMPLETE (R421): A move finishes copying scratch, rebinds the tenant and restores its previous state. -/
  | moveComplete (t : Fin 1024)
  /-- TCMD_FCLEAR (R410): TCMD FCLEAR clears the tenant's fault record. -/
  | tcmdFclear (t : Fin 1024)
  /-- TENANT_BIND (R388): A write of BIND.VALID = 1 takes a slot on the core and makes the tenant STOPPED. -/
  | tenantBind (t : Fin 1024) (core : Fin 64)
  /-- TENANT_UNBIND (R388): A write of BIND.VALID = 0 returns the tenant to EMPTY and disables its windows. -/
  | tenantUnbind (t : Fin 1024) (core : Fin 64)
  /-- WIN_READ (R398): A window READ copies a tenant window into WIN_D0–D3. -/
  | winRead (t : Fin 1024) (w : Fin 16)
  /-- WIN_WRITE (R397): A window WRITE stores a tenant window or is refused with a code. -/
  | winWrite (t : Fin 1024) (w : Fin 16)
  /-- EVENT_POST (R405): A write of EVPOST_CTL posts a supervisory entry to a tenant's event queue. -/
  | eventPost (who : Requester) (t : Fin 1024)
  /-- GUARD_HOLD_EXPIRE (R416): A guard held beyond HOLDLIM raises GUARD_HOLD on the holder. -/
  | guardHoldExpire (g : Fin 4096)
  /-- GUARD_CFG_WRITE (R417): A write to a guard's configuration is refused while held or when regions would overlap. -/
  | guardCfgWrite (w : GuardWrite)
  /-- SUBL_WRITE (R400): A write to a subscription list entry in use by a running tenant is refused. -/
  | sublWrite (n : Fin 8192) (value : Word)
  /-- TENANT_SUB_WRITE (R399): A write of CYC_t_SUB takes effect at the next tick boundary. -/
  | tenantSubWrite (t : Fin 1024) (value : Word)
  /-- TENANT_CFG_WRITE (R425): A write of a tenant's CFG or guard groups is refused while ACTIVE or MOVING. -/
  | tenantCfgWrite (w : TenCfgWrite)
  /-- OSQ_POP (R408): A read of OSQ_W3 removes the head of a tenant's supervisory queue. -/
  | osqPop (who : Requester) (t : Fin 1024)
  /-- DISPATCH_SELECT (R434): At a change of a core's ready set, a yield or a fault, the executive selects and starts or preempts a dispatch. -/
  | dispatchSelect (c : Fin 64) (restoreErr : Bool)
  /-- BUDGET_EXHAUSTED (R446): A dispatch's budget reaches zero and the tenant faults with BUDGET. -/
  | budgetExhausted (c : Fin 64)
  /-- CYC_EN_WRITE (R58): A write of CYC_CTL.EN starts or stops dispatching by every executive. -/
  | cycEnWrite (en : Bool)
  /-- CWD_START (R448): A write of 1 to CWD_EN starts the cluster watchdog. -/
  | cwdStart
  /-- CWD_KICK (R448): A kick pair restarts the cluster watchdog timer; a wrong value fires it. -/
  | cwdKick (value : Word)
  /-- CWD_KICK_EXPIRE (R449): The cluster watchdog's kick timer expires. -/
  | cwdKickExpire
  /-- CWD_STALL (R449): A core with a pending dispatch starts or ends none during TICKTO tick boundaries. -/
  | cwdStall (c : Fin 64)
  /-- FRC_READ (R469): Force READ copies an entry to FRC_D0–D2. -/
  | frcRead (i : Fin 65536)
  /-- FRC_WRITE (R456): Force WRITE stores a force entry or is refused. -/
  | frcWrite (i : Fin 65536)
  /-- FRC_DELETE (R455): Force DELETE clears a force entry. -/
  | frcDelete (i : Fin 65536)
  /-- FRC_FIND (R456): Force FIND returns the index of the entry naming a point. -/
  | frcFind
  /-- FRC_CLEARALL (R469): Force CLEARALL clears every force entry within 70 µs. -/
  | frcClearall
  /-- XCHG_ARM (R460): ARM checks and arms an exchange, or switches images at once for a stopped tenant. -/
  | xchgArm (t : Fin 1024)
  /-- XCHG_DISARM (R460): DISARM cancels an armed exchange. -/
  | xchgDisarm (t : Fin 1024)
  /-- XCHG_CARRY_OVER (R463): After the old image's last dispatch before XTICK, the carry map is applied and the active slot switches. -/
  | xchgCarryOver (t : Fin 1024)
  /-- PHX_COEF_WRITE (R525): A write of CYC_PHX_DIM stores a phasor coefficient and advances INDEX, or is refused for a locked set. -/
  | phxCoefWrite (value : Word)
  /-- ALU (R488): ALU performs a 64-bit operation selected by FN. -/
  | alu (i : Issue) (rd : Fin 32) (ra : Fin 32) (rb : Fin 32) (fn : Fin 128)
  /-- ALUW (R488): ALUW performs a 32-bit operation selected by FN with a sign-extended result. -/
  | aluw (i : Issue) (rd : Fin 32) (ra : Fin 32) (rb : Fin 32) (fn : Fin 128)
  /-- ADDI (R487): ADDI adds a sign-extended immediate. -/
  | addi (i : Issue) (rd : Fin 32) (ra : Fin 32) (imm : BitVec 12)
  /-- ADDIW (R487): ADDIW adds an immediate in 32 bits and sign-extends. -/
  | addiw (i : Issue) (rd : Fin 32) (ra : Fin 32) (imm : BitVec 12)
  /-- ANDI (R487): ANDI ANDs a zero-extended immediate. -/
  | andi (i : Issue) (rd : Fin 32) (ra : Fin 32) (imm : BitVec 12)
  /-- ORI (R487): ORI ORs a zero-extended immediate. -/
  | ori (i : Issue) (rd : Fin 32) (ra : Fin 32) (imm : BitVec 12)
  /-- XORI (R487): XORI XORs a zero-extended immediate. -/
  | xori (i : Issue) (rd : Fin 32) (ra : Fin 32) (imm : BitVec 12)
  /-- SHI (R490): SHI shifts or rotates by an immediate amount. -/
  | shi (i : Issue) (rd : Fin 32) (ra : Fin 32) (imm : BitVec 12)
  /-- MULDIV (R491): MULDIV multiplies or divides by FN. -/
  | muldiv (i : Issue) (rd : Fin 32) (ra : Fin 32) (rb : Fin 32) (fn : Fin 128)
  /-- CMP (R494): CMP compares two registers into a predicate. -/
  | cmp (i : Issue) (cm : Fin 4) (pd : Fin 8) (ra : Fin 32) (rb : Fin 32) (fn : Fin 128)
  /-- CMPI (R494): CMPI compares a register with an immediate into a predicate. -/
  | cmpi (i : Issue) (cm : Fin 4) (pd : Fin 8) (ra : Fin 32) (cond : Fin 16) (imm : BitVec 8)
  /-- PRED (R496): PRED performs a predicate operation by FN. -/
  | pred (i : Issue) (rd : Fin 32) (ra : Fin 32) (rb : Fin 32) (fn : Fin 128)
  /-- SEL (R493): SEL writes one of two registers by a predicate. -/
  | sel (i : Issue) (rd : Fin 32) (ra : Fin 32) (rb : Fin 32) (fn : Fin 128)
  /-- LIH (R487): LIH loads a sign-extended half-word shifted into place. -/
  | lih (i : Issue) (h : Fin 4) (rd : Fin 32) (z : Bool) (imm : BitVec 16)
  /-- ORH (R487): ORH ORs a half-word into place. -/
  | orh (i : Issue) (h : Fin 4) (rd : Fin 32) (z : Bool) (imm : BitVec 16)
  /-- B (R497): B branches by a PC-relative offset. -/
  | b (i : Issue) (off : BitVec 22)
  /-- BL (R497): BL branches and writes the return address to g31. -/
  | bl (i : Issue) (off : BitVec 22)
  /-- JR (R497): JR jumps to a register target. -/
  | jr (i : Issue) (rd : Fin 32) (ra : Fin 32) (rb : Fin 32)
  /-- JLR (R497): JLR jumps to a register target and writes the return address. -/
  | jlr (i : Issue) (rd : Fin 32) (ra : Fin 32) (rb : Fin 32)
  /-- LOAD (R499): A load of 8 to 64 bits reads memory through the tenant's windows or the supervisory translation. -/
  | load (i : Issue) (kind : Fin 7) (rd : Fin 32) (ra : Fin 32) (imm : BitVec 12)
  /-- STORE (R499): A store of 8 to 64 bits writes memory through the windows. -/
  | store (i : Issue) (kind : Fin 4) (rd : Fin 32) (ra : Fin 32) (imm : BitVec 12)
  /-- VLD (R500): VLD loads 16 bytes into a v register. -/
  | vld (i : Issue) (rd : Fin 32) (ra : Fin 32) (imm : BitVec 12)
  /-- VST (R500): VST stores a v register. -/
  | vst (i : Issue) (rd : Fin 32) (ra : Fin 32) (imm : BitVec 12)
  /-- LDX (R499): LDX loads from a scaled indexed address. -/
  | ldx (i : Issue) (rd : Fin 32) (ra : Fin 32) (rb : Fin 32) (fn : Fin 128)
  /-- STX (R499): STX stores to a scaled indexed address. -/
  | stx (i : Issue) (rd : Fin 32) (ra : Fin 32) (rb : Fin 32) (fn : Fin 128)
  /-- ATOM (R503): ATOM performs an indivisible read-modify-write by FN. -/
  | atom (i : Issue) (rd : Fin 32) (ra : Fin 32) (rb : Fin 32) (fn : Fin 128)
  /-- GACQ (R505): GACQ requests a guard and completes at its grant. -/
  | gacq (i : Issue) (rd : Fin 32) (ra : Fin 32) (imm : BitVec 12)
  /-- GREL (R506): GREL releases a guard after earlier accesses complete and passes it to the next waiter. -/
  | grel (i : Issue) (rd : Fin 32) (ra : Fin 32) (imm : BitVec 12)
  /-- EVPOP (R507): EVPOP removes the head of the event queue into a v register. -/
  | evpop (i : Issue) (rd : Fin 32) (ra : Fin 32) (rb : Fin 32)
  /-- EVPEEK (R507): EVPEEK reads the head of the event queue without removing it. -/
  | evpeek (i : Issue) (rd : Fin 32) (ra : Fin 32) (rb : Fin 32)
  /-- EVCNT (R507): EVCNT reads the event queue's level and losses. -/
  | evcnt (i : Issue) (rd : Fin 32) (ra : Fin 32) (rb : Fin 32)
  /-- OSQPOST (R406): OSQPOST posts a message to the tenant's supervisory queue and rings its doorbell. -/
  | osqpost (i : Issue) (rd : Fin 32) (ra : Fin 32) (rb : Fin 32)
  /-- MFSR (R474): MFSR reads a special register. -/
  | mfsr (i : Issue) (rd : Fin 32) (ra : Fin 32) (imm : BitVec 12)
  /-- NOP (R487): NOP does nothing. -/
  | nop (i : Issue) (rd : Fin 32) (ra : Fin 32) (rb : Fin 32)
  /-- FENCE (R483): FENCE waits until every earlier access has completed. -/
  | fence (i : Issue) (rd : Fin 32) (ra : Fin 32) (rb : Fin 32)
  /-- BRK (R771): BRK halts the core for the debug port while BRKEN = 1, and otherwise acts as NOP. -/
  | brk (i : Issue) (rd : Fin 32) (ra : Fin 32) (rb : Fin 32)
  /-- VINT (R520): VINT performs an INT32 lane operation by FN. -/
  | vint (i : Issue) (rd : Fin 32) (ra : Fin 32) (rb : Fin 32) (fn : Fin 128)
  /-- VFLT (R521): VFLT performs a binary32 lane operation by FN. -/
  | vflt (i : Issue) (rd : Fin 32) (ra : Fin 32) (rb : Fin 32) (fn : Fin 128)
  /-- VCPX (R522): VCPX performs a complex operation by FN. -/
  | vcpx (i : Issue) (rd : Fin 32) (ra : Fin 32) (rb : Fin 32) (fn : Fin 128)
  /-- VMOV (R523): VMOV moves values or compares lane 0 by FN. -/
  | vmov (i : Issue) (rd : Fin 32) (ra : Fin 32) (rb : Fin 32) (fn : Fin 128)
  /-- PDFT (R530): PDFT computes a phasor over sample window slots with a coefficient set. -/
  | pdft (i : Issue) (rd : Fin 32) (ra : Fin 32) (rb : Fin 32)
  /-- PSWF (R532): PSWF reads four sample values from a window. -/
  | pswf (i : Issue) (rd : Fin 32) (ra : Fin 32) (rb : Fin 32)
  /-- PSWQ (R532): PSWQ reads four quality entries from a window. -/
  | pswq (i : Issue) (rd : Fin 32) (ra : Fin 32) (rb : Fin 32)
  /-- PMAG (R533): PMAG computes the magnitudes of two complex values. -/
  | pmag (i : Issue) (rd : Fin 32) (ra : Fin 32) (rb : Fin 32)
  /-- PANG (R533): PANG computes the angle of c0 in au. -/
  | pang (i : Issue) (rd : Fin 32) (ra : Fin 32) (rb : Fin 32)
  /-- PSEQ01 (R534): PSEQ01 computes zero and positive sequence. -/
  | pseq01 (i : Issue) (rd : Fin 32) (ra : Fin 32) (rb : Fin 32)
  /-- PSEQ2 (R534): PSEQ2 computes negative sequence. -/
  | pseq2 (i : Issue) (rd : Fin 32) (ra : Fin 32) (rb : Fin 32)
  /-- PUBV (R535): PUBV marks a publication written in the dispatch. -/
  | pubv (i : Issue) (rd : Fin 32) (ra : Fin 32) (rb : Fin 32)
  /-- TRIP (R584): TRIP passes a trip to PUB at issue, which holds it when provisional. -/
  | trip (i : Issue) (rd : Fin 32) (ra : Fin 32) (rb : Fin 32)
  /-- ARM (R589): ARM sets ARMED and its identity on a kind 2 publication. -/
  | arm (i : Issue) (rd : Fin 32) (ra : Fin 32) (rb : Fin 32)
  /-- STDN (R589): STDN clears ARMED when the identity matches. -/
  | stdn (i : Issue) (rd : Fin 32) (ra : Fin 32) (rb : Fin 32)
  /-- YIELD (R431): YIELD ends the dispatch and commits its staged publications. -/
  | yield (i : Issue) (rd : Fin 32) (ra : Fin 32) (rb : Fin 32)
  /-- BQ (R539): BQ tests the remaining budget into a predicate. -/
  | bq (i : Issue) (rd : Fin 32) (ra : Fin 32) (rb : Fin 32)
  /-- UPCALL (R555): UPCALL takes a synchronous trap to the next level. -/
  | upcall (i : Issue) (rd : Fin 32) (ra : Fin 32) (rb : Fin 32)
  /-- TRET (R547): TRET returns from a trap. -/
  | tret (i : Issue) (rd : Fin 32) (ra : Fin 32) (rb : Fin 32)
  /-- IDLE (R555): IDLE stalls until an interrupt is deliverable or the core is halted. -/
  | idle (i : Issue) (rd : Fin 32) (ra : Fin 32) (rb : Fin 32)
  /-- ISYNC (R555): ISYNC invalidates the core's I-cache. -/
  | isync (i : Issue) (rd : Fin 32) (ra : Fin 32) (rb : Fin 32)
  /-- XLF_ALL (R555): XLF.ALL discards every cached translation of the core. -/
  | xlfAll (i : Issue) (rd : Fin 32) (ra : Fin 32) (rb : Fin 32)
  /-- XLF_TAG (R555): XLF.TAG discards the cached translations of one STAG. -/
  | xlfTag (i : Issue) (rd : Fin 32) (ra : Fin 32) (rb : Fin 32)
  /-- XLF_VA (R555): XLF.VA discards the cached translation of one VA under one STAG. -/
  | xlfVa (i : Issue) (rd : Fin 32) (ra : Fin 32) (rb : Fin 32)
  /-- XLF_VAX (R555): XLF.VAX discards the cached translations of one VA under every STAG. -/
  | xlfVax (i : Issue) (rd : Fin 32) (ra : Fin 32) (rb : Fin 32)
  /-- DCWB (R555): DCWB writes back one D-cache line. -/
  | dcwb (i : Issue) (rd : Fin 32) (ra : Fin 32) (rb : Fin 32)
  /-- DCDROP (R555): DCDROP discards one D-cache line. -/
  | dcdrop (i : Issue) (rd : Fin 32) (ra : Fin 32) (rb : Fin 32)
  /-- DCWBD (R555): DCWBD writes back and invalidates one D-cache line. -/
  | dcwbd (i : Issue) (rd : Fin 32) (ra : Fin 32) (rb : Fin 32)
  /-- MTSR (R545): MTSR writes a supervisory special register. -/
  | mtsr (i : Issue) (rd : Fin 32) (ra : Fin 32) (imm : BitVec 12)
  /-- INTERRUPT_TAKE (R558): A deliverable interrupt is taken at an instruction boundary and its source delivered. -/
  | interruptTake (c : Fin 4)
  /-- INSVC_END (R558): A write of 1 to an INSVC bit ends the service of that priority. -/
  | insvcEnd (c : Fin 4) (plat : Bool) (p : Fin 16)
  /-- SWI_SET (R559): A write to SUP_SWI_SET makes a software source pending. -/
  | swiSet (n : BitVec 10)
  /-- SWI_CLR (R559): A write to SUP_SWI_CLR clears a pending software source. -/
  | swiClr (n : BitVec 10)
  /-- GOOSE_REPEAT (R581): A GOOSE repeat interval expires and the state is sent again with the next sqNum. -/
  | gooseRepeat (n : Fin 4352)
  /-- CLOG_POP (R588): A read of PUB_CLOG_W3 removes the head of the correction log. -/
  | clogPop (who : Requester)
  /-- PUB_FLIP (R571): PUB_CMD.FLIP switches the active publication epoch. -/
  | pubFlip
  /-- PUB_ENTRY_WRITE (R573): A write to a publication entry is accepted only in an inactive, drained epoch and checked when it sets EN. -/
  | pubEntryWrite (e : Fin 2) (n : Fin 4352) (w : Fin 8) (value : Word)
  /-- PUB_CNT_CLR (R605): PUB_CMD.CNT_CLR zeroes every PUB counter. -/
  | pubCntClr
  /-- PUB_SCMD_STDN (R589): PUB_SCMD.GO issues a software STAND-DOWN of a kind 2 publication. -/
  | pubScmdStdn (n : Fin 4352)
  /-- GOOSE_RECEIVE (R597): A received GOOSE frame is matched, checked and written to its subscription record, with event posts. -/
  | gooseReceive
  /-- GOOSE_TAL_EXPIRE (R598): A subscription's timeAllowedtoLive passes and its record is marked EXPIRED and invalid. -/
  | gooseTalExpire (m : Fin 4096)
  /-- ALIVE_TOGGLE (R602): Every 500 µs ALIVE toggles while enabled and the cluster runs. -/
  | aliveToggle
  /-- CAP_SW_TRIG (R621): CAP_u_CMD.TRIG triggers the unit by software. -/
  | capSwTrig (u : Fin 16)
  /-- CAP_ARM (R623): CAP_u_CMD.ARM moves a halted unit to ARMED or WAIT. -/
  | capArm (u : Fin 16)
  /-- CAP_DISARM (R623): CAP_u_CMD.DISARM moves the unit to HALT and discards pre-trigger rows. -/
  | capDisarm (u : Fin 16)
  /-- CAP_ENABLE (R634): A write of EN = 1 checks the configuration and arms the unit, or is refused. -/
  | capEnable (u : Fin 16) (value : Word)
  /-- CAP_DISABLE (R623): A write of EN = 0 turns the unit OFF and abandons a record in progress. -/
  | capDisable (u : Fin 16) (value : Word)
  /-- CAP_RECORD_CLOSE (R624): After its last row and rewrite, a record writes its directory entry and advances WIDX. -/
  | capRecordClose (u : Fin 16)
  /-- CAP_REARM (R630): A unit in WAIT enters ARMED once ring and directory space permit. -/
  | capRearm (u : Fin 16)
  /-- CAP_RDPTR_WRITE (R631): A write of RDPTR releases ring space, or is refused. -/
  | capRdptrWrite (u : Fin 16) (value : Word)
  /-- CAP_RIDX_WRITE (R631): A write of RIDX releases directory entries, or is refused. -/
  | capRidxWrite (u : Fin 16) (value : Word)
  /-- MEM_REQUEST (R654): A requester presents a burst to a bank or channel arbiter, which grants and serves it. -/
  | memRequest (bursts : List Burst)
  /-- SCRUB_READ (R650): The scrubber reads a word in an idle cycle and corrects errors. -/
  | scrubRead (addr : BitVec 40)
  /-- DRAM_REFRESH (R642): The controller performs a per-bank refresh at the temperature-scaled rate. -/
  | dramRefresh (rate : Fin 4)
  /-- MEM_INJ_ARM (R651): MEM_CMD.INJ arms an error injection at the named word. -/
  | memInjArm
  /-- MEM_LOG_CLR (R649): MEM_CMD.LOG_CLR empties the error log. -/
  | memLogClr
  /-- MEM_CNT_CLR (R666): MEM_CMD.CNT_CLR zeroes every MEM counter. -/
  | memCntClr
  /-- SRAM_ZERO_DONE (R640): SRAM zeroing finishes and SRAM_RDY sets. -/
  | sramZeroDone
  /-- DRAM_TRAIN_FAIL (R644): DRAM training fails and TRAIN_FAIL sets. -/
  | dramTrainFail
  /-- DRAM_ZERO_DONE (R644): DRAM zeroing after training finishes and DRAM_RDY sets. -/
  | dramZeroDone
  /-- DMV_TAIL_WRITE (R669): A write of TAIL hands descriptors to the mover, or is refused. -/
  | dmvTailWrite (m : Fin 16) (value : Word)
  /-- DMV_COPY (R673): A mover takes a copy descriptor and moves its bytes through the funnel. -/
  | dmvCopy (m : Fin 16)
  /-- DMV_DESC_COMPLETE (R682): A descriptor completes with write-back of BYTES and DONE, and an error halts the mover. -/
  | dmvDescComplete (m : Fin 16)
  /-- DMV_RESUME (R682): DMV_m_CMD.RESUME restarts a halted mover at HEAD. -/
  | dmvResume (m : Fin 16)
  /-- DMV_DISABLE (R683): A write of EN = 0 ends the mover after the burst in progress. -/
  | dmvDisable (m : Fin 16)
  /-- DMV_RX_FRAME (R686): An RXH mover places a HOST frame into receive buffers and writes back its descriptors. -/
  | dmvRxFrame (m : Fin 16)
  /-- DMV_TX_FRAME (R689): A TXH mover reads a frame's buffers and passes it to SWC on HOST. -/
  | dmvTxFrame (m : Fin 16)
  /-- DMV_CNT_CLR (R691): DMV_CMD.CNT_CLR zeroes every DMV counter. -/
  | dmvCntClr
  /-- KEY_WRITE (R696): Key WRITE stores a key and attributes into a slot, or is refused. -/
  | keyWrite (who : Requester) (slot : Fin 8192)
  /-- KEY_READ (R696): Key READ copies a slot's attributes without key bits. -/
  | keyRead (who : Requester) (slot : Fin 8192)
  /-- KEY_ERASE (R696): Key ERASE sets a slot to zero. -/
  | keyErase (who : Requester) (slot : Fin 8192)
  /-- KEY_LINK (R696): Key LINK writes only EXPIRY and NEXT of a slot. -/
  | keyLink (who : Requester) (slot : Fin 8192)
  /-- KEY_COMMIT (R697): A key command's NVS commit finishes and BUSY clears, or the slot keeps its old contents. -/
  | keyCommit (good : Bool)
  /-- KEY_EXPIRE (R700): At a tick boundary reaching EXPIRY a slot becomes EXPIRED. -/
  | keyExpire
  /-- ENG_HMAC_INIT (R707): HMAC_INIT starts a supervisory MAC with a slot. -/
  | engHmacInit (who : Requester) (slot : Fin 8192)
  /-- ENG_DIN (R707): A write of SEC_ENG_DIN appends four bytes to the running HMAC. -/
  | engDin (who : Requester) (value : Word)
  /-- ENG_HMAC_FINAL (R707): HMAC_FINAL produces the MAC into the data buffer. -/
  | engHmacFinal (who : Requester) (tailb : Fin 4)
  /-- ENG_SIGN256 (R707): SIGN256 signs a digest with an ECDSA P-256 slot. -/
  | engSign256 (who : Requester) (slot : Fin 8192)
  /-- ENG_VERIFY256 (R707): VERIFY256 verifies a P-256 signature. -/
  | engVerify256 (who : Requester)
  /-- ENG_VERIFY384 (R707): VERIFY384 verifies a P-384 signature. -/
  | engVerify384 (who : Requester)
  /-- ENG_COMPLETE (R708): An engine operation completes, writes its result and sets ENG_DONE. -/
  | engComplete
  /-- LC_PROVISION (R710): LC PROVISION moves BLANK to PROVISION. -/
  | lcProvision (who : Requester) (key : BitVec 16)
  /-- LC_OWNER_ROOT (R710): LC OWNER_ROOT writes the owner root once in PROVISION. -/
  | lcOwnerRoot (who : Requester) (key : BitVec 16)
  /-- LC_FIELD (R710): LC FIELD generates the field root and moves PROVISION to FIELD. -/
  | lcField (who : Requester) (key : BitVec 16)
  /-- LC_RMA (R711): LC RMA with a valid token erases secrets and moves to RMA. -/
  | lcRma (who : Requester) (key : BitVec 16)
  /-- LC_SCRAP (R710): LC SCRAP erases NVS and moves to SCRAP. -/
  | lcScrap (who : Requester) (key : BitVec 16)
  /-- LC_RELOCK (R710): LC RELOCK clears UNLOCKED on a FIELD module. -/
  | lcRelock (who : Requester) (key : BitVec 16)
  /-- LC_CHALLENGE (R711): LC CHALLENGE writes 32 random bytes for an RMA token. -/
  | lcChallenge (who : Requester) (key : BitVec 16)
  /-- LC_COMPLETE (R712): A life-cycle transition completes in NVS and gives LCT. -/
  | lcComplete (good : Bool)
  /-- SEC_ZEROISE (R718): SEC_CMD.ZEROISE starts erasing every key slot. -/
  | secZeroise (who : Requester)
  /-- ZEROISE_DONE (R718): Zeroise finishes and ZERO_DONE sets. -/
  | zeroiseDone
  /-- SEC_CNT_CLR (R726): SEC_CMD.CNT_CLR zeroes SEC_KEYUNAVAIL. -/
  | secCntClr (who : Requester)
  /-- MR_EXTEND (R719): A write of SEC_MR_EXT extends a measurement register with SHA-384. -/
  | mrExtend (who : Requester) (i : Fin 16)
  /-- TDIG_WRITE (R720): TDIG WRITE stores a tenant image digest, or is refused. -/
  | tdigWrite (who : Requester) (t : Fin 1024) (slot : Fin 2)
  /-- TDIG_READ (R721): TDIG READ copies a tenant image digest to the data buffer. -/
  | tdigRead (who : Requester) (t : Fin 1024) (slot : Fin 2)
  /-- ENSIGN_GO (R722): ENS_CMD.GO snapshots the inputs and starts an Ensign statement. -/
  | ensignGo (who : Requester)
  /-- ENSIGN_DONE (R722): Ensign generation increments and commits SEC_MONO, signs and writes the statement. -/
  | ensignDone (good : Bool)
  /-- POR (R728): PWR_GOOD low or VDD_AON below threshold holds the whole module in reset. -/
  | por (damaged : List (Fin 8192))
  /-- PIN (R729): RESET_N low for at least 1 µs resets every field but classes P and N. -/
  | pin
  /-- SSR (R728): SYS_RST_CMD OP SSR gives a software system reset. -/
  | ssr (who : Requester) (key : BitVec 16)
  /-- RESET_CLR (R731): SYS_RST_CMD OP CLR stops the cycle cluster, stops tenants and resets class C fields. -/
  | resetClr (who : Requester) (key : BitVec 16)
  /-- RESET_RELEASE (R728): A held reset is released and the module starts from its reset state. -/
  | resetRelease
  /-- BOOT_ROM (R749): S0 runs the boot ROM, verifies and loads a boot copy and jumps to it. -/
  | bootRom
  /-- PWR_LULL (R739): SYS_PWR_CMD LULL gates the cycle cores and CK_SIG, or is refused. -/
  | pwrLull (who : Requester) (key : BitVec 16)
  /-- PWR_RUN (R738): SYS_PWR_CMD RUN resumes clocks from Lull. -/
  | pwrRun (who : Requester) (key : BitVec 16)
  /-- PWR_CALM (R738): SYS_PWR_CMD CALM starts Calm entry. -/
  | pwrCalm (who : Requester) (key : BitVec 16)
  /-- CALM_ENTER (R742): Once pending operations end, the module enters Calm with only the always-on domain running. -/
  | calmEnter
  /-- WAKE_TIMER (R743): TOD seconds reaching SYS_WAKE_SEC wakes the module from Calm. -/
  | wakeTimer
  /-- WAKE_GPIO (R743): The selected GPIO[0] edge wakes the module from Calm. -/
  | wakeGpio (rising : Bool)
  /-- WDT_ENABLE (R754): A write of SYS_WDT_CFG.EN starts the global watchdog. -/
  | wdtEnable (who : Requester) (value : Word)
  /-- WDT_KICK (R754): A kick pair restarts the global watchdog; a wrong value gives WDR. -/
  | wdtKick (who : Requester) (value : Word)
  /-- WDT_HALF (R754): Half of TIMEOUT passes without a kick and WDT_HALF sets. -/
  | wdtHalf
  /-- WDT_EXPIRE (R754): The global watchdog expires. -/
  | wdtExpire
  /-- CORE_RELEASE (R746): A write of SYS_CORE_REL releases S1 to S3 from reset. -/
  | coreRelease (who : Requester) (value : Word)
  /-- UNMAP_LOG_CLEAR (R756): Clearing SYS_STATUS.UNMAP empties the unmapped access log. -/
  | unmapLogClear
  /-- NVS_WRITE (R758): NVS WRITE copies bytes from memory to NVS, or is refused. -/
  | nvsWrite (who : Requester)
  /-- NVS_ERASE (R758): NVS ERASE sets bytes of NVS to 0xFF, or is refused. -/
  | nvsErase (who : Requester)
  /-- NVS_BKD (R758): NVS BKD stores a boot-key digest in an unset slot, or is refused. -/
  | nvsBkd (who : Requester) (index : Fin 4)
  /-- NVS_CMD_DONE (R758): An NVS command completes or fails and sets NVS_DONE or NVS_ERR. -/
  | nvsCmdDone (good : Bool)
  /-- NVS_REFRESH (R797): In idle NVS time the controller rewrites pages due for refresh. -/
  | nvsRefresh
  /-- TAP_RESET (R760): DBG_TRST_N low resets the TAP to Test-Logic-Reset. -/
  | tapReset
  /-- TAP_IDCODE (R761): IDCODE selects the identification register. -/
  | tapIdcode
  /-- TAP_SAMPLE_PRELOAD (R761): SAMPLE/PRELOAD captures or loads the boundary scan register. -/
  | tapSamplePreload (op : ScanOp)
  /-- TAP_EXTEST (R762): EXTEST drives the balls from the boundary scan cells. -/
  | tapExtest (op : ScanOp)
  /-- TAP_CLAMP (R762): CLAMP holds the outputs from the scan cells with bypass selected. -/
  | tapClamp
  /-- TAP_HIGHZ (R762): HIGHZ puts the scanned outputs at high impedance. -/
  | tapHighz
  /-- TAP_BYPASS (R761): BYPASS, or any instruction used outside its availability, selects the 1-bit bypass. -/
  | tapBypass
  /-- DBG_READ32 (R766): DBGACC READ32 reads 32 bits at a physical address. -/
  | dbgRead32 (addr : BitVec 40)
  /-- DBG_WRITE32 (R766): DBGACC WRITE32 writes 32 bits at a physical address. -/
  | dbgWrite32 (addr : BitVec 40) (value : Word)
  /-- DBG_READ64 (R766): DBGACC READ64 reads 64 bits at a physical address. -/
  | dbgRead64 (addr : BitVec 40)
  /-- DBG_WRITE64 (R766): DBGACC WRITE64 writes 64 bits at a physical address. -/
  | dbgWrite64 (addr : BitVec 40) (value : DWord)
  /-- DBG_CHALLENGE (R764): A Capture-DR of DBGCHAL forms a new unlock challenge. -/
  | dbgChallenge
  /-- DBG_RESPONSE (R764): An Update-DR of DBGRESP submits a response that unlocks debug or fails. -/
  | dbgResponse (response : BitVec 256)
  /-- DBG_CHAL_HOLDOFF_END (R764): 1 s after a failed submission, DBGCHAL may form a new challenge. -/
  | dbgChalHoldoffEnd
  /-- DBG_HALT (R768): DBG_n_CTL.HALT stops a core at its next interrupt point. -/
  | dbgHalt (n : Fin 68)
  /-- DBG_RESUME (R768): DBG_n_CTL.RESUME continues a halted core. -/
  | dbgResume (n : Fin 68)
  /-- DBG_STEP (R768): DBG_n_CTL.STEP executes one instruction and halts again. -/
  | dbgStep (n : Fin 68)
  /-- BREAKPOINT_HIT (R771): An instruction breakpoint matches and the core halts before the instruction. -/
  | breakpointHit (n : Fin 68)
  /-- CREG_ACCESS (R772): A read or write of DBG_n_CREG_DATA accesses a halted core's register. -/
  | cregAccess (who : Requester) (n : Fin 68) (value : Option DWord)
  /-- DEBUG_RESET (R773): A write of the key to DBG_RST gives DBR. -/
  | debugReset (key : BitVec 16)
  /-- DBG_AUTH_WRITE (R775): A Platform write of DBG_AUTH sets the authorising slot once. -/
  | dbgAuthWrite (who : Requester) (value : Word)
  /-- SELF_REFRESH_ENTRY (R740): In Lull the DRAM controller returns the devices to self-refresh after 10 µs without an access. -/
  | selfRefreshEntry
  /-- RAIL_OUT_OF_RANGE (R788): A supply rail leaves its operating range while PWR_GOOD stays high; ALIVE stops toggling after at most one further transition and SAFE_OUT is driven only while VDD_AON is above its threshold. -/
  | railOutOfRange (aon : Bool)
  deriving DecidableEq, Repr

end Sys2Proof
end

