-- ==== Sys2Proof/Decode.lean ====
section
/-!
DEFINITION. Decode.lean: the command that a word spells by the bits of the command table, of which no row gives any, and the command
that an instruction word of a core stands for.
-/

namespace Sys2Proof

/-- No word spells a command: commands come with their operands, not as words. -/
def decodeTableWord (_nbits _w : Nat) : Option Instr := none

/-- A field of an instruction word: `n` bits from bit `lo` (R484). -/
def wordField (w : BitVec 32) (lo n : Nat) : Fin (2 ^ n) := (w.extractLsb' lo n).toFin

/-- A word that spells no instruction: one that raises ILLEGAL (R486). -/
def noInstr (i : Issue) : Instr := .alu i 0 0 0 127

/-- A word of OP 0x3C to 0x3F that spells no instruction: one that raises PRIV on a cycle core and ILLEGAL on a supervisory core
(R486, R555). -/
def noSysInstr (i : Issue) : Instr := .upcall i 1 0 0

/-- The R format words whose FN picks the instruction (R487, R507, R527, R535, R539). -/
def fnInstr (i : Issue) (op fn : Nat) (rd ra rb : Fin 32) : Instr :=
  match op, fn with
  | 0x1A, 0 => .jr i rd ra rb
  | 0x1A, 1 => .jlr i rd ra rb
  | 0x32, 0 => .evpop i rd ra rb
  | 0x32, 1 => .evpeek i rd ra rb
  | 0x32, 2 => .evcnt i rd ra rb
  | 0x32, 3 => .osqpost i rd ra rb
  | 0x34, 0 => .nop i rd ra rb
  | 0x34, 1 => .fence i rd ra rb
  | 0x34, 2 => .brk i rd ra rb
  | 0x39, 0 => .pdft i rd ra rb
  | 0x39, 1 => .pswf i rd ra rb
  | 0x39, 2 => .pswq i rd ra rb
  | 0x39, 3 => .pmag i rd ra rb
  | 0x39, 4 => .pang i rd ra rb
  | 0x39, 5 => .pseq01 i rd ra rb
  | 0x39, 6 => .pseq2 i rd ra rb
  | 0x3A, 0 => .pubv i rd ra rb
  | 0x3A, 1 => .trip i rd ra rb
  | 0x3A, 2 => .arm i rd ra rb
  | 0x3A, 3 => .stdn i rd ra rb
  | 0x3B, 0 => .yield i rd ra rb
  | 0x3B, 1 => .bq i rd ra rb
  | _, _ => noInstr i

/-- The words of SYS by FN (R555). -/
def sysInstr (i : Issue) (fn : Nat) (rd ra rb : Fin 32) : Instr :=
  match fn with
  | 0 => .upcall i rd ra rb
  | 1 => .tret i rd ra rb
  | 2 => .idle i rd ra rb
  | 3 => .isync i rd ra rb
  | 4 => .xlfAll i rd ra rb
  | 5 => .xlfTag i rd ra rb
  | 6 => .xlfVa i rd ra rb
  | 7 => .xlfVax i rd ra rb
  | 8 => .dcwb i rd ra rb
  | 9 => .dcdrop i rd ra rb
  | 10 => .dcwbd i rd ra rb
  | _ => noSysInstr i

/-- The command that the word of an instruction stands for on a core: guard, OP, and the fields of its format (R484, R487). -/
def coreWord (core : Fin 68) (w : BitVec 32) : Instr :=
  let i : Issue := ⟨core, w.getLsbD 31, wordField w 28 3⟩
  let op := (wordField w 22 6).val
  let rd := wordField w 17 5
  let ra := wordField w 12 5
  let rb := wordField w 7 5
  let fn := wordField w 0 7
  let imm := w.extractLsb' 0 12
  let half := w.extractLsb' 0 16
  match op with
  | 0x01 => .alu i rd ra rb fn
  | 0x02 => .aluw i rd ra rb fn
  | 0x03 => .addi i rd ra imm
  | 0x04 => .addiw i rd ra imm
  | 0x05 => .andi i rd ra imm
  | 0x06 => .ori i rd ra imm
  | 0x07 => .xori i rd ra imm
  | 0x08 => .shi i rd ra imm
  | 0x09 => .muldiv i rd ra rb fn
  | 0x0A => .cmp i (wordField w 20 2) (wordField w 17 3) ra rb fn
  | 0x0B => .cmpi i (wordField w 20 2) (wordField w 17 3) ra (wordField w 8 4) (w.extractLsb' 0 8)
  | 0x0C => .pred i rd ra rb fn
  | 0x0D => .sel i rd ra rb fn
  | 0x10 => .lih i 0 rd (w.getLsbD 16) half
  | 0x11 => .lih i 1 rd (w.getLsbD 16) half
  | 0x12 => .lih i 2 rd (w.getLsbD 16) half
  | 0x13 => .lih i 3 rd (w.getLsbD 16) half
  | 0x14 => .orh i 0 rd (w.getLsbD 16) half
  | 0x15 => .orh i 1 rd (w.getLsbD 16) half
  | 0x16 => .orh i 2 rd (w.getLsbD 16) half
  | 0x17 => .orh i 3 rd (w.getLsbD 16) half
  | 0x18 => .b i (w.extractLsb' 0 22)
  | 0x19 => .bl i (w.extractLsb' 0 22)
  | 0x20 => .load i 0 rd ra imm
  | 0x21 => .load i 1 rd ra imm
  | 0x22 => .load i 2 rd ra imm
  | 0x23 => .load i 3 rd ra imm
  | 0x24 => .load i 4 rd ra imm
  | 0x25 => .load i 5 rd ra imm
  | 0x26 => .load i 6 rd ra imm
  | 0x27 => .vld i rd ra imm
  | 0x28 => .store i 0 rd ra imm
  | 0x29 => .store i 1 rd ra imm
  | 0x2A => .store i 2 rd ra imm
  | 0x2B => .store i 3 rd ra imm
  | 0x2C => .vst i rd ra imm
  | 0x2D => .ldx i rd ra rb fn
  | 0x2E => .stx i rd ra rb fn
  | 0x2F => .atom i rd ra rb fn
  | 0x30 => .gacq i rd ra imm
  | 0x31 => .grel i rd ra imm
  | 0x33 => .mfsr i rd ra imm
  | 0x35 => .vint i rd ra rb fn
  | 0x36 => .vflt i rd ra rb fn
  | 0x37 => .vcpx i rd ra rb fn
  | 0x38 => .vmov i rd ra rb fn
  | 0x3C => sysInstr i fn.val rd ra rb
  | 0x3D => .mtsr i rd ra imm
  | 0x3E => noSysInstr i
  | 0x3F => noSysInstr i
  | op => fnInstr i op fn.val rd ra rb

end Sys2Proof
end

