-- ==== Sys2Proof/Machine/Bits.lean ====
section
/-!
DEFINITION. Machine/Bits.lean: bit fields, sign, byte order and bounded counting, on natural numbers.
-/

namespace Sys2Proof.Machine

/-- Bits `[hi:lo]` of a number (R10 writes bit ranges msb first). -/
def bits (v hi lo : Nat) : Nat := (v / 2 ^ lo) % 2 ^ (hi + 1 - lo)

/-- One bit of a number. -/
def bit (v i : Nat) : Bool := Nat.testBit v i

/-- `v` with its bits `[hi:lo]` replaced by the low bits of `x`. -/
def putBits (v hi lo x : Nat) : Nat :=
  v - bits v hi lo * 2 ^ lo + (x % 2 ^ (hi + 1 - lo)) * 2 ^ lo

/-- 1 for true, 0 for false. -/
def b2n (b : Bool) : Nat := if b then 1 else 0

/-- The two's complement reading of the low `w` bits. -/
def toSigned (w v : Nat) : Int :=
  let u := v % 2 ^ w
  if u < 2 ^ (w - 1) then (u : Int) else (u : Int) - 2 ^ w

/-- The low `w` bits of an integer in two's complement. -/
def ofSigned (w : Nat) (i : Int) : Nat := (i % ((2 : Int) ^ w)).toNat

/-- An integer held inside the signed range of `w` bits. -/
def clampSigned (w : Nat) (i : Int) : Int :=
  max (-(2 : Int) ^ (w - 1)) (min i ((2 : Int) ^ (w - 1) - 1))

/-- An integer held inside `[lo, hi]`. -/
def clampTo (lo hi i : Int) : Int := max lo (min i hi)

/-- The `n` bytes of a number, lowest first (R16: registers and memory are little-endian). -/
def leBytes : Nat → Nat → List Byte
  | 0, _ => []
  | n + 1, v => BitVec.ofNat 8 v :: leBytes n (v / 256)

/-- The number that bytes in little-endian order stand for. -/
def ofLe : List Byte → Nat
  | [] => 0
  | b :: bs => b.toNat + 256 * ofLe bs

/-- The number that bytes in network order stand for (R16, R801). -/
def ofBe (bs : List Byte) : Nat := bs.foldl (fun a b => a * 256 + b.toNat) 0

/-- The `n` bytes of a number in network order. -/
def beBytes (n v : Nat) : List Byte := (leBytes n v).reverse

/-- Integer division rounding towards minus infinity. -/
def idivFloor (a b : Int) : Int := a.fdiv b

/-- Shift right rounding towards minus infinity. -/
def sarInt (a : Int) (n : Nat) : Int := a.fdiv ((2 : Int) ^ n)

/-- `n` items of a list from position `i`, with a filler past the end. -/
def sliceD {α : Type} (d : α) (xs : List α) (i n : Nat) : List α :=
  (List.range n).map fun k => (xs[i + k]?).getD d

/-- The bytes of a list from position `i`, `n` of them, as a network-order number; 0 past the end. -/
def beAt (xs : List Byte) (i n : Nat) : Nat := ofBe (sliceD 0 xs i n)

/-- A list with the items from position `i` replaced by `ys` where they exist. -/
def overlay {α : Type} (xs : List α) (i : Nat) (ys : List α) : List α :=
  (xs.zipIdx).map fun (x, k) => if i ≤ k ∧ k < i + ys.length then (ys[k - i]?).getD x else x

/-- A list with position `i` replaced by `f` of it. -/
def modifyAt {α : Type} (f : α → α) : Nat → List α → List α
  | _, [] => []
  | 0, x :: xs => f x :: xs
  | n + 1, x :: xs => x :: modifyAt f n xs

end Sys2Proof.Machine
end

