-- ==== Sys2Proof/Machine/Crypto.lean ====
section
/-!
DEFINITION. Machine/Crypto.lean: the standard algorithms the manual names: SHA-256 and SHA-384 (FIPS 180-4), HMAC, HKDF-SHA384
(RFC 5869), AES and GMAC (FIPS 197, SP 800-38D), ECDSA over P-256 and P-384 (FIPS 186-5). Byte strings are lists of bytes.
-/

namespace Sys2Proof.Machine

/-! ## SHA-2 -/

/-- Round constants of SHA-512, part 0. -/
def shaK0 : List Nat :=
  [0x428A2F98D728AE22, 0x7137449123EF65CD, 0xB5C0FBCFEC4D3B2F, 0xE9B5DBA58189DBBC,
   0x3956C25BF348B538, 0x59F111F1B605D019, 0x923F82A4AF194F9B, 0xAB1C5ED5DA6D8118,
   0xD807AA98A3030242, 0x12835B0145706FBE, 0x243185BE4EE4B28C, 0x550C7DC3D5FFB4E2,
   0x72BE5D74F27B896F, 0x80DEB1FE3B1696B1, 0x9BDC06A725C71235, 0xC19BF174CF692694,
   0xE49B69C19EF14AD2, 0xEFBE4786384F25E3, 0xFC19DC68B8CD5B5, 0x240CA1CC77AC9C65]

/-- Round constants of SHA-512, part 1. -/
def shaK1 : List Nat :=
  [0x2DE92C6F592B0275, 0x4A7484AA6EA6E483, 0x5CB0A9DCBD41FBD4, 0x76F988DA831153B5,
   0x983E5152EE66DFAB, 0xA831C66D2DB43210, 0xB00327C898FB213F, 0xBF597FC7BEEF0EE4,
   0xC6E00BF33DA88FC2, 0xD5A79147930AA725, 0x6CA6351E003826F, 0x142929670A0E6E70,
   0x27B70A8546D22FFC, 0x2E1B21385C26C926, 0x4D2C6DFC5AC42AED, 0x53380D139D95B3DF,
   0x650A73548BAF63DE, 0x766A0ABB3C77B2A8, 0x81C2C92E47EDAEE6, 0x92722C851482353B]

/-- Round constants of SHA-512, part 2. -/
def shaK2 : List Nat :=
  [0xA2BFE8A14CF10364, 0xA81A664BBC423001, 0xC24B8B70D0F89791, 0xC76C51A30654BE30,
   0xD192E819D6EF5218, 0xD69906245565A910, 0xF40E35855771202A, 0x106AA07032BBD1B8,
   0x19A4C116B8D2D0C8, 0x1E376C085141AB53, 0x2748774CDF8EEB99, 0x34B0BCB5E19B48A8,
   0x391C0CB3C5C95A63, 0x4ED8AA4AE3418ACB, 0x5B9CCA4F7763E373, 0x682E6FF3D6B2B8A3,
   0x748F82EE5DEFB2FC, 0x78A5636F43172F60, 0x84C87814A1F0AB72, 0x8CC702081A6439EC]

/-- Round constants of SHA-512, part 3. -/
def shaK3 : List Nat :=
  [0x90BEFFFA23631E28, 0xA4506CEBDE82BDE9, 0xBEF9A3F7B2C67915, 0xC67178F2E372532B,
   0xCA273ECEEA26619C, 0xD186B8C721C0C207, 0xEADA7DD6CDE0EB1E, 0xF57D4F7FEE6ED178,
   0x6F067AA72176FBA, 0xA637DC5A2C898A6, 0x113F9804BEF90DAE, 0x1B710B35131C471B,
   0x28DB77F523047D84, 0x32CAAB7B40C72493, 0x3C9EBE0A15C9BEBC, 0x431D67C49C100D4C,
   0x4CC5D4BECB3E42B6, 0x597F299CFC657E2A, 0x5FCB6FAB3AD6FAEC, 0x6C44198C4A475817]

/-- The round constants of SHA-384; their high halves serve SHA-256. -/
def shaK : List Nat := shaK0 ++ shaK1 ++ shaK2 ++ shaK3

/-- The initial hash value of SHA-256. -/
def sha256Init : List Nat :=
  [0x6A09E667, 0xBB67AE85, 0x3C6EF372, 0xA54FF53A,
   0x510E527F, 0x9B05688C, 0x1F83D9AB, 0x5BE0CD19]

/-- The initial hash value of SHA-384. -/
def sha384Init : List Nat :=
  [0xCBBB9D5DC1059ED8, 0x629A292A367CD507, 0x9159015A3070DD17, 0x152FECD8F70E5939,
   0x67332667FFC00B31, 0x8EB44A8768581511, 0xDB0C2E0D64F98FA7, 0x47B5481DBEFA4FA4]

/-- What distinguishes SHA-256 from SHA-384: the word width, the rounds' constants, and the rotation amounts. -/
structure ShaForm where
  w : Nat
  ks : List Nat
  big0 : Nat × Nat × Nat
  big1 : Nat × Nat × Nat
  small0 : Nat × Nat × Nat
  small1 : Nat × Nat × Nat

/-- SHA-256. -/
def sha256Form : ShaForm :=
  { w := 32
    ks := (shaK.take 64).map (· / 2 ^ 32)
    big0 := (2, 13, 22)
    big1 := (6, 11, 25)
    small0 := (7, 18, 3)
    small1 := (17, 19, 10) }

/-- SHA-384, over 64-bit words. -/
def sha384Form : ShaForm :=
  { w := 64
    ks := shaK
    big0 := (28, 34, 39)
    big1 := (14, 18, 41)
    small0 := (1, 8, 7)
    small1 := (19, 61, 6) }

/-- Rotate right in `w` bits. -/
def rotr (w x n : Nat) : Nat := (x / 2 ^ n) ||| ((x * 2 ^ (w - n)) % 2 ^ w)

/-- A capital sigma. -/
def shaBig (w : Nat) (r : Nat × Nat × Nat) (x : Nat) : Nat := rotr w x r.1 ^^^ rotr w x r.2.1 ^^^ rotr w x r.2.2

/-- A small sigma: its last amount is a shift. -/
def shaSmall (w : Nat) (r : Nat × Nat × Nat) (x : Nat) : Nat := rotr w x r.1 ^^^ rotr w x r.2.1 ^^^ x / 2 ^ r.2.2

/-- The message schedule, newest word first, after `n` more words. -/
def shaSchedule (f : ShaForm) : Nat → List Nat → List Nat
  | 0, ws => ws
  | n + 1, ws =>
    let x := shaSmall f.w f.small1 (ws.getD 1 0) + ws.getD 6 0 + shaSmall f.w f.small0 (ws.getD 14 0) + ws.getD 15 0
    shaSchedule f n (x % 2 ^ f.w :: ws)

/-- One round on the eight working variables. -/
def shaRound (f : ShaForm) (v : List Nat) (k w : Nat) : List Nat :=
  match v with
  | [a, b, c, d, e, g, h, i] =>
    let m := 2 ^ f.w
    let t1 := i + shaBig f.w f.big1 e + ((e &&& g) ^^^ ((m - 1 - e) &&& h)) + k + w
    let t2 := shaBig f.w f.big0 a + ((a &&& b) ^^^ (a &&& c) ^^^ (b &&& c))
    [(t1 + t2) % m, a, b, c, (d + t1) % m, e, g, h]
  | _ => v

/-- One block. -/
def shaBlock (f : ShaForm) (h : List Nat) (block : List Byte) : List Nat :=
  let n := f.w / 8
  let ws := (List.range 16).map fun i => beAt block (i * n) n
  let sched := (shaSchedule f (f.ks.length - 16) ws.reverse).reverse
  let v := (f.ks.zip sched).foldl (fun v kw => shaRound f v kw.1 kw.2) h
  (h.zip v).map fun (x, y) => (x + y) % 2 ^ f.w

/-- The blocks of a padded message. -/
def shaBlocks (f : ShaForm) : Nat → List Nat → List Byte → List Nat
  | 0, h, _ => h
  | n + 1, h, bs => shaBlocks f n (shaBlock f h (bs.take (2 * f.w))) (bs.drop (2 * f.w))

/-- The message with its padding: a one bit, zeros, and the length in two words. -/
def shaPad (f : ShaForm) (bs : List Byte) : List Byte :=
  let b := 2 * f.w
  let z := (2 * b - (bs.length + 1 + f.w / 4) % b) % b
  bs ++ (0x80 : Byte) :: List.replicate z 0 ++ beBytes (f.w / 4) (bs.length * 8)

/-- The hash words of a message. -/
def shaWords (f : ShaForm) (init : List Nat) (bs : List Byte) : List Nat :=
  let p := shaPad f bs
  shaBlocks f (p.length / (2 * f.w)) init p

/-- SHA-256. -/
def sha256 (bs : List Byte) : List Byte := (shaWords sha256Form sha256Init bs).flatMap (beBytes 4)

/-- SHA-384. -/
def sha384 (bs : List Byte) : List Byte := ((shaWords sha384Form sha384Init bs).flatMap (beBytes 8)).take 48

/-! ## HMAC and HKDF -/

/-- HMAC over a hash of a block length. -/
def hmacOver (hash : List Byte → List Byte) (block : Nat) (key msg : List Byte) : List Byte :=
  let k := if block < key.length then hash key else key
  let k := k ++ List.replicate (block - k.length) 0
  hash (k.map (· ^^^ 0x5C) ++ hash (k.map (· ^^^ 0x36) ++ msg))

/-- HMAC-SHA256. -/
def hmac256 (key msg : List Byte) : List Byte := hmacOver sha256 64 key msg

/-- HMAC-SHA384. -/
def hmac384 (key msg : List Byte) : List Byte := hmacOver sha384 128 key msg

/-- The blocks T(1), T(2), … of HKDF's expansion. -/
def hkdfBlocks (prk info : List Byte) : Nat → Nat → List Byte → List Byte
  | 0, _, _ => []
  | n + 1, i, t =>
    let t' := hmac384 prk (t ++ info ++ [BitVec.ofNat 8 i])
    t' ++ hkdfBlocks prk info n (i + 1) t'

/-- HKDF-SHA384 (R714). -/
def hkdf384 (ikm salt info : List Byte) (len : Nat) : List Byte :=
  (hkdfBlocks (hmac384 salt ikm) info ((len + 47) / 48) 1 []).take len

/-! ## AES and GMAC -/

/-- Multiplication by x in the field of AES. -/
def aesX (a : Nat) : Nat := if 128 ≤ a then (a * 2 % 256) ^^^ 0x1B else a * 2

/-- Multiplication in the field of AES, over the low `n` bits of the second factor. -/
def aesMul : Nat → Nat → Nat → Nat
  | 0, _, _ => 0
  | n + 1, a, b => (if b % 2 = 1 then a else 0) ^^^ aesMul n (aesX a) (b / 2)

/-- The inverse in the field of AES, as the power 254; 0 for 0. -/
def aesInv (a : Nat) : Nat :=
  let sq (x : Nat) := aesMul 8 x x
  let p2 := sq a
  let p4 := sq p2
  let p8 := sq p4
  let p16 := sq p8
  let p32 := sq p16
  let p64 := sq p32
  let p128 := sq p64
  [p4, p8, p16, p32, p64, p128].foldl (aesMul 8) p2

/-- Rotate a byte left. -/
def rotl8 (x n : Nat) : Nat := (x * 2 ^ n) % 256 ||| x / 2 ^ (8 - n)

/-- The S-box. -/
def aesSub (a : Nat) : Nat :=
  let b := aesInv a
  b ^^^ rotl8 b 1 ^^^ rotl8 b 2 ^^^ rotl8 b 3 ^^^ rotl8 b 4 ^^^ 0x63

/-- The S-box as a list, computed once per use. -/
def aesBox : List Nat := (List.range 256).map aesSub

/-- Bitwise exclusive or of two lists. -/
def xorList (a b : List Nat) : List Nat := (a.zip b).map fun (x, y) => x ^^^ y

/-- Expanded key words, newest first, after `n` more words; `nk` words make the key. -/
def aesExpand (box : List Nat) (nk : Nat) : Nat → Nat → Nat → List (List Nat) → List (List Nat)
  | 0, _, _, ws => ws
  | n + 1, i, rcon, ws =>
    let t := ws.getD 0 []
    let sub (w : List Nat) := w.map fun x => box.getD x 0
    let t' :=
      if i % nk = 0 then xorList (sub (t.drop 1 ++ t.take 1)) [rcon, 0, 0, 0]
      else if 6 < nk ∧ i % nk = 4 then sub t else t
    aesExpand box nk n (i + 1) (if i % nk = 0 then aesX rcon else rcon) (xorList (ws.getD (nk - 1) []) t' :: ws)

/-- ShiftRows on 16 bytes held by columns. -/
def aesShift (s : List Nat) : List Nat := (List.range 16).map fun i => s.getD ((i + 4 * (i % 4)) % 16) 0

/-- MixColumns. -/
def aesMix (s : List Nat) : List Nat :=
  (List.range 16).map fun i =>
    let c (k : Nat) := s.getD (i / 4 * 4 + (i + k) % 4) 0
    aesX (c 0) ^^^ (aesX (c 1) ^^^ c 1) ^^^ c 2 ^^^ c 3

/-- The round keys of a key of 16 or 32 bytes. -/
def aesKeys (box : List Nat) (key : List Byte) : List (List Nat) :=
  let nk := key.length / 4
  let ws0 := (List.range nk).map fun i => (sliceD 0 key (4 * i) 4).map (·.toNat)
  let ws := (aesExpand box nk (4 * (nk + 7) - nk) nk 1 ws0.reverse).reverse
  (List.range (nk + 7)).map fun r => (sliceD [] ws (4 * r) 4).flatten

/-- AES encryption of one block of 16 bytes. -/
def aesBlock (key : List Byte) (block : List Byte) : List Byte :=
  let box := aesBox
  let ks := aesKeys box key
  let sub (s : List Nat) := s.map fun x => box.getD x 0
  let s := xorList (block.map (·.toNat)) (ks.getD 0 [])
  let mid := (ks.drop 1).dropLast
  let s := mid.foldl (fun s k => xorList (aesMix (aesShift (sub s))) k) s
  (xorList (aesShift (sub s)) (ks.getLastD [])).map (BitVec.ofNat 8)

/-- Multiplication in the field of GHASH: bit 0 is the leftmost of 128. -/
def ghashMul : Nat → Nat → Nat → Nat → Nat
  | 0, _, _, z => z
  | n + 1, x, v, z =>
    let z := if x.testBit n then z ^^^ v else z
    ghashMul n x (if v % 2 = 1 then v / 2 ^^^ (0xE1 * 2 ^ 120) else v / 2) z

/-- GHASH over the 16-byte blocks of a string whose length is a multiple of 16. -/
def ghash (h : Nat) : Nat → List Byte → Nat → Nat
  | 0, _, y => y
  | n + 1, bs, y => ghash h n (bs.drop 16) (ghashMul 128 (y ^^^ ofBe (bs.take 16)) h 0)

/-- The GMAC tag of a message under a 96-bit IV (SP 800-38D). -/
def gmac (key iv msg : List Byte) : List Byte :=
  let h := ofBe (aesBlock key (List.replicate 16 0))
  let p := msg ++ List.replicate ((16 - msg.length % 16) % 16) 0 ++ beBytes 8 (msg.length * 8) ++ beBytes 8 0
  let s := ghash h (p.length / 16) p 0
  beBytes 16 (s ^^^ ofBe (aesBlock key (iv ++ beBytes 4 1)))

/-! ## ECDSA -/

/-- A curve y^2 = x^3 - 3x + b over a prime field, with its base point and order. -/
structure Curve where
  p : Nat
  b : Nat
  gx : Nat
  gy : Nat
  n : Nat
  bytes : Nat

/-- P-256. -/
def p256 : Curve :=
  { p := 0xFFFFFFFF00000001000000000000000000000000FFFFFFFFFFFFFFFFFFFFFFFF
    b := 0x5AC635D8AA3A93E7B3EBBD55769886BC651D06B0CC53B0F63BCE3C3E27D2604B
    gx := 0x6B17D1F2E12C4247F8BCE6E563A440F277037D812DEB33A0F4A13945D898C296
    gy := 0x4FE342E2FE1A7F9B8EE7EB4A7C0F9E162BCE33576B315ECECBB6406837BF51F5
    n := 0xFFFFFFFF00000000FFFFFFFFFFFFFFFFBCE6FAADA7179E84F3B9CAC2FC632551
    bytes := 32 }

/-- P-384. -/
def p384 : Curve :=
  { p := 0xFFFFFFFFFFFFFFFFFFFFFFFFFFFFFFFFFFFFFFFFFFFFFFFFFFFFFFFFFFFFFFFEFFFFFFFF0000000000000000FFFFFFFF
    b := 0xB3312FA7E23EE7E4988E056BE3F82D19181D9C6EFE8141120314088F5013875AC656398D8A2ED19D2A85C8EDD3EC2AEF
    gx := 0xAA87CA22BE8B05378EB1C71EF320AD746E1D3B628BA79B9859F741E082542A385502F25DBF55296C3A545E3872760AB7
    gy := 0x3617DE4A96262C6F5D9E98BF9292DC29F8F41DBD289A147CE9DA3113B5F0B8C00A60B1CE1D7E819D7A431D7C90EA0E5F
    n := 0xFFFFFFFFFFFFFFFFFFFFFFFFFFFFFFFFFFFFFFFFFFFFFFFFC7634D81F4372DDF581A0DB248B0A77AECEC196ACCC52973
    bytes := 48 }

/-- Powers modulo `m`, over `fuel` bits of the exponent. -/
def powMod (m : Nat) : Nat → Nat → Nat → Nat
  | 0, _, _ => 1 % m
  | n + 1, b, e =>
    let r := powMod m n (b * b % m) (e / 2)
    if e % 2 = 1 then r * b % m else r

/-- The inverse modulo a prime. -/
def invMod (m a : Nat) : Nat := powMod m 400 (a % m) (m - 2)

/-- A point; none: the point at infinity. -/
abbrev EcPoint := Option (Nat × Nat)

/-- Addition of points. -/
def ecAdd (c : Curve) (P Q : EcPoint) : EcPoint :=
  match P, Q with
  | none, q => q
  | p, none => p
  | some (x1, y1), some (x2, y2) =>
    if x1 = x2 ∧ (y1 + y2) % c.p = 0 then none
    else
      let l :=
        if x1 = x2 then (3 * x1 * x1 + (c.p - 3)) * invMod c.p (2 * y1) % c.p
        else (y2 + c.p - y1) * invMod c.p (x2 + c.p - x1) % c.p
      let x3 := (l * l + 2 * c.p - x1 - x2) % c.p
      some (x3, (l * (x1 + c.p - x3) + c.p - y1) % c.p)

/-- Scalar multiplication over `fuel` bits. -/
def ecMul (c : Curve) : Nat → Nat → EcPoint → EcPoint
  | 0, _, _ => none
  | n + 1, k, P =>
    let r := ecMul c n (k / 2) (ecAdd c P P)
    if k % 2 = 1 then ecAdd c r P else r

/-- The base point. -/
def Curve.g (c : Curve) : EcPoint := some (c.gx, c.gy)

/-- A public key lies on the curve. -/
def onCurve (c : Curve) (x y : Nat) : Bool :=
  decide (x < c.p ∧ y < c.p ∧ y * y % c.p = (x * x * x + (c.p - 3) * x + c.b) % c.p)

/-- The public key of a private key. -/
def ecPublic (c : Curve) (d : Nat) : Nat × Nat := (ecMul c 400 d c.g).getD (0, 0)

/-- A signature of a digest with the per-signature secret `k` (FIPS 186-5). -/
def ecdsaSign (c : Curve) (d k digest : Nat) : Nat × Nat :=
  let r := ((ecMul c 400 k c.g).getD (0, 0)).1 % c.n
  (r, invMod c.n k * (digest + r * d) % c.n)

/-- A signature is valid for a digest and a public key. -/
def ecdsaVerify (c : Curve) (x y digest r s : Nat) : Bool :=
  if ¬ (0 < r ∧ r < c.n ∧ 0 < s ∧ s < c.n) ∨ ¬ onCurve c x y then false
  else
    let w := invMod c.n s
    match ecAdd c (ecMul c 400 (digest * w % c.n) c.g) (ecMul c 400 (r * w % c.n) (some (x, y))) with
    | none => false
    | some (px, _) => decide (px % c.n = r)

end Sys2Proof.Machine
end

