-- ==== Sys2Proof/Config.lean ====
section
/-!
DEFINITION. Config.lean: what one module has fixed at manufacture, and the values the manual leaves open. None has a body: no
proof can see a value.
-/

namespace Sys2Proof

/-- SYS_SERIAL, fused (R7). -/
opaque Config.serial : Nat

/-- PCX_p_LATCAL, fused, by lane and MODE (R152, R188). -/
opaque Config.latcal : Nat → Nat → Nat

/-- The delay between a lane's balls and its timestamp, in 1/16 ns, by lane, MODE, direction (true: transmit) and TOD; LATCAL takes
off what is fixed of it (R66, R152). -/
opaque Config.laneDelay : Nat → Nat → Bool → Nat → Int

/-- The cast counter that a Halyard message counts in: 0 unicast, 1 multicast, 2 broadcast (R135, R191). R273 gives no destination
address. -/
opaque Config.halyardCast : Nat

/-- The length of a PAGELIST or PUBSTATE message by TYPE and the checksums or publications in it: R273 gives only its limit. -/
opaque Config.halyardLen : Nat → Nat → Nat

/-- How many frames the sampled-value stage holds unfinished beyond the first: its INGEST credits (R196, R305). -/
opaque Config.ingestCredits : Nat

/-- The bytes of the boot ROM window, not published (R800). -/
opaque Config.bootRom : Nat → Byte

/-- The n-th free value: what a value is that the manual leaves open. -/
opaque Config.freeValue : Nat → Nat

/-- Whether a result the manual does not say how to round goes up to the next unit (R74, R77, R90). -/
opaque Config.roundUp : Rat → Bool

/-- The header bytes of the IEC 62351-6 extension, which R705 leaves to that standard. -/
opaque Config.authHeader : Nat → Byte

/-- The factory boot-key digest, fused (R748), as a big-endian number. -/
opaque Config.factoryBootDigest : Nat

/-- The factory root, fused (R709). -/
opaque Config.factoryRoot : Nat

/-- The test bit of a predicted sample, by channel context and place in the history: R329 names only mark and validity. -/
opaque Config.predTest : Nat → Int → Bool

/-- What an attribute of a publication counts as before anything was staged, tripped or sent for it: value and quality. The
manual states neither. -/
opaque Config.unsentValue : Nat → Nat → Nat

/-- The quality beside `Config.unsentValue`; also that of a trip value, of ARMED and of the identity, which carry none. -/
opaque Config.unsentQuality : Nat → Nat → Nat

/-- The quality word a GOOSE record holds for an attribute whose map names no quality bytes (R574, R597). -/
opaque Config.rxNoQuality : Nat → Nat → Nat

/-- The bytes of a publication index in a digest: R284 gives two and no byte order. -/
opaque Config.digestIndex : Nat → List Byte

/-- The bytes that a trip, ARM or STAND-DOWN adds to a digest, by its FN, publication and data word: R284 does not give them. -/
opaque Config.digestOp : Nat → Nat → Nat → List Byte

/-- The angle that PANG gives where a part of c0 is not finite (R533 states none; R518 makes it one value for given operands), by
the two patterns. -/
opaque Config.openAngle : Nat → Nat → Nat

/-- The binary32 pattern that PMAG gives where one part is infinite and the other a NaN (R533 states no magnitude; R518 makes it one
value for given operands), by the two patterns. -/
opaque Config.openMag : Nat → Nat → BitVec 32

/-- Whether the partner module with a serial number has RDE_PAIR_CFG.PREF set: no message carries it (R273, R277). -/
opaque Config.partnerPref : Nat → Bool

end Sys2Proof
end

