-- ==== Sys2Proof/Machine/RegTypes.lean ====
section
/-!
DEFINITION. Machine/RegTypes.lean: the form in which the register map is written down: access codes (R26), reset classes
(R30), fields and registers.
-/

namespace Sys2Proof.Machine

/-- The access codes of R26. -/
inductive Access where
  | rw | ro | w1c | w1s | wo | rwl
  deriving DecidableEq, Repr

/-- The reset classes of R30. -/
inductive RClass where
  | s | c | t | l | p | n
  deriving DecidableEq, Repr

/-- One row of a field table: its bits, access code, reset value, reset class, and the encodings the table lists (none:
every value of the field is listed). -/
structure FieldDesc where
  name : String
  hi : Nat
  lo : Nat
  acc : Access
  reset : Nat
  cls : RClass
  legal : List (Nat × Nat)
  deriving DecidableEq, Repr

/-- One register or array of registers: the address of its first element, the stride and count of each index (outer
first), its width in bits and its fields. -/
structure RegDesc where
  name : String
  base : Nat
  dims : List (Nat × Nat)
  width : Nat
  fields : List FieldDesc
  deriving DecidableEq, Repr

/-- A field by place: the address of its register, its lowest bit and its width. -/
structure FieldRef where
  addr : Nat
  lo : Nat
  width : Nat
  deriving DecidableEq, Repr

end Sys2Proof.Machine
end

