-- ==== Sys2Proof/Machine/RegsCap.lean ====
section
/-!
DEFINITION. Machine/RegsCap.lean: the register map of block CAP (R52), from the field tables of its chapter: the address of
every register, the place of every field, and the table that REGISTER_WRITE and the resets read.
-/

namespace Sys2Proof.Machine


/-- CAP_STATUS (R635). -/
def CAP.STATUS : Nat := 0x3000800000

/-- Bits [15:0] of CAP_STATUS. -/
def CAP.STATUS_UNIT : FieldRef := ⟨CAP.STATUS, 0, 16⟩

/-- CAP_ENABLE (R635). -/
def CAP.ENABLE : Nat := 0x3000800004

/-- Bits [15:0] of CAP_ENABLE. -/
def CAP.ENABLE_UNIT : FieldRef := ⟨CAP.ENABLE, 0, 16⟩

/-- CAP_UCFG (R635). -/
def CAP.UCFG (p : Nat) : Nat := 0x3000810000 + p * 0x1000

/-- Bits [31:31] of CAP_UCFG. -/
def CAP.UCFG_EN (p : Nat) : FieldRef := ⟨CAP.UCFG p, 31, 1⟩

/-- Bits [30:30] of CAP_UCFG. -/
def CAP.UCFG_AUTO (p : Nat) : FieldRef := ⟨CAP.UCFG p, 30, 1⟩

/-- Bits [27:24] of CAP_UCFG. -/
def CAP.UCFG_GRID (p : Nat) : FieldRef := ⟨CAP.UCFG p, 24, 4⟩

/-- Bits [23:20] of CAP_UCFG. -/
def CAP.UCFG_LAG (p : Nat) : FieldRef := ⟨CAP.UCFG p, 20, 4⟩

/-- Bits [19:16] of CAP_UCFG. -/
def CAP.UCFG_AVSH (p : Nat) : FieldRef := ⟨CAP.UCFG p, 16, 4⟩

/-- Bits [8:0] of CAP_UCFG. -/
def CAP.UCFG_AVN (p : Nat) : FieldRef := ⟨CAP.UCFG p, 0, 9⟩

/-- CAP_UCNT (R635). -/
def CAP.UCNT (p : Nat) : Nat := 0x3000810004 + p * 0x1000

/-- Bits [24:16] of CAP_UCNT. -/
def CAP.UCNT_NA (p : Nat) : FieldRef := ⟨CAP.UCNT p, 16, 9⟩

/-- Bits [8:0] of CAP_UCNT. -/
def CAP.UCNT_NB (p : Nat) : FieldRef := ⟨CAP.UCNT p, 0, 9⟩

/-- CAP_UPRE (R635). -/
def CAP.UPRE (p : Nat) : Nat := 0x3000810008 + p * 0x1000

/-- Bits [13:0] of CAP_UPRE. -/
def CAP.UPRE_PRE (p : Nat) : FieldRef := ⟨CAP.UPRE p, 0, 14⟩

/-- CAP_UPOST (R635). -/
def CAP.UPOST (p : Nat) : Nat := 0x300081000C + p * 0x1000

/-- Bits [15:0] of CAP_UPOST. -/
def CAP.UPOST_POST (p : Nat) : FieldRef := ⟨CAP.UPOST p, 0, 16⟩

/-- CAP_UTSUNIT (R635). -/
def CAP.UTSUNIT (p : Nat) : Nat := 0x3000810010 + p * 0x1000

/-- Bits [19:0] of CAP_UTSUNIT. -/
def CAP.UTSUNIT_TSUNIT (p : Nat) : FieldRef := ⟨CAP.UTSUNIT p, 0, 20⟩

/-- CAP_USTATUS (R635). -/
def CAP.USTATUS (p : Nat) : Nat := 0x3000810014 + p * 0x1000

/-- Bits [7:7] of CAP_USTATUS. -/
def CAP.USTATUS_BINLOST (p : Nat) : FieldRef := ⟨CAP.USTATUS p, 7, 1⟩

/-- Bits [6:6] of CAP_USTATUS. -/
def CAP.USTATUS_DIRFULL (p : Nat) : FieldRef := ⟨CAP.USTATUS p, 6, 1⟩

/-- Bits [5:5] of CAP_USTATUS. -/
def CAP.USTATUS_RINGFULL (p : Nat) : FieldRef := ⟨CAP.USTATUS p, 5, 1⟩

/-- Bits [4:4] of CAP_USTATUS. -/
def CAP.USTATUS_MISSED (p : Nat) : FieldRef := ⟨CAP.USTATUS p, 4, 1⟩

/-- Bits [3:3] of CAP_USTATUS. -/
def CAP.USTATUS_TRUNC (p : Nat) : FieldRef := ⟨CAP.USTATUS p, 3, 1⟩

/-- Bits [2:2] of CAP_USTATUS. -/
def CAP.USTATUS_SHORTPRE (p : Nat) : FieldRef := ⟨CAP.USTATUS p, 2, 1⟩

/-- Bits [1:1] of CAP_USTATUS. -/
def CAP.USTATUS_RECORD (p : Nat) : FieldRef := ⟨CAP.USTATUS p, 1, 1⟩

/-- Bits [0:0] of CAP_USTATUS. -/
def CAP.USTATUS_REFUSED (p : Nat) : FieldRef := ⟨CAP.USTATUS p, 0, 1⟩

/-- CAP_UENABLE (R635). -/
def CAP.UENABLE (p : Nat) : Nat := 0x3000810018 + p * 0x1000

/-- Bits [7:7] of CAP_UENABLE. -/
def CAP.UENABLE_BINLOST (p : Nat) : FieldRef := ⟨CAP.UENABLE p, 7, 1⟩

/-- Bits [6:6] of CAP_UENABLE. -/
def CAP.UENABLE_DIRFULL (p : Nat) : FieldRef := ⟨CAP.UENABLE p, 6, 1⟩

/-- Bits [5:5] of CAP_UENABLE. -/
def CAP.UENABLE_RINGFULL (p : Nat) : FieldRef := ⟨CAP.UENABLE p, 5, 1⟩

/-- Bits [4:4] of CAP_UENABLE. -/
def CAP.UENABLE_MISSED (p : Nat) : FieldRef := ⟨CAP.UENABLE p, 4, 1⟩

/-- Bits [3:3] of CAP_UENABLE. -/
def CAP.UENABLE_TRUNC (p : Nat) : FieldRef := ⟨CAP.UENABLE p, 3, 1⟩

/-- Bits [2:2] of CAP_UENABLE. -/
def CAP.UENABLE_SHORTPRE (p : Nat) : FieldRef := ⟨CAP.UENABLE p, 2, 1⟩

/-- Bits [1:1] of CAP_UENABLE. -/
def CAP.UENABLE_RECORD (p : Nat) : FieldRef := ⟨CAP.UENABLE p, 1, 1⟩

/-- Bits [0:0] of CAP_UENABLE. -/
def CAP.UENABLE_REFUSED (p : Nat) : FieldRef := ⟨CAP.UENABLE p, 0, 1⟩

/-- CAP_USTATE (R635). -/
def CAP.USTATE (p : Nat) : Nat := 0x300081001C + p * 0x1000

/-- Bits [15:8] of CAP_USTATE. -/
def CAP.USTATE_TERMS (p : Nat) : FieldRef := ⟨CAP.USTATE p, 8, 8⟩

/-- Bits [2:0] of CAP_USTATE. -/
def CAP.USTATE_STATE (p : Nat) : FieldRef := ⟨CAP.USTATE p, 0, 3⟩

/-- CAP_UCMD (R635). -/
def CAP.UCMD (p : Nat) : Nat := 0x3000810020 + p * 0x1000

/-- Bits [2:2] of CAP_UCMD. -/
def CAP.UCMD_TRIG (p : Nat) : FieldRef := ⟨CAP.UCMD p, 2, 1⟩

/-- Bits [1:1] of CAP_UCMD. -/
def CAP.UCMD_DISARM (p : Nat) : FieldRef := ⟨CAP.UCMD p, 1, 1⟩

/-- Bits [0:0] of CAP_UCMD. -/
def CAP.UCMD_ARM (p : Nat) : FieldRef := ⟨CAP.UCMD p, 0, 1⟩

/-- CAP_URBASE (R635). -/
def CAP.URBASE (p : Nat) : Nat := 0x3000810028 + p * 0x1000

/-- Bits [39:0] of CAP_URBASE. -/
def CAP.URBASE_RBASE (p : Nat) : FieldRef := ⟨CAP.URBASE p, 0, 40⟩

/-- CAP_URSIZE (R635). -/
def CAP.URSIZE (p : Nat) : Nat := 0x3000810030 + p * 0x1000

/-- Bits [4:0] of CAP_URSIZE. -/
def CAP.URSIZE_RSIZE (p : Nat) : FieldRef := ⟨CAP.URSIZE p, 0, 5⟩

/-- CAP_UWRPTR (R635). -/
def CAP.UWRPTR (p : Nat) : Nat := 0x3000810034 + p * 0x1000

/-- Bits [30:0] of CAP_UWRPTR. -/
def CAP.UWRPTR_WRPTR (p : Nat) : FieldRef := ⟨CAP.UWRPTR p, 0, 31⟩

/-- CAP_UENDPTR (R635). -/
def CAP.UENDPTR (p : Nat) : Nat := 0x3000810038 + p * 0x1000

/-- Bits [30:0] of CAP_UENDPTR. -/
def CAP.UENDPTR_ENDPTR (p : Nat) : FieldRef := ⟨CAP.UENDPTR p, 0, 31⟩

/-- CAP_URDPTR (R635). -/
def CAP.URDPTR (p : Nat) : Nat := 0x300081003C + p * 0x1000

/-- Bits [30:0] of CAP_URDPTR. -/
def CAP.URDPTR_RDPTR (p : Nat) : FieldRef := ⟨CAP.URDPTR p, 0, 31⟩

/-- CAP_UDIRBASE (R635). -/
def CAP.UDIRBASE (p : Nat) : Nat := 0x3000810040 + p * 0x1000

/-- Bits [39:12] of CAP_UDIRBASE. -/
def CAP.UDIRBASE_DIRBASE (p : Nat) : FieldRef := ⟨CAP.UDIRBASE p, 12, 28⟩

/-- CAP_UDIRIDX (R635). -/
def CAP.UDIRIDX (p : Nat) : Nat := 0x3000810048 + p * 0x1000

/-- Bits [22:16] of CAP_UDIRIDX. -/
def CAP.UDIRIDX_WIDX (p : Nat) : FieldRef := ⟨CAP.UDIRIDX p, 16, 7⟩

/-- Bits [6:0] of CAP_UDIRIDX. -/
def CAP.UDIRIDX_RIDX (p : Nat) : FieldRef := ⟨CAP.UDIRIDX p, 0, 7⟩

/-- CAP_URECS (R635). -/
def CAP.URECS (p : Nat) : Nat := 0x3000810050 + p * 0x1000

/-- Bits [31:0] of CAP_URECS. -/
def CAP.URECS_COUNT (p : Nat) : FieldRef := ⟨CAP.URECS p, 0, 32⟩

/-- CAP_URETRIG (R635). -/
def CAP.URETRIG (p : Nat) : Nat := 0x3000810054 + p * 0x1000

/-- Bits [31:0] of CAP_URETRIG. -/
def CAP.URETRIG_COUNT (p : Nat) : FieldRef := ⟨CAP.URETRIG p, 0, 32⟩

/-- CAP_UMISSED (R635). -/
def CAP.UMISSED (p : Nat) : Nat := 0x3000810058 + p * 0x1000

/-- Bits [31:0] of CAP_UMISSED. -/
def CAP.UMISSED_COUNT (p : Nat) : FieldRef := ⟨CAP.UMISSED p, 0, 32⟩

/-- CAP_UOVF (R635). -/
def CAP.UOVF (p : Nat) : Nat := 0x300081005C + p * 0x1000

/-- Bits [31:0] of CAP_UOVF. -/
def CAP.UOVF_COUNT (p : Nat) : FieldRef := ⟨CAP.UOVF p, 0, 32⟩

/-- CAP_LUT (R635). -/
def CAP.LUT (p : Nat) (e : Nat) : Nat := 0x3000810080 + p * 0x1000 + e * 0x4

/-- Bits [31:0] of CAP_LUT. -/
def CAP.LUT_LUT (p : Nat) (e : Nat) : FieldRef := ⟨CAP.LUT p e, 0, 32⟩

/-- CAP_TRM_W0 (R635). -/
def CAP.TRM_W0 (p : Nat) (e : Nat) : Nat := 0x3000810100 + p * 0x1000 + e * 0x20

/-- Bits [31:29] of CAP_TRM_W0. -/
def CAP.TRM_W0_TYPE (p : Nat) (e : Nat) : FieldRef := ⟨CAP.TRM_W0 p e, 29, 3⟩

/-- Bits [28:28] of CAP_TRM_W0. -/
def CAP.TRM_W0_BIN (p : Nat) (e : Nat) : FieldRef := ⟨CAP.TRM_W0 p e, 28, 1⟩

/-- Bits [27:26] of CAP_TRM_W0. -/
def CAP.TRM_W0_DIR (p : Nat) (e : Nat) : FieldRef := ⟨CAP.TRM_W0 p e, 26, 2⟩

/-- Bits [25:24] of CAP_TRM_W0. -/
def CAP.TRM_W0_PWMODE (p : Nat) (e : Nat) : FieldRef := ⟨CAP.TRM_W0 p e, 24, 2⟩

/-- Bits [23:23] of CAP_TRM_W0. -/
def CAP.TRM_W0_CUBIC (p : Nat) (e : Nat) : FieldRef := ⟨CAP.TRM_W0 p e, 23, 1⟩

/-- Bits [19:16] of CAP_TRM_W0. -/
def CAP.TRM_W0_K (p : Nat) (e : Nat) : FieldRef := ⟨CAP.TRM_W0 p e, 16, 4⟩

/-- Bits [7:0] of CAP_TRM_W0. -/
def CAP.TRM_W0_IDX (p : Nat) (e : Nat) : FieldRef := ⟨CAP.TRM_W0 p e, 0, 8⟩

/-- CAP_TRM_W1 (R635). -/
def CAP.TRM_W1 (p : Nat) (e : Nat) : Nat := 0x3000810104 + p * 0x1000 + e * 0x20

/-- Bits [31:0] of CAP_TRM_W1. -/
def CAP.TRM_W1_LEVEL (p : Nat) (e : Nat) : FieldRef := ⟨CAP.TRM_W1 p e, 0, 32⟩

/-- CAP_TRM_W2 (R635). -/
def CAP.TRM_W2 (p : Nat) (e : Nat) : Nat := 0x3000810108 + p * 0x1000 + e * 0x20

/-- Bits [31:0] of CAP_TRM_W2. -/
def CAP.TRM_W2_LEVEL2 (p : Nat) (e : Nat) : FieldRef := ⟨CAP.TRM_W2 p e, 0, 32⟩

/-- CAP_TRM_W3 (R635). -/
def CAP.TRM_W3 (p : Nat) (e : Nat) : Nat := 0x300081010C + p * 0x1000 + e * 0x20

/-- Bits [31:0] of CAP_TRM_W3. -/
def CAP.TRM_W3_WA (p : Nat) (e : Nat) : FieldRef := ⟨CAP.TRM_W3 p e, 0, 32⟩

/-- CAP_TRM_W4 (R635). -/
def CAP.TRM_W4 (p : Nat) (e : Nat) : Nat := 0x3000810110 + p * 0x1000 + e * 0x20

/-- Bits [31:0] of CAP_TRM_W4. -/
def CAP.TRM_W4_WB (p : Nat) (e : Nat) : FieldRef := ⟨CAP.TRM_W4 p e, 0, 32⟩

/-- CAP_TRM_W5 (R635). -/
def CAP.TRM_W5 (p : Nat) (e : Nat) : Nat := 0x3000810114 + p * 0x1000 + e * 0x20

/-- Bits [15:0] of CAP_TRM_W5. -/
def CAP.TRM_W5_HOLD (p : Nat) (e : Nat) : FieldRef := ⟨CAP.TRM_W5 p e, 0, 16⟩

/-- CAP_ACH (R635). -/
def CAP.ACH (p : Nat) (e : Nat) : Nat := 0x3000810400 + p * 0x1000 + e * 0x4

/-- Bits [13:0] of CAP_ACH. -/
def CAP.ACH_CH (p : Nat) (e : Nat) : FieldRef := ⟨CAP.ACH p e, 0, 14⟩

/-- CAP_BPT (R635). -/
def CAP.BPT (p : Nat) (e : Nat) : Nat := 0x3000810800 + p * 0x1000 + e * 0x4

/-- Bits [31:0] of CAP_BPT. -/
def CAP.BPT_POINT (p : Nat) (e : Nat) : FieldRef := ⟨CAP.BPT p e, 0, 32⟩

/-- Rows of the register map of CAP. -/
def regsCap0 : List RegDesc := [
  ⟨"CAP_STATUS", 0x3000800000, [], 32, [⟨"UNIT", 15, 0, .ro, 0, .s, []⟩]⟩,
  ⟨"CAP_ENABLE", 0x3000800004, [], 32, [⟨"UNIT", 15, 0, .rw, 0, .s, []⟩]⟩,
  ⟨"CAP_UCFG", 0x3000810000, [(4096, 16)], 32, [⟨"EN", 31, 31, .rw, 0, .s, []⟩,
    ⟨"AUTO", 30, 30, .rw, 1, .s, []⟩,
    ⟨"GRID", 27, 24, .rw, 0, .s, []⟩,
    ⟨"LAG", 23, 20, .rw, 3, .s, [(2, 15)]⟩,
    ⟨"AVSH", 19, 16, .rw, 0, .s, [(0, 8)]⟩,
    ⟨"AVN", 8, 0, .rw, 1, .s, [(1, 256)]⟩]⟩,
  ⟨"CAP_UCNT", 0x3000810004, [(4096, 16)], 32, [⟨"NA", 24, 16, .rw, 0, .s, [(0, 256)]⟩,
    ⟨"NB", 8, 0, .rw, 0, .s, [(0, 256)]⟩]⟩,
  ⟨"CAP_UPRE", 0x3000810008, [(4096, 16)], 32, [⟨"PRE", 13, 0, .rw, 100, .s, [(0, 10000)]⟩]⟩,
  ⟨"CAP_UPOST", 0x300081000C, [(4096, 16)], 32, [⟨"POST", 15, 0, .rw, 500, .s, [(1, 60000)]⟩]⟩,
  ⟨"CAP_UTSUNIT", 0x3000810010, [(4096, 16)], 32, [⟨"TSUNIT", 19, 0, .rw, 1000, .s, [(1, 1000000)]⟩]⟩,
  ⟨"CAP_USTATUS", 0x3000810014, [(4096, 16)], 32, [⟨"BINLOST", 7, 7, .w1c, 0, .s, []⟩,
    ⟨"DIRFULL", 6, 6, .w1c, 0, .s, []⟩,
    ⟨"RINGFULL", 5, 5, .w1c, 0, .s, []⟩,
    ⟨"MISSED", 4, 4, .w1c, 0, .s, []⟩,
    ⟨"TRUNC", 3, 3, .w1c, 0, .s, []⟩,
    ⟨"SHORTPRE", 2, 2, .w1c, 0, .s, []⟩,
    ⟨"RECORD", 1, 1, .w1c, 0, .s, []⟩,
    ⟨"REFUSED", 0, 0, .w1c, 0, .s, []⟩]⟩,
  ⟨"CAP_UENABLE", 0x3000810018, [(4096, 16)], 32, [⟨"BINLOST", 7, 7, .rw, 0, .s, []⟩,
    ⟨"DIRFULL", 6, 6, .rw, 0, .s, []⟩,
    ⟨"RINGFULL", 5, 5, .rw, 0, .s, []⟩,
    ⟨"MISSED", 4, 4, .rw, 0, .s, []⟩,
    ⟨"TRUNC", 3, 3, .rw, 0, .s, []⟩,
    ⟨"SHORTPRE", 2, 2, .rw, 0, .s, []⟩,
    ⟨"RECORD", 1, 1, .rw, 0, .s, []⟩,
    ⟨"REFUSED", 0, 0, .rw, 0, .s, []⟩]⟩,
  ⟨"CAP_USTATE", 0x300081001C, [(4096, 16)], 32, [⟨"TERMS", 15, 8, .ro, 0, .s, []⟩,
    ⟨"STATE", 2, 0, .ro, 0, .s, []⟩]⟩,
  ⟨"CAP_UCMD", 0x3000810020, [(4096, 16)], 32, [⟨"TRIG", 2, 2, .wo, 0, .s, []⟩,
    ⟨"DISARM", 1, 1, .wo, 0, .s, []⟩,
    ⟨"ARM", 0, 0, .wo, 0, .s, []⟩]⟩,
  ⟨"CAP_URBASE", 0x3000810028, [(4096, 16)], 64, [⟨"RBASE", 39, 0, .rw, 0, .s, []⟩]⟩]

/-- Rows of the register map of CAP. -/
def regsCap1 : List RegDesc := [
  ⟨"CAP_URSIZE", 0x3000810030, [(4096, 16)], 32, [⟨"RSIZE", 4, 0, .rw, 20, .s, [(8, 30)]⟩]⟩,
  ⟨"CAP_UWRPTR", 0x3000810034, [(4096, 16)], 32, [⟨"WRPTR", 30, 0, .ro, 0, .s, []⟩]⟩,
  ⟨"CAP_UENDPTR", 0x3000810038, [(4096, 16)], 32, [⟨"ENDPTR", 30, 0, .ro, 0, .s, []⟩]⟩,
  ⟨"CAP_URDPTR", 0x300081003C, [(4096, 16)], 32, [⟨"RDPTR", 30, 0, .rw, 0, .s, []⟩]⟩,
  ⟨"CAP_UDIRBASE", 0x3000810040, [(4096, 16)], 64, [⟨"DIRBASE", 39, 12, .rw, 0, .s, []⟩]⟩,
  ⟨"CAP_UDIRIDX", 0x3000810048, [(4096, 16)], 32, [⟨"WIDX", 22, 16, .ro, 0, .s, []⟩,
    ⟨"RIDX", 6, 0, .rw, 0, .s, []⟩]⟩,
  ⟨"CAP_URECS", 0x3000810050, [(4096, 16)], 32, [⟨"COUNT", 31, 0, .ro, 0, .s, []⟩]⟩,
  ⟨"CAP_URETRIG", 0x3000810054, [(4096, 16)], 32, [⟨"COUNT", 31, 0, .ro, 0, .s, []⟩]⟩,
  ⟨"CAP_UMISSED", 0x3000810058, [(4096, 16)], 32, [⟨"COUNT", 31, 0, .ro, 0, .s, []⟩]⟩,
  ⟨"CAP_UOVF", 0x300081005C, [(4096, 16)], 32, [⟨"COUNT", 31, 0, .ro, 0, .s, []⟩]⟩,
  ⟨"CAP_LUT", 0x3000810080, [(4096, 16), (4, 8)], 32, [⟨"LUT", 31, 0, .rw, 0, .s, []⟩]⟩,
  ⟨"CAP_TRM_W0", 0x3000810100, [(4096, 16), (32, 8)], 32, [⟨"TYPE", 31, 29, .rw, 0, .s, [(0, 5)]⟩,
    ⟨"BIN", 28, 28, .rw, 0, .s, []⟩,
    ⟨"DIR", 27, 26, .rw, 1, .s, [(1, 3)]⟩,
    ⟨"PWMODE", 25, 24, .rw, 0, .s, [(0, 2)]⟩,
    ⟨"CUBIC", 23, 23, .rw, 0, .s, []⟩,
    ⟨"K", 19, 16, .rw, 1, .s, [(1, 15)]⟩,
    ⟨"IDX", 7, 0, .rw, 0, .s, []⟩]⟩]

/-- Rows of the register map of CAP. -/
def regsCap2 : List RegDesc := [
  ⟨"CAP_TRM_W1", 0x3000810104, [(4096, 16), (32, 8)], 32, [⟨"LEVEL", 31, 0, .rw, 0, .s, []⟩]⟩,
  ⟨"CAP_TRM_W2", 0x3000810108, [(4096, 16), (32, 8)], 32, [⟨"LEVEL2", 31, 0, .rw, 0, .s, []⟩]⟩,
  ⟨"CAP_TRM_W3", 0x300081010C, [(4096, 16), (32, 8)], 32, [⟨"WA", 31, 0, .rw, 0, .s, []⟩]⟩,
  ⟨"CAP_TRM_W4", 0x3000810110, [(4096, 16), (32, 8)], 32, [⟨"WB", 31, 0, .rw, 0, .s, []⟩]⟩,
  ⟨"CAP_TRM_W5", 0x3000810114, [(4096, 16), (32, 8)], 32, [⟨"HOLD", 15, 0, .rw, 0, .s, []⟩]⟩,
  ⟨"CAP_ACH", 0x3000810400, [(4096, 16), (4, 256)], 32, [⟨"CH", 13, 0, .rw, 0, .s, []⟩]⟩,
  ⟨"CAP_BPT", 0x3000810800, [(4096, 16), (4, 256)], 32, [⟨"POINT", 31, 0, .rw, 0, .s, []⟩]⟩]

/-- The register map of CAP. -/
def regsCap : List RegDesc :=
  regsCap0 ++ regsCap1 ++ regsCap2

end Sys2Proof.Machine
end

