-- ==== Sys2Proof/Machine/RegsCyc.lean ====
section
/-!
DEFINITION. Machine/RegsCyc.lean: the register map of block CYC (R52), from the field tables of its chapter: the address of
every register, the place of every field, and the table that REGISTER_WRITE and the resets read.
-/

namespace Sys2Proof.Machine


/-- CYC_CTL (R468). -/
def CYC.CTL : Nat := 0x3000600000

/-- Bits [1:1] of CYC_CTL. -/
def CYC.CTL_CWD_EN : FieldRef := ⟨CYC.CTL, 1, 1⟩

/-- Bits [0:0] of CYC_CTL. -/
def CYC.CTL_EN : FieldRef := ⟨CYC.CTL, 0, 1⟩

/-- CYC_STATUS (R468). -/
def CYC.STATUS : Nat := 0x3000600004

/-- Bits [9:9] of CYC_STATUS. -/
def CYC.STATUS_CORE : FieldRef := ⟨CYC.STATUS, 9, 1⟩

/-- Bits [8:8] of CYC_STATUS. -/
def CYC.STATUS_FRC_ORPHAN : FieldRef := ⟨CYC.STATUS, 8, 1⟩

/-- Bits [7:7] of CYC_STATUS. -/
def CYC.STATUS_XCHG_ERR : FieldRef := ⟨CYC.STATUS, 7, 1⟩

/-- Bits [6:6] of CYC_STATUS. -/
def CYC.STATUS_XCHG_DONE : FieldRef := ⟨CYC.STATUS, 6, 1⟩

/-- Bits [5:5] of CYC_STATUS. -/
def CYC.STATUS_CWD : FieldRef := ⟨CYC.STATUS, 5, 1⟩

/-- Bits [4:4] of CYC_STATUS. -/
def CYC.STATUS_TICK_SKIP : FieldRef := ⟨CYC.STATUS, 4, 1⟩

/-- Bits [3:3] of CYC_STATUS. -/
def CYC.STATUS_OSQ_FULL : FieldRef := ⟨CYC.STATUS, 3, 1⟩

/-- Bits [2:2] of CYC_STATUS. -/
def CYC.STATUS_EVQ_OVF : FieldRef := ⟨CYC.STATUS, 2, 1⟩

/-- Bits [1:1] of CYC_STATUS. -/
def CYC.STATUS_TREFUSED : FieldRef := ⟨CYC.STATUS, 1, 1⟩

/-- Bits [0:0] of CYC_STATUS. -/
def CYC.STATUS_TFAULT : FieldRef := ⟨CYC.STATUS, 0, 1⟩

/-- CYC_STATE (R468). -/
def CYC.STATE : Nat := 0x300060000C

/-- Bits [1:0] of CYC_STATE. -/
def CYC.STATE_CLUSTER : FieldRef := ⟨CYC.STATE, 0, 2⟩

/-- CYC_CWD_CFG (R468). -/
def CYC.CWD_CFG : Nat := 0x3000600010

/-- Bits [23:16] of CYC_CWD_CFG. -/
def CYC.CWD_CFG_TICKTO : FieldRef := ⟨CYC.CWD_CFG, 16, 8⟩

/-- Bits [15:0] of CYC_CWD_CFG. -/
def CYC.CWD_CFG_KICKTO : FieldRef := ⟨CYC.CWD_CFG, 0, 16⟩

/-- CYC_CWD_KICK (R468). -/
def CYC.CWD_KICK : Nat := 0x3000600014

/-- Bits [15:0] of CYC_CWD_KICK. -/
def CYC.CWD_KICK_KEY : FieldRef := ⟨CYC.CWD_KICK, 0, 16⟩

/-- CYC_CWD_LEFT (R468). -/
def CYC.CWD_LEFT : Nat := 0x3000600018

/-- Bits [31:0] of CYC_CWD_LEFT. -/
def CYC.CWD_LEFT_LEFT : FieldRef := ⟨CYC.CWD_LEFT, 0, 32⟩

/-- CYC_ENABLE (R468). -/
def CYC.ENABLE : Nat := 0x3000600008

/-- Bits [9:9] of CYC_ENABLE. -/
def CYC.ENABLE_CORE : FieldRef := ⟨CYC.ENABLE, 9, 1⟩

/-- Bits [8:8] of CYC_ENABLE. -/
def CYC.ENABLE_FRC_ORPHAN : FieldRef := ⟨CYC.ENABLE, 8, 1⟩

/-- Bits [7:7] of CYC_ENABLE. -/
def CYC.ENABLE_XCHG_ERR : FieldRef := ⟨CYC.ENABLE, 7, 1⟩

/-- Bits [6:6] of CYC_ENABLE. -/
def CYC.ENABLE_XCHG_DONE : FieldRef := ⟨CYC.ENABLE, 6, 1⟩

/-- Bits [5:5] of CYC_ENABLE. -/
def CYC.ENABLE_CWD : FieldRef := ⟨CYC.ENABLE, 5, 1⟩

/-- Bits [4:4] of CYC_ENABLE. -/
def CYC.ENABLE_TICK_SKIP : FieldRef := ⟨CYC.ENABLE, 4, 1⟩

/-- Bits [3:3] of CYC_ENABLE. -/
def CYC.ENABLE_OSQ_FULL : FieldRef := ⟨CYC.ENABLE, 3, 1⟩

/-- Bits [2:2] of CYC_ENABLE. -/
def CYC.ENABLE_EVQ_OVF : FieldRef := ⟨CYC.ENABLE, 2, 1⟩

/-- Bits [1:1] of CYC_ENABLE. -/
def CYC.ENABLE_TREFUSED : FieldRef := ⟨CYC.ENABLE, 1, 1⟩

/-- Bits [0:0] of CYC_ENABLE. -/
def CYC.ENABLE_TFAULT : FieldRef := ⟨CYC.ENABLE, 0, 1⟩

/-- CYC_FRC_CMD (R469). -/
def CYC.FRC_CMD : Nat := 0x3000600020

/-- Bits [31:16] of CYC_FRC_CMD. -/
def CYC.FRC_CMD_INDEX : FieldRef := ⟨CYC.FRC_CMD, 16, 16⟩

/-- Bits [2:0] of CYC_FRC_CMD. -/
def CYC.FRC_CMD_OP : FieldRef := ⟨CYC.FRC_CMD, 0, 3⟩

/-- CYC_FRC_RES (R469). -/
def CYC.FRC_RES : Nat := 0x3000600024

/-- Bits [31:16] of CYC_FRC_RES. -/
def CYC.FRC_RES_INDEX : FieldRef := ⟨CYC.FRC_RES, 16, 16⟩

/-- Bits [3:1] of CYC_FRC_RES. -/
def CYC.FRC_RES_CODE : FieldRef := ⟨CYC.FRC_RES, 1, 3⟩

/-- Bits [0:0] of CYC_FRC_RES. -/
def CYC.FRC_RES_BUSY : FieldRef := ⟨CYC.FRC_RES, 0, 1⟩

/-- CYC_FRC_D0 (R469). -/
def CYC.FRC_D0 : Nat := 0x3000600028

/-- Bits [31:0] of CYC_FRC_D0. -/
def CYC.FRC_D0_POINT : FieldRef := ⟨CYC.FRC_D0, 0, 32⟩

/-- CYC_FRC_D1 (R469). -/
def CYC.FRC_D1 : Nat := 0x300060002C

/-- Bits [31:0] of CYC_FRC_D1. -/
def CYC.FRC_D1_VALUE : FieldRef := ⟨CYC.FRC_D1, 0, 32⟩

/-- CYC_FRC_D2 (R469). -/
def CYC.FRC_D2 : Nat := 0x3000600030

/-- Bits [31:31] of CYC_FRC_D2. -/
def CYC.FRC_D2_VALID : FieldRef := ⟨CYC.FRC_D2, 31, 1⟩

/-- Bits [30:30] of CYC_FRC_D2. -/
def CYC.FRC_D2_ORPHAN : FieldRef := ⟨CYC.FRC_D2, 30, 1⟩

/-- Bits [1:0] of CYC_FRC_D2. -/
def CYC.FRC_D2_QV : FieldRef := ⟨CYC.FRC_D2, 0, 2⟩

/-- CYC_FRC_ACTIVE (R469). -/
def CYC.FRC_ACTIVE : Nat := 0x3000600034

/-- Bits [16:0] of CYC_FRC_ACTIVE. -/
def CYC.FRC_ACTIVE_COUNT : FieldRef := ⟨CYC.FRC_ACTIVE, 0, 17⟩

/-- CYC_FRC_ORPH (R469). -/
def CYC.FRC_ORPH : Nat := 0x3000600038

/-- Bits [16:0] of CYC_FRC_ORPH. -/
def CYC.FRC_ORPH_COUNT : FieldRef := ⟨CYC.FRC_ORPH, 0, 17⟩

/-- CYC_CSTATUS (R470). -/
def CYC.CSTATUS (p : Nat) : Nat := 0x3000601000 + p * 0x40

/-- Bits [2:2] of CYC_CSTATUS. -/
def CYC.CSTATUS_LOCK_FULL (p : Nat) : FieldRef := ⟨CYC.CSTATUS p, 2, 1⟩

/-- Bits [1:1] of CYC_CSTATUS. -/
def CYC.CSTATUS_HALTED (p : Nat) : FieldRef := ⟨CYC.CSTATUS p, 1, 1⟩

/-- Bits [0:0] of CYC_CSTATUS. -/
def CYC.CSTATUS_CWD_STALL (p : Nat) : FieldRef := ⟨CYC.CSTATUS p, 0, 1⟩

/-- CYC_CENABLE (R470). -/
def CYC.CENABLE (p : Nat) : Nat := 0x3000601004 + p * 0x40

/-- Bits [2:2] of CYC_CENABLE. -/
def CYC.CENABLE_LOCK_FULL (p : Nat) : FieldRef := ⟨CYC.CENABLE p, 2, 1⟩

/-- Bits [1:1] of CYC_CENABLE. -/
def CYC.CENABLE_HALTED (p : Nat) : FieldRef := ⟨CYC.CENABLE p, 1, 1⟩

/-- Bits [0:0] of CYC_CENABLE. -/
def CYC.CENABLE_CWD_STALL (p : Nat) : FieldRef := ⟨CYC.CENABLE p, 0, 1⟩

/-- CYC_CSTATE (R470). -/
def CYC.CSTATE (p : Nat) : Nat := 0x3000601008 + p * 0x40

/-- Bits [31:31] of CYC_CSTATE. -/
def CYC.CSTATE_RUNNING (p : Nat) : FieldRef := ⟨CYC.CSTATE p, 31, 1⟩

/-- Bits [25:16] of CYC_CSTATE. -/
def CYC.CSTATE_TENANT (p : Nat) : FieldRef := ⟨CYC.CSTATE p, 16, 10⟩

/-- Bits [10:8] of CYC_CSTATE. -/
def CYC.CSTATE_CLASS (p : Nat) : FieldRef := ⟨CYC.CSTATE p, 8, 3⟩

/-- Bits [5:0] of CYC_CSTATE. -/
def CYC.CSTATE_BOUND (p : Nat) : FieldRef := ⟨CYC.CSTATE p, 0, 6⟩

/-- CYC_LOCKS (R470). -/
def CYC.LOCKS (p : Nat) : Nat := 0x300060100C + p * 0x40

/-- Bits [25:16] of CYC_LOCKS. -/
def CYC.LOCKS_LOCKI (p : Nat) : FieldRef := ⟨CYC.LOCKS p, 16, 10⟩

/-- Bits [9:0] of CYC_LOCKS. -/
def CYC.LOCKS_LOCKD (p : Nat) : FieldRef := ⟨CYC.LOCKS p, 0, 10⟩

/-- CYC_DLATMAX (R470). -/
def CYC.DLATMAX (p : Nat) : Nat := 0x3000601010 + p * 0x40

/-- Bits [15:0] of CYC_DLATMAX. -/
def CYC.DLATMAX_NS (p : Nat) : FieldRef := ⟨CYC.DLATMAX p, 0, 16⟩

/-- CYC_TCMD (R424). -/
def CYC.TCMD : Nat := 0x3000610000

/-- Bits [29:24] of CYC_TCMD. -/
def CYC.TCMD_CORE : FieldRef := ⟨CYC.TCMD, 24, 6⟩

/-- Bits [20:20] of CYC_TCMD. -/
def CYC.TCMD_RESTART : FieldRef := ⟨CYC.TCMD, 20, 1⟩

/-- Bits [18:16] of CYC_TCMD. -/
def CYC.TCMD_OP : FieldRef := ⟨CYC.TCMD, 16, 3⟩

/-- Bits [9:0] of CYC_TCMD. -/
def CYC.TCMD_TENANT : FieldRef := ⟨CYC.TCMD, 0, 10⟩

/-- CYC_TRES (R424). -/
def CYC.TRES : Nat := 0x3000610004

/-- Bits [3:1] of CYC_TRES. -/
def CYC.TRES_CODE : FieldRef := ⟨CYC.TRES, 1, 3⟩

/-- Bits [0:0] of CYC_TRES. -/
def CYC.TRES_BUSY : FieldRef := ⟨CYC.TRES, 0, 1⟩

/-- CYC_WIN_CMD (R424). -/
def CYC.WIN_CMD : Nat := 0x3000610010

/-- Bits [25:24] of CYC_WIN_CMD. -/
def CYC.WIN_CMD_OP : FieldRef := ⟨CYC.WIN_CMD, 24, 2⟩

/-- Bits [19:16] of CYC_WIN_CMD. -/
def CYC.WIN_CMD_WIN : FieldRef := ⟨CYC.WIN_CMD, 16, 4⟩

/-- Bits [9:0] of CYC_WIN_CMD. -/
def CYC.WIN_CMD_TENANT : FieldRef := ⟨CYC.WIN_CMD, 0, 10⟩

/-- CYC_WIN_RES (R424). -/
def CYC.WIN_RES : Nat := 0x3000610014

/-- Bits [3:1] of CYC_WIN_RES. -/
def CYC.WIN_RES_CODE : FieldRef := ⟨CYC.WIN_RES, 1, 3⟩

/-- Bits [0:0] of CYC_WIN_RES. -/
def CYC.WIN_RES_BUSY : FieldRef := ⟨CYC.WIN_RES, 0, 1⟩

/-- CYC_WIN_D0 (R424). -/
def CYC.WIN_D0 : Nat := 0x3000610018

/-- Bits [31:12] of CYC_WIN_D0. -/
def CYC.WIN_D0_VBASE : FieldRef := ⟨CYC.WIN_D0, 12, 20⟩

/-- Bits [0:0] of CYC_WIN_D0. -/
def CYC.WIN_D0_EN : FieldRef := ⟨CYC.WIN_D0, 0, 1⟩

/-- CYC_WIN_D1 (R424). -/
def CYC.WIN_D1 : Nat := 0x300061001C

/-- Bits [31:12] of CYC_WIN_D1. -/
def CYC.WIN_D1_VLIMIT : FieldRef := ⟨CYC.WIN_D1, 12, 20⟩

/-- CYC_WIN_D2 (R424). -/
def CYC.WIN_D2 : Nat := 0x3000610020

/-- Bits [31:12] of CYC_WIN_D2. -/
def CYC.WIN_D2_PBASE_LO : FieldRef := ⟨CYC.WIN_D2, 12, 20⟩

/-- CYC_WIN_D3 (R424). -/
def CYC.WIN_D3 : Nat := 0x3000610024

/-- Bits [18:16] of CYC_WIN_D3. -/
def CYC.WIN_D3_KIND : FieldRef := ⟨CYC.WIN_D3, 16, 3⟩

/-- Bits [7:0] of CYC_WIN_D3. -/
def CYC.WIN_D3_PBASE_HI : FieldRef := ⟨CYC.WIN_D3, 0, 8⟩

/-- CYC_EVPOST_D0 (R424). -/
def CYC.EVPOST_D0 : Nat := 0x3000610030

/-- Bits [15:0] of CYC_EVPOST_D0. -/
def CYC.EVPOST_D0_CODE : FieldRef := ⟨CYC.EVPOST_D0, 0, 16⟩

/-- CYC_EVPOST_D1 (R424). -/
def CYC.EVPOST_D1 : Nat := 0x3000610034

/-- Bits [31:0] of CYC_EVPOST_D1. -/
def CYC.EVPOST_D1_DATA : FieldRef := ⟨CYC.EVPOST_D1, 0, 32⟩

/-- CYC_EVPOST_D2 (R424). -/
def CYC.EVPOST_D2 : Nat := 0x3000610038

/-- Bits [31:0] of CYC_EVPOST_D2. -/
def CYC.EVPOST_D2_DATA2 : FieldRef := ⟨CYC.EVPOST_D2, 0, 32⟩

/-- CYC_EVPOST_CTL (R424). -/
def CYC.EVPOST_CTL : Nat := 0x300061003C

/-- Bits [17:16] of CYC_EVPOST_CTL. -/
def CYC.EVPOST_CTL_RES : FieldRef := ⟨CYC.EVPOST_CTL, 16, 2⟩

/-- Bits [9:0] of CYC_EVPOST_CTL. -/
def CYC.EVPOST_CTL_TENANT : FieldRef := ⟨CYC.EVPOST_CTL, 0, 10⟩

/-- CYC_TFLT (R424). -/
def CYC.TFLT (p : Nat) : Nat := 0x3000610100 + p * 0x4

/-- Bits [31:0] of CYC_TFLT. -/
def CYC.TFLT_FLT (p : Nat) : FieldRef := ⟨CYC.TFLT p, 0, 32⟩

/-- CYC_TFEN (R424). -/
def CYC.TFEN (p : Nat) : Nat := 0x3000610180 + p * 0x4

/-- Bits [31:0] of CYC_TFEN. -/
def CYC.TFEN_FEN (p : Nat) : FieldRef := ⟨CYC.TFEN p, 0, 32⟩

/-- CYC_SUBL (R424). -/
def CYC.SUBL (p : Nat) : Nat := 0x3000620000 + p * 0x4

/-- Bits [15:15] of CYC_SUBL. -/
def CYC.SUBL_EN (p : Nat) : FieldRef := ⟨CYC.SUBL p, 15, 1⟩

/-- Bits [10:0] of CYC_SUBL. -/
def CYC.SUBL_STREAM (p : Nat) : FieldRef := ⟨CYC.SUBL p, 0, 11⟩

/-- CYC_TCFG (R425). -/
def CYC.TCFG (p : Nat) : Nat := 0x3000640000 + p * 0x100

/-- Bits [15:12] of CYC_TCFG. -/
def CYC.TCFG_AUTORST (p : Nat) : FieldRef := ⟨CYC.TCFG p, 12, 4⟩

/-- Bits [8:8] of CYC_TCFG. -/
def CYC.TCFG_FPOL (p : Nat) : FieldRef := ⟨CYC.TCFG p, 8, 1⟩

/-- Bits [5:4] of CYC_TCFG. -/
def CYC.TCFG_TRIG (p : Nat) : FieldRef := ⟨CYC.TCFG p, 4, 2⟩

/-- Bits [2:0] of CYC_TCFG. -/
def CYC.TCFG_CLASS (p : Nat) : FieldRef := ⟨CYC.TCFG p, 0, 3⟩

/-- CYC_TBIND (R425). -/
def CYC.TBIND (p : Nat) : Nat := 0x3000640004 + p * 0x100

/-- Bits [31:31] of CYC_TBIND. -/
def CYC.TBIND_VALID (p : Nat) : FieldRef := ⟨CYC.TBIND p, 31, 1⟩

/-- Bits [5:0] of CYC_TBIND. -/
def CYC.TBIND_CORE (p : Nat) : FieldRef := ⟨CYC.TBIND p, 0, 6⟩

/-- CYC_TSTATE (R425). -/
def CYC.TSTATE (p : Nat) : Nat := 0x3000640008 + p * 0x100

/-- Bits [4:4] of CYC_TSTATE. -/
def CYC.TSTATE_WAITG (p : Nat) : FieldRef := ⟨CYC.TSTATE p, 4, 1⟩

/-- Bits [3:3] of CYC_TSTATE. -/
def CYC.TSTATE_RUN (p : Nat) : FieldRef := ⟨CYC.TSTATE p, 3, 1⟩

/-- Bits [2:0] of CYC_TSTATE. -/
def CYC.TSTATE_STATE (p : Nat) : FieldRef := ⟨CYC.TSTATE p, 0, 3⟩

/-- CYC_TSUB (R425). -/
def CYC.TSUB (p : Nat) : Nat := 0x300064000C + p * 0x100

/-- Bits [28:16] of CYC_TSUB. -/
def CYC.TSUB_SUBBASE (p : Nat) : FieldRef := ⟨CYC.TSUB p, 16, 13⟩

/-- Bits [6:0] of CYC_TSUB. -/
def CYC.TSUB_SUBCNT (p : Nat) : FieldRef := ⟨CYC.TSUB p, 0, 7⟩

/-- CYC_TGRPLO (R425). -/
def CYC.TGRPLO (p : Nat) : Nat := 0x3000640010 + p * 0x100

/-- Bits [31:0] of CYC_TGRPLO. -/
def CYC.TGRPLO_GROUPS (p : Nat) : FieldRef := ⟨CYC.TGRPLO p, 0, 32⟩

/-- CYC_TGRPHI (R425). -/
def CYC.TGRPHI (p : Nat) : Nat := 0x3000640014 + p * 0x100

/-- Bits [31:0] of CYC_TGRPHI. -/
def CYC.TGRPHI_GROUPS (p : Nat) : FieldRef := ⟨CYC.TGRPHI p, 0, 32⟩

/-- CYC_TFAULT (R425). -/
def CYC.TFAULT (p : Nat) : Nat := 0x3000640020 + p * 0x100

/-- Bits [31:24] of CYC_TFAULT. -/
def CYC.TFAULT_RSTCNT (p : Nat) : FieldRef := ⟨CYC.TFAULT p, 24, 8⟩

/-- Bits [23:16] of CYC_TFAULT. -/
def CYC.TFAULT_COUNT (p : Nat) : FieldRef := ⟨CYC.TFAULT p, 16, 8⟩

/-- Bits [15:8] of CYC_TFAULT. -/
def CYC.TFAULT_LAST (p : Nat) : FieldRef := ⟨CYC.TFAULT p, 8, 8⟩

/-- Bits [7:0] of CYC_TFAULT. -/
def CYC.TFAULT_FIRST (p : Nat) : FieldRef := ⟨CYC.TFAULT p, 0, 8⟩

/-- CYC_TFPC (R425). -/
def CYC.TFPC (p : Nat) : Nat := 0x3000640024 + p * 0x100

/-- Bits [31:0] of CYC_TFPC. -/
def CYC.TFPC_FPC (p : Nat) : FieldRef := ⟨CYC.TFPC p, 0, 32⟩

/-- CYC_TFADDR (R425). -/
def CYC.TFADDR (p : Nat) : Nat := 0x3000640028 + p * 0x100

/-- Bits [31:0] of CYC_TFADDR. -/
def CYC.TFADDR_FADDR (p : Nat) : FieldRef := ⟨CYC.TFADDR p, 0, 32⟩

/-- CYC_TFTICK (R425). -/
def CYC.TFTICK (p : Nat) : Nat := 0x300064002C + p * 0x100

/-- Bits [31:0] of CYC_TFTICK. -/
def CYC.TFTICK_FTICK (p : Nat) : FieldRef := ⟨CYC.TFTICK p, 0, 32⟩

/-- CYC_TEVQ_CNT (R425). -/
def CYC.TEVQ_CNT (p : Nat) : Nat := 0x3000640030 + p * 0x100

/-- Bits [31:16] of CYC_TEVQ_CNT. -/
def CYC.TEVQ_CNT_LOST (p : Nat) : FieldRef := ⟨CYC.TEVQ_CNT p, 16, 16⟩

/-- Bits [6:0] of CYC_TEVQ_CNT. -/
def CYC.TEVQ_CNT_LEVEL (p : Nat) : FieldRef := ⟨CYC.TEVQ_CNT p, 0, 7⟩

/-- CYC_TOSQ_CNT (R425). -/
def CYC.TOSQ_CNT (p : Nat) : Nat := 0x3000640034 + p * 0x100

/-- Bits [31:16] of CYC_TOSQ_CNT. -/
def CYC.TOSQ_CNT_LOST (p : Nat) : FieldRef := ⟨CYC.TOSQ_CNT p, 16, 16⟩

/-- Bits [6:0] of CYC_TOSQ_CNT. -/
def CYC.TOSQ_CNT_LEVEL (p : Nat) : FieldRef := ⟨CYC.TOSQ_CNT p, 0, 7⟩

/-- CYC_TGHELD (R425). -/
def CYC.TGHELD (p : Nat) : Nat := 0x3000640038 + p * 0x100

/-- Bits [31:24] of CYC_TGHELD. -/
def CYC.TGHELD_TOPRANK (p : Nat) : FieldRef := ⟨CYC.TGHELD p, 24, 8⟩

/-- Bits [19:8] of CYC_TGHELD. -/
def CYC.TGHELD_WAITG (p : Nat) : FieldRef := ⟨CYC.TGHELD p, 8, 12⟩

/-- Bits [3:0] of CYC_TGHELD. -/
def CYC.TGHELD_COUNT (p : Nat) : FieldRef := ⟨CYC.TGHELD p, 0, 4⟩

/-- CYC_TOSQ_W0 (R425). -/
def CYC.TOSQ_W0 (p : Nat) : Nat := 0x3000640040 + p * 0x100

/-- Bits [31:31] of CYC_TOSQ_W0. -/
def CYC.TOSQ_W0_VALID (p : Nat) : FieldRef := ⟨CYC.TOSQ_W0 p, 31, 1⟩

/-- Bits [15:0] of CYC_TOSQ_W0. -/
def CYC.TOSQ_W0_CODE (p : Nat) : FieldRef := ⟨CYC.TOSQ_W0 p, 0, 16⟩

/-- CYC_TOSQ_W1 (R425). -/
def CYC.TOSQ_W1 (p : Nat) : Nat := 0x3000640044 + p * 0x100

/-- Bits [31:0] of CYC_TOSQ_W1. -/
def CYC.TOSQ_W1_DATA0 (p : Nat) : FieldRef := ⟨CYC.TOSQ_W1 p, 0, 32⟩

/-- CYC_TOSQ_W2 (R425). -/
def CYC.TOSQ_W2 (p : Nat) : Nat := 0x3000640048 + p * 0x100

/-- Bits [31:0] of CYC_TOSQ_W2. -/
def CYC.TOSQ_W2_DATA1 (p : Nat) : FieldRef := ⟨CYC.TOSQ_W2 p, 0, 32⟩

/-- CYC_TOSQ_W3 (R425). -/
def CYC.TOSQ_W3 (p : Nat) : Nat := 0x300064004C + p * 0x100

/-- Bits [31:0] of CYC_TOSQ_W3. -/
def CYC.TOSQ_W3_TICK (p : Nat) : FieldRef := ⟨CYC.TOSQ_W3 p, 0, 32⟩

/-- CYC_BUDGET (R471). -/
def CYC.BUDGET (p : Nat) : Nat := 0x3000640050 + p * 0x100

/-- Bits [31:16] of CYC_BUDGET. -/
def CYC.BUDGET_EVENT (p : Nat) : FieldRef := ⟨CYC.BUDGET p, 16, 16⟩

/-- Bits [15:0] of CYC_BUDGET. -/
def CYC.BUDGET_TICK (p : Nat) : FieldRef := ⟨CYC.BUDGET p, 0, 16⟩

/-- CYC_USED (R471). -/
def CYC.USED (p : Nat) : Nat := 0x3000640054 + p * 0x100

/-- Bits [31:0] of CYC_USED. -/
def CYC.USED_CYCLES (p : Nat) : FieldRef := ⟨CYC.USED p, 0, 32⟩

/-- CYC_USEDMAX (R471). -/
def CYC.USEDMAX (p : Nat) : Nat := 0x3000640058 + p * 0x100

/-- Bits [31:0] of CYC_USEDMAX. -/
def CYC.USEDMAX_CYCLES (p : Nat) : FieldRef := ⟨CYC.USEDMAX p, 0, 32⟩

/-- CYC_BLKMAX (R471). -/
def CYC.BLKMAX (p : Nat) : Nat := 0x300064005C + p * 0x100

/-- Bits [15:0] of CYC_BLKMAX. -/
def CYC.BLKMAX_NS (p : Nat) : FieldRef := ⟨CYC.BLKMAX p, 0, 16⟩

/-- CYC_DSTAT (R471). -/
def CYC.DSTAT (p : Nat) : Nat := 0x3000640060 + p * 0x100

/-- Bits [31:16] of CYC_DSTAT. -/
def CYC.DSTAT_MISSMAX (p : Nat) : FieldRef := ⟨CYC.DSTAT p, 16, 16⟩

/-- Bits [15:0] of CYC_DSTAT. -/
def CYC.DSTAT_TSKIP (p : Nat) : FieldRef := ⟨CYC.DSTAT p, 0, 16⟩

/-- CYC_IMGA (R471). -/
def CYC.IMGA (p : Nat) : Nat := 0x3000640064 + p * 0x100

/-- Bits [31:6] of CYC_IMGA. -/
def CYC.IMGA_HDR (p : Nat) : FieldRef := ⟨CYC.IMGA p, 6, 26⟩

/-- CYC_IMGB (R471). -/
def CYC.IMGB (p : Nat) : Nat := 0x3000640068 + p * 0x100

/-- Bits [31:6] of CYC_IMGB. -/
def CYC.IMGB_HDR (p : Nat) : FieldRef := ⟨CYC.IMGB p, 6, 26⟩

/-- CYC_CMAP (R471). -/
def CYC.CMAP (p : Nat) : Nat := 0x300064006C + p * 0x100

/-- Bits [31:4] of CYC_CMAP. -/
def CYC.CMAP_MAP (p : Nat) : FieldRef := ⟨CYC.CMAP p, 4, 28⟩

/-- CYC_XCHG (R471). -/
def CYC.XCHG (p : Nat) : Nat := 0x3000640070 + p * 0x100

/-- Bits [31:31] of CYC_XCHG. -/
def CYC.XCHG_ARM (p : Nat) : FieldRef := ⟨CYC.XCHG p, 31, 1⟩

/-- Bits [30:30] of CYC_XCHG. -/
def CYC.XCHG_DISARM (p : Nat) : FieldRef := ⟨CYC.XCHG p, 30, 1⟩

/-- Bits [16:16] of CYC_XCHG. -/
def CYC.XCHG_ACT (p : Nat) : FieldRef := ⟨CYC.XCHG p, 16, 1⟩

/-- Bits [9:8] of CYC_XCHG. -/
def CYC.XCHG_XSTATE (p : Nat) : FieldRef := ⟨CYC.XCHG p, 8, 2⟩

/-- Bits [3:0] of CYC_XCHG. -/
def CYC.XCHG_CODE (p : Nat) : FieldRef := ⟨CYC.XCHG p, 0, 4⟩

/-- CYC_XTICK (R471). -/
def CYC.XTICK (p : Nat) : Nat := 0x3000640074 + p * 0x100

/-- Bits [31:0] of CYC_XTICK. -/
def CYC.XTICK_TICK (p : Nat) : FieldRef := ⟨CYC.XTICK p, 0, 32⟩

/-- CYC_XCOPY (R471). -/
def CYC.XCOPY (p : Nat) : Nat := 0x3000640078 + p * 0x100

/-- Bits [31:0] of CYC_XCOPY. -/
def CYC.XCOPY_NS (p : Nat) : FieldRef := ⟨CYC.XCOPY p, 0, 32⟩

/-- CYC_WIN_W0 (R424). -/
def CYC.WIN_W0 (p : Nat) (e : Nat) : Nat := 0x3000680000 + p * 0x100 + e * 0x10

/-- Bits [31:12] of CYC_WIN_W0. -/
def CYC.WIN_W0_VBASE (p : Nat) (e : Nat) : FieldRef := ⟨CYC.WIN_W0 p e, 12, 20⟩

/-- Bits [0:0] of CYC_WIN_W0. -/
def CYC.WIN_W0_EN (p : Nat) (e : Nat) : FieldRef := ⟨CYC.WIN_W0 p e, 0, 1⟩

/-- CYC_WIN_W1 (R424). -/
def CYC.WIN_W1 (p : Nat) (e : Nat) : Nat := 0x3000680004 + p * 0x100 + e * 0x10

/-- Bits [31:12] of CYC_WIN_W1. -/
def CYC.WIN_W1_VLIMIT (p : Nat) (e : Nat) : FieldRef := ⟨CYC.WIN_W1 p e, 12, 20⟩

/-- CYC_WIN_W2 (R424). -/
def CYC.WIN_W2 (p : Nat) (e : Nat) : Nat := 0x3000680008 + p * 0x100 + e * 0x10

/-- Bits [31:12] of CYC_WIN_W2. -/
def CYC.WIN_W2_PBASE_LO (p : Nat) (e : Nat) : FieldRef := ⟨CYC.WIN_W2 p e, 12, 20⟩

/-- CYC_WIN_W3 (R424). -/
def CYC.WIN_W3 (p : Nat) (e : Nat) : Nat := 0x300068000C + p * 0x100 + e * 0x10

/-- Bits [18:16] of CYC_WIN_W3. -/
def CYC.WIN_W3_KIND (p : Nat) (e : Nat) : FieldRef := ⟨CYC.WIN_W3 p e, 16, 3⟩

/-- Bits [7:0] of CYC_WIN_W3. -/
def CYC.WIN_W3_PBASE_HI (p : Nat) (e : Nat) : FieldRef := ⟨CYC.WIN_W3 p e, 0, 8⟩

/-- CYC_GRDCFG (R426). -/
def CYC.GRDCFG (p : Nat) : Nat := 0x30006C0000 + p * 0x10

/-- Bits [31:31] of CYC_GRDCFG. -/
def CYC.GRDCFG_EN (p : Nat) : FieldRef := ⟨CYC.GRDCFG p, 31, 1⟩

/-- Bits [29:29] of CYC_GRDCFG. -/
def CYC.GRDCFG_RDREQ (p : Nat) : FieldRef := ⟨CYC.GRDCFG p, 29, 1⟩

/-- Bits [21:16] of CYC_GRDCFG. -/
def CYC.GRDCFG_GROUP (p : Nat) : FieldRef := ⟨CYC.GRDCFG p, 16, 6⟩

/-- Bits [7:0] of CYC_GRDCFG. -/
def CYC.GRDCFG_RANK (p : Nat) : FieldRef := ⟨CYC.GRDCFG p, 0, 8⟩

/-- CYC_GBASE (R426). -/
def CYC.GBASE (p : Nat) : Nat := 0x30006C0004 + p * 0x10

/-- Bits [18:0] of CYC_GBASE. -/
def CYC.GBASE_GBASE (p : Nat) : FieldRef := ⟨CYC.GBASE p, 0, 19⟩

/-- CYC_GLEN (R426). -/
def CYC.GLEN (p : Nat) : Nat := 0x30006C0008 + p * 0x10

/-- Bits [27:16] of CYC_GLEN. -/
def CYC.GLEN_HOLDLIM (p : Nat) : FieldRef := ⟨CYC.GLEN p, 16, 12⟩

/-- Bits [12:0] of CYC_GLEN. -/
def CYC.GLEN_LEN (p : Nat) : FieldRef := ⟨CYC.GLEN p, 0, 13⟩

/-- CYC_GSTATE (R426). -/
def CYC.GSTATE (p : Nat) : Nat := 0x30006C000C + p * 0x10

/-- Bits [31:31] of CYC_GSTATE. -/
def CYC.GSTATE_HELD (p : Nat) : FieldRef := ⟨CYC.GSTATE p, 31, 1⟩

/-- Bits [30:30] of CYC_GSTATE. -/
def CYC.GSTATE_TORN (p : Nat) : FieldRef := ⟨CYC.GSTATE p, 30, 1⟩

/-- Bits [25:16] of CYC_GSTATE. -/
def CYC.GSTATE_HOLDER (p : Nat) : FieldRef := ⟨CYC.GSTATE p, 16, 10⟩

/-- Bits [6:0] of CYC_GSTATE. -/
def CYC.GSTATE_WAIT (p : Nat) : FieldRef := ⟨CYC.GSTATE p, 0, 7⟩

/-- CYC_PHX_ADDR (R526). -/
def CYC.PHX_ADDR : Nat := 0x30006D0000

/-- Bits [20:16] of CYC_PHX_ADDR. -/
def CYC.PHX_ADDR_SET : FieldRef := ⟨CYC.PHX_ADDR, 16, 5⟩

/-- Bits [8:0] of CYC_PHX_ADDR. -/
def CYC.PHX_ADDR_INDEX : FieldRef := ⟨CYC.PHX_ADDR, 0, 9⟩

/-- CYC_PHX_DRE (R526). -/
def CYC.PHX_DRE : Nat := 0x30006D0004

/-- Bits [31:0] of CYC_PHX_DRE. -/
def CYC.PHX_DRE_RE : FieldRef := ⟨CYC.PHX_DRE, 0, 32⟩

/-- CYC_PHX_DIM (R526). -/
def CYC.PHX_DIM : Nat := 0x30006D0008

/-- Bits [31:0] of CYC_PHX_DIM. -/
def CYC.PHX_DIM_IM : FieldRef := ⟨CYC.PHX_DIM, 0, 32⟩

/-- CYC_PHX_CFG (R526). -/
def CYC.PHX_CFG (p : Nat) : Nat := 0x30006D0100 + p * 0x4

/-- Bits [31:31] of CYC_PHX_CFG. -/
def CYC.PHX_CFG_LOCK (p : Nat) : FieldRef := ⟨CYC.PHX_CFG p, 31, 1⟩

/-- Bits [9:0] of CYC_PHX_CFG. -/
def CYC.PHX_CFG_LEN (p : Nat) : FieldRef := ⟨CYC.PHX_CFG p, 0, 10⟩

/-- Rows of the register map of CYC. -/
def regsCyc0 : List RegDesc := [
  ⟨"CYC_CTL", 0x3000600000, [], 32, [⟨"CWD_EN", 1, 1, .w1s, 0, .s, []⟩,
    ⟨"EN", 0, 0, .rw, 0, .s, []⟩]⟩,
  ⟨"CYC_STATUS", 0x3000600004, [], 32, [⟨"CORE", 9, 9, .ro, 0, .s, []⟩,
    ⟨"FRC_ORPHAN", 8, 8, .w1c, 0, .s, []⟩,
    ⟨"XCHG_ERR", 7, 7, .w1c, 0, .s, []⟩,
    ⟨"XCHG_DONE", 6, 6, .w1c, 0, .s, []⟩,
    ⟨"CWD", 5, 5, .w1c, 0, .s, []⟩,
    ⟨"TICK_SKIP", 4, 4, .w1c, 0, .s, []⟩,
    ⟨"OSQ_FULL", 3, 3, .w1c, 0, .s, []⟩,
    ⟨"EVQ_OVF", 2, 2, .w1c, 0, .s, []⟩,
    ⟨"TREFUSED", 1, 1, .w1c, 0, .s, []⟩,
    ⟨"TFAULT", 0, 0, .ro, 0, .s, []⟩]⟩,
  ⟨"CYC_STATE", 0x300060000C, [], 32, [⟨"CLUSTER", 1, 0, .ro, 0, .c, []⟩]⟩,
  ⟨"CYC_CWD_CFG", 0x3000600010, [], 32, [⟨"TICKTO", 23, 16, .rw, 8, .s, [(1, 255)]⟩,
    ⟨"KICKTO", 15, 0, .rw, 100, .s, [(1, 65535)]⟩]⟩,
  ⟨"CYC_CWD_KICK", 0x3000600014, [], 32, [⟨"KEY", 15, 0, .wo, 0, .s, []⟩]⟩,
  ⟨"CYC_CWD_LEFT", 0x3000600018, [], 32, [⟨"LEFT", 31, 0, .ro, 0, .s, []⟩]⟩,
  ⟨"CYC_ENABLE", 0x3000600008, [], 32, [⟨"CORE", 9, 9, .rw, 0, .s, []⟩,
    ⟨"FRC_ORPHAN", 8, 8, .rw, 0, .s, []⟩,
    ⟨"XCHG_ERR", 7, 7, .rw, 0, .s, []⟩,
    ⟨"XCHG_DONE", 6, 6, .rw, 0, .s, []⟩,
    ⟨"CWD", 5, 5, .rw, 0, .s, []⟩,
    ⟨"TICK_SKIP", 4, 4, .rw, 0, .s, []⟩,
    ⟨"OSQ_FULL", 3, 3, .rw, 0, .s, []⟩,
    ⟨"EVQ_OVF", 2, 2, .rw, 0, .s, []⟩,
    ⟨"TREFUSED", 1, 1, .rw, 0, .s, []⟩,
    ⟨"TFAULT", 0, 0, .rw, 0, .s, []⟩]⟩,
  ⟨"CYC_FRC_CMD", 0x3000600020, [], 32, [⟨"INDEX", 31, 16, .rw, 0, .s, []⟩,
    ⟨"OP", 2, 0, .rw, 0, .s, []⟩]⟩,
  ⟨"CYC_FRC_RES", 0x3000600024, [], 32, [⟨"INDEX", 31, 16, .ro, 0, .s, []⟩,
    ⟨"CODE", 3, 1, .ro, 0, .s, []⟩,
    ⟨"BUSY", 0, 0, .ro, 0, .s, []⟩]⟩,
  ⟨"CYC_FRC_D0", 0x3000600028, [], 32, [⟨"POINT", 31, 0, .rw, 0, .s, []⟩]⟩,
  ⟨"CYC_FRC_D1", 0x300060002C, [], 32, [⟨"VALUE", 31, 0, .rw, 0, .s, []⟩]⟩,
  ⟨"CYC_FRC_D2", 0x3000600030, [], 32, [⟨"VALID", 31, 31, .rw, 0, .s, []⟩,
    ⟨"ORPHAN", 30, 30, .ro, 0, .s, []⟩,
    ⟨"QV", 1, 0, .rw, 0, .s, [(0, 1), (3, 3)]⟩]⟩]

/-- Rows of the register map of CYC. -/
def regsCyc1 : List RegDesc := [
  ⟨"CYC_FRC_ACTIVE", 0x3000600034, [], 32, [⟨"COUNT", 16, 0, .ro, 0, .s, []⟩]⟩,
  ⟨"CYC_FRC_ORPH", 0x3000600038, [], 32, [⟨"COUNT", 16, 0, .ro, 0, .s, []⟩]⟩,
  ⟨"CYC_CSTATUS", 0x3000601000, [(64, 64)], 32, [⟨"LOCK_FULL", 2, 2, .w1c, 0, .c, []⟩,
    ⟨"HALTED", 1, 1, .w1c, 0, .c, []⟩,
    ⟨"CWD_STALL", 0, 0, .w1c, 0, .c, []⟩]⟩,
  ⟨"CYC_CENABLE", 0x3000601004, [(64, 64)], 32, [⟨"LOCK_FULL", 2, 2, .rw, 0, .s, []⟩,
    ⟨"HALTED", 1, 1, .rw, 0, .s, []⟩,
    ⟨"CWD_STALL", 0, 0, .rw, 0, .s, []⟩]⟩,
  ⟨"CYC_CSTATE", 0x3000601008, [(64, 64)], 32, [⟨"RUNNING", 31, 31, .ro, 0, .c, []⟩,
    ⟨"TENANT", 25, 16, .ro, 0, .c, []⟩,
    ⟨"CLASS", 10, 8, .ro, 0, .c, []⟩,
    ⟨"BOUND", 5, 0, .ro, 0, .s, []⟩]⟩,
  ⟨"CYC_LOCKS", 0x300060100C, [(64, 64)], 32, [⟨"LOCKI", 25, 16, .ro, 0, .c, []⟩,
    ⟨"LOCKD", 9, 0, .ro, 0, .c, []⟩]⟩,
  ⟨"CYC_DLATMAX", 0x3000601010, [(64, 64)], 32, [⟨"NS", 15, 0, .rw, 0, .c, [(0, 0)]⟩]⟩,
  ⟨"CYC_TCMD", 0x3000610000, [], 32, [⟨"CORE", 29, 24, .wo, 0, .s, []⟩,
    ⟨"RESTART", 20, 20, .wo, 0, .s, []⟩,
    ⟨"OP", 18, 16, .wo, 0, .s, []⟩,
    ⟨"TENANT", 9, 0, .wo, 0, .s, []⟩]⟩,
  ⟨"CYC_TRES", 0x3000610004, [], 32, [⟨"CODE", 3, 1, .ro, 0, .s, []⟩,
    ⟨"BUSY", 0, 0, .ro, 0, .s, []⟩]⟩,
  ⟨"CYC_WIN_CMD", 0x3000610010, [], 32, [⟨"OP", 25, 24, .rw, 0, .s, []⟩,
    ⟨"WIN", 19, 16, .rw, 0, .s, []⟩,
    ⟨"TENANT", 9, 0, .rw, 0, .s, []⟩]⟩,
  ⟨"CYC_WIN_RES", 0x3000610014, [], 32, [⟨"CODE", 3, 1, .ro, 0, .s, []⟩,
    ⟨"BUSY", 0, 0, .ro, 0, .s, []⟩]⟩,
  ⟨"CYC_WIN_D0", 0x3000610018, [], 32, [⟨"VBASE", 31, 12, .rw, 0, .s, []⟩,
    ⟨"EN", 0, 0, .rw, 0, .s, []⟩]⟩]

/-- Rows of the register map of CYC. -/
def regsCyc2 : List RegDesc := [
  ⟨"CYC_WIN_D1", 0x300061001C, [], 32, [⟨"VLIMIT", 31, 12, .rw, 0, .s, []⟩]⟩,
  ⟨"CYC_WIN_D2", 0x3000610020, [], 32, [⟨"PBASE_LO", 31, 12, .rw, 0, .s, []⟩]⟩,
  ⟨"CYC_WIN_D3", 0x3000610024, [], 32, [⟨"KIND", 18, 16, .rw, 0, .s, []⟩,
    ⟨"PBASE_HI", 7, 0, .rw, 0, .s, []⟩]⟩,
  ⟨"CYC_EVPOST_D0", 0x3000610030, [], 32, [⟨"CODE", 15, 0, .rw, 0, .s, []⟩]⟩,
  ⟨"CYC_EVPOST_D1", 0x3000610034, [], 32, [⟨"DATA", 31, 0, .rw, 0, .s, []⟩]⟩,
  ⟨"CYC_EVPOST_D2", 0x3000610038, [], 32, [⟨"DATA2", 31, 0, .rw, 0, .s, []⟩]⟩,
  ⟨"CYC_EVPOST_CTL", 0x300061003C, [], 32, [⟨"RES", 17, 16, .ro, 0, .s, []⟩,
    ⟨"TENANT", 9, 0, .wo, 0, .s, []⟩]⟩,
  ⟨"CYC_TFLT", 0x3000610100, [(4, 32)], 32, [⟨"FLT", 31, 0, .w1c, 0, .s, []⟩]⟩,
  ⟨"CYC_TFEN", 0x3000610180, [(4, 32)], 32, [⟨"FEN", 31, 0, .rw, 0, .s, []⟩]⟩,
  ⟨"CYC_SUBL", 0x3000620000, [(4, 8192)], 32, [⟨"EN", 15, 15, .rw, 0, .s, []⟩,
    ⟨"STREAM", 10, 0, .rw, 0, .s, []⟩]⟩,
  ⟨"CYC_TCFG", 0x3000640000, [(256, 1024)], 32, [⟨"AUTORST", 15, 12, .rw, 0, .s, []⟩,
    ⟨"FPOL", 8, 8, .rw, 0, .s, []⟩,
    ⟨"TRIG", 5, 4, .rw, 0, .s, [(0, 2)]⟩,
    ⟨"CLASS", 2, 0, .rw, 4, .s, [(0, 4)]⟩]⟩,
  ⟨"CYC_TBIND", 0x3000640004, [(256, 1024)], 32, [⟨"VALID", 31, 31, .rw, 0, .s, []⟩,
    ⟨"CORE", 5, 0, .rw, 0, .s, []⟩]⟩]

/-- Rows of the register map of CYC. -/
def regsCyc3 : List RegDesc := [
  ⟨"CYC_TSTATE", 0x3000640008, [(256, 1024)], 32, [⟨"WAITG", 4, 4, .ro, 0, .c, []⟩,
    ⟨"RUN", 3, 3, .ro, 0, .c, []⟩,
    ⟨"STATE", 2, 0, .ro, 0, .c, []⟩]⟩,
  ⟨"CYC_TSUB", 0x300064000C, [(256, 1024)], 32, [⟨"SUBBASE", 28, 16, .rw, 0, .s, []⟩,
    ⟨"SUBCNT", 6, 0, .rw, 0, .s, [(0, 64)]⟩]⟩,
  ⟨"CYC_TGRPLO", 0x3000640010, [(256, 1024)], 32, [⟨"GROUPS", 31, 0, .rw, 0, .s, []⟩]⟩,
  ⟨"CYC_TGRPHI", 0x3000640014, [(256, 1024)], 32, [⟨"GROUPS", 31, 0, .rw, 0, .s, []⟩]⟩,
  ⟨"CYC_TFAULT", 0x3000640020, [(256, 1024)], 32, [⟨"RSTCNT", 31, 24, .ro, 0, .s, []⟩,
    ⟨"COUNT", 23, 16, .ro, 0, .s, []⟩,
    ⟨"LAST", 15, 8, .ro, 0, .s, []⟩,
    ⟨"FIRST", 7, 0, .ro, 0, .s, []⟩]⟩,
  ⟨"CYC_TFPC", 0x3000640024, [(256, 1024)], 32, [⟨"FPC", 31, 0, .ro, 0, .s, []⟩]⟩,
  ⟨"CYC_TFADDR", 0x3000640028, [(256, 1024)], 32, [⟨"FADDR", 31, 0, .ro, 0, .s, []⟩]⟩,
  ⟨"CYC_TFTICK", 0x300064002C, [(256, 1024)], 32, [⟨"FTICK", 31, 0, .ro, 0, .s, []⟩]⟩,
  ⟨"CYC_TEVQ_CNT", 0x3000640030, [(256, 1024)], 32, [⟨"LOST", 31, 16, .ro, 0, .t, []⟩,
    ⟨"LEVEL", 6, 0, .ro, 0, .t, []⟩]⟩,
  ⟨"CYC_TOSQ_CNT", 0x3000640034, [(256, 1024)], 32, [⟨"LOST", 31, 16, .ro, 0, .t, []⟩,
    ⟨"LEVEL", 6, 0, .ro, 0, .t, []⟩]⟩,
  ⟨"CYC_TGHELD", 0x3000640038, [(256, 1024)], 32, [⟨"TOPRANK", 31, 24, .ro, 0, .t, []⟩,
    ⟨"WAITG", 19, 8, .ro, 0, .t, []⟩,
    ⟨"COUNT", 3, 0, .ro, 0, .t, []⟩]⟩,
  ⟨"CYC_TOSQ_W0", 0x3000640040, [(256, 1024)], 32, [⟨"VALID", 31, 31, .ro, 0, .t, []⟩,
    ⟨"CODE", 15, 0, .ro, 0, .t, []⟩]⟩]

/-- Rows of the register map of CYC. -/
def regsCyc4 : List RegDesc := [
  ⟨"CYC_TOSQ_W1", 0x3000640044, [(256, 1024)], 32, [⟨"DATA0", 31, 0, .ro, 0, .t, []⟩]⟩,
  ⟨"CYC_TOSQ_W2", 0x3000640048, [(256, 1024)], 32, [⟨"DATA1", 31, 0, .ro, 0, .t, []⟩]⟩,
  ⟨"CYC_TOSQ_W3", 0x300064004C, [(256, 1024)], 32, [⟨"TICK", 31, 0, .ro, 0, .t, []⟩]⟩,
  ⟨"CYC_BUDGET", 0x3000640050, [(256, 1024)], 32, [⟨"EVENT", 31, 16, .rw, 256, .s, []⟩,
    ⟨"TICK", 15, 0, .rw, 256, .s, []⟩]⟩,
  ⟨"CYC_USED", 0x3000640054, [(256, 1024)], 32, [⟨"CYCLES", 31, 0, .ro, 0, .t, []⟩]⟩,
  ⟨"CYC_USEDMAX", 0x3000640058, [(256, 1024)], 32, [⟨"CYCLES", 31, 0, .ro, 0, .t, []⟩]⟩,
  ⟨"CYC_BLKMAX", 0x300064005C, [(256, 1024)], 32, [⟨"NS", 15, 0, .ro, 0, .t, []⟩]⟩,
  ⟨"CYC_DSTAT", 0x3000640060, [(256, 1024)], 32, [⟨"MISSMAX", 31, 16, .ro, 0, .t, []⟩,
    ⟨"TSKIP", 15, 0, .ro, 0, .t, []⟩]⟩,
  ⟨"CYC_IMGA", 0x3000640064, [(256, 1024)], 32, [⟨"HDR", 31, 6, .rw, 0, .s, []⟩]⟩,
  ⟨"CYC_IMGB", 0x3000640068, [(256, 1024)], 32, [⟨"HDR", 31, 6, .rw, 0, .s, []⟩]⟩,
  ⟨"CYC_CMAP", 0x300064006C, [(256, 1024)], 32, [⟨"MAP", 31, 4, .rw, 0, .s, []⟩]⟩,
  ⟨"CYC_XCHG", 0x3000640070, [(256, 1024)], 32, [⟨"ARM", 31, 31, .wo, 0, .t, []⟩,
    ⟨"DISARM", 30, 30, .wo, 0, .t, []⟩,
    ⟨"ACT", 16, 16, .ro, 0, .s, []⟩,
    ⟨"XSTATE", 9, 8, .ro, 0, .t, []⟩,
    ⟨"CODE", 3, 0, .ro, 0, .t, []⟩]⟩]

/-- Rows of the register map of CYC. -/
def regsCyc5 : List RegDesc := [
  ⟨"CYC_XTICK", 0x3000640074, [(256, 1024)], 32, [⟨"TICK", 31, 0, .rw, 0, .s, []⟩]⟩,
  ⟨"CYC_XCOPY", 0x3000640078, [(256, 1024)], 32, [⟨"NS", 31, 0, .ro, 0, .s, []⟩]⟩,
  ⟨"CYC_WIN_W0", 0x3000680000, [(256, 1024), (16, 16)], 32, [⟨"VBASE", 31, 12, .ro, 0, .s, []⟩,
    ⟨"EN", 0, 0, .ro, 0, .s, []⟩]⟩,
  ⟨"CYC_WIN_W1", 0x3000680004, [(256, 1024), (16, 16)], 32, [⟨"VLIMIT", 31, 12, .ro, 0, .s, []⟩]⟩,
  ⟨"CYC_WIN_W2", 0x3000680008, [(256, 1024), (16, 16)], 32, [⟨"PBASE_LO", 31, 12, .ro, 0, .s, []⟩]⟩,
  ⟨"CYC_WIN_W3", 0x300068000C, [(256, 1024), (16, 16)], 32, [⟨"KIND", 18, 16, .ro, 0, .s, []⟩,
    ⟨"PBASE_HI", 7, 0, .ro, 0, .s, []⟩]⟩,
  ⟨"CYC_GRDCFG", 0x30006C0000, [(16, 4096)], 32, [⟨"EN", 31, 31, .rw, 0, .s, []⟩,
    ⟨"RDREQ", 29, 29, .rw, 0, .s, []⟩,
    ⟨"GROUP", 21, 16, .rw, 0, .s, []⟩,
    ⟨"RANK", 7, 0, .rw, 0, .s, []⟩]⟩,
  ⟨"CYC_GBASE", 0x30006C0004, [(16, 4096)], 32, [⟨"GBASE", 18, 0, .rw, 81920, .s, [(81920, 393215)]⟩]⟩,
  ⟨"CYC_GLEN", 0x30006C0008, [(16, 4096)], 32, [⟨"HOLDLIM", 27, 16, .rw, 800, .s, [(16, 2400)]⟩,
    ⟨"LEN", 12, 0, .rw, 0, .s, [(0, 4096)]⟩]⟩,
  ⟨"CYC_GSTATE", 0x30006C000C, [(16, 4096)], 32, [⟨"HELD", 31, 31, .ro, 0, .c, []⟩,
    ⟨"TORN", 30, 30, .ro, 0, .s, []⟩,
    ⟨"HOLDER", 25, 16, .ro, 0, .c, []⟩,
    ⟨"WAIT", 6, 0, .ro, 0, .c, []⟩]⟩,
  ⟨"CYC_PHX_ADDR", 0x30006D0000, [], 32, [⟨"SET", 20, 16, .rw, 0, .s, []⟩,
    ⟨"INDEX", 8, 0, .rw, 0, .s, []⟩]⟩,
  ⟨"CYC_PHX_DRE", 0x30006D0004, [], 32, [⟨"RE", 31, 0, .rw, 0, .s, []⟩]⟩]

/-- Rows of the register map of CYC. -/
def regsCyc6 : List RegDesc := [
  ⟨"CYC_PHX_DIM", 0x30006D0008, [], 32, [⟨"IM", 31, 0, .rw, 0, .s, []⟩]⟩,
  ⟨"CYC_PHX_CFG", 0x30006D0100, [(4, 32)], 32, [⟨"LOCK", 31, 31, .rw, 0, .s, []⟩,
    ⟨"LEN", 9, 0, .rw, 0, .s, [(0, 0), (4, 512)]⟩]⟩]

/-- The register map of CYC. -/
def regsCyc : List RegDesc :=
  regsCyc0 ++ regsCyc1 ++ regsCyc2 ++ regsCyc3 ++ regsCyc4 ++ regsCyc5 ++ regsCyc6

end Sys2Proof.Machine
end

