-- ==== Sys2Proof/Machine/RegsDbg.lean ====
section
/-!
DEFINITION. Machine/RegsDbg.lean: the register map of block DBG (R52), from the field tables of its chapter: the address of
every register, the place of every field, and the table that REGISTER_WRITE and the resets read.
-/

namespace Sys2Proof.Machine


/-- DBG_CTL (R775). -/
def DBG.CTL : Nat := 0x3000D00000

/-- Bits [8:8] of DBG_CTL. -/
def DBG.CTL_WDFREEZE : FieldRef := ⟨DBG.CTL, 8, 1⟩

/-- Bits [4:4] of DBG_CTL. -/
def DBG.CTL_HALTRST : FieldRef := ⟨DBG.CTL, 4, 1⟩

/-- DBG_STATUS (R775). -/
def DBG.STATUS : Nat := 0x3000D00004

/-- Bits [1:1] of DBG_STATUS. -/
def DBG.STATUS_UNLOCK_FAIL : FieldRef := ⟨DBG.STATUS, 1, 1⟩

/-- Bits [0:0] of DBG_STATUS. -/
def DBG.STATUS_HALT : FieldRef := ⟨DBG.STATUS, 0, 1⟩

/-- DBG_LOCK (R775). -/
def DBG.LOCK : Nat := 0x3000D0000C

/-- Bits [1:0] of DBG_LOCK. -/
def DBG.LOCK_STATE : FieldRef := ⟨DBG.LOCK, 0, 2⟩

/-- DBG_AUTH (R775). -/
def DBG.AUTH : Nat := 0x3000D00010

/-- Bits [31:31] of DBG_AUTH. -/
def DBG.AUTH_SET : FieldRef := ⟨DBG.AUTH, 31, 1⟩

/-- Bits [12:0] of DBG_AUTH. -/
def DBG.AUTH_SLOT : FieldRef := ⟨DBG.AUTH, 0, 13⟩

/-- DBG_RST (R775). -/
def DBG.RST : Nat := 0x3000D00014

/-- Bits [15:0] of DBG_RST. -/
def DBG.RST_KEY : FieldRef := ⟨DBG.RST, 0, 16⟩

/-- DBG_ENABLE (R775). -/
def DBG.ENABLE : Nat := 0x3000D00008

/-- Bits [1:1] of DBG_ENABLE. -/
def DBG.ENABLE_UNLOCK_FAIL : FieldRef := ⟨DBG.ENABLE, 1, 1⟩

/-- Bits [0:0] of DBG_ENABLE. -/
def DBG.ENABLE_HALT : FieldRef := ⟨DBG.ENABLE, 0, 1⟩

/-- DBG_NCTL (R775). -/
def DBG.NCTL (p : Nat) : Nat := 0x3000D01000 + p * 0x80

/-- Bits [3:3] of DBG_NCTL. -/
def DBG.NCTL_BRKEN (p : Nat) : FieldRef := ⟨DBG.NCTL p, 3, 1⟩

/-- Bits [2:2] of DBG_NCTL. -/
def DBG.NCTL_STEP (p : Nat) : FieldRef := ⟨DBG.NCTL p, 2, 1⟩

/-- Bits [1:1] of DBG_NCTL. -/
def DBG.NCTL_RESUME (p : Nat) : FieldRef := ⟨DBG.NCTL p, 1, 1⟩

/-- Bits [0:0] of DBG_NCTL. -/
def DBG.NCTL_HALT (p : Nat) : FieldRef := ⟨DBG.NCTL p, 0, 1⟩

/-- DBG_NSTATE (R775). -/
def DBG.NSTATE (p : Nat) : Nat := 0x3000D01004 + p * 0x80

/-- Bits [10:8] of DBG_NSTATE. -/
def DBG.NSTATE_CAUSE (p : Nat) : FieldRef := ⟨DBG.NSTATE p, 8, 3⟩

/-- Bits [0:0] of DBG_NSTATE. -/
def DBG.NSTATE_HALTED (p : Nat) : FieldRef := ⟨DBG.NSTATE p, 0, 1⟩

/-- DBG_CREG_SEL (R775). -/
def DBG.CREG_SEL (p : Nat) : Nat := 0x3000D01008 + p * 0x80

/-- Bits [12:12] of DBG_CREG_SEL. -/
def DBG.CREG_SEL_SPACE (p : Nat) : FieldRef := ⟨DBG.CREG_SEL p, 12, 1⟩

/-- Bits [11:0] of DBG_CREG_SEL. -/
def DBG.CREG_SEL_REG (p : Nat) : FieldRef := ⟨DBG.CREG_SEL p, 0, 12⟩

/-- DBG_CREG_DATA (R775). -/
def DBG.CREG_DATA (p : Nat) : Nat := 0x3000D01010 + p * 0x80

/-- Bits [63:0] of DBG_CREG_DATA. -/
def DBG.CREG_DATA_DATA (p : Nat) : FieldRef := ⟨DBG.CREG_DATA p, 0, 64⟩

/-- DBG_BP (R775). -/
def DBG.BP (p : Nat) (e : Nat) : Nat := 0x3000D01020 + p * 0x80 + e * 0x8

/-- Bits [63:63] of DBG_BP. -/
def DBG.BP_EN (p : Nat) (e : Nat) : FieldRef := ⟨DBG.BP p e, 63, 1⟩

/-- Bits [62:62] of DBG_BP. -/
def DBG.BP_BMATCH (p : Nat) (e : Nat) : FieldRef := ⟨DBG.BP p e, 62, 1⟩

/-- Bits [57:48] of DBG_BP. -/
def DBG.BP_BURGEE (p : Nat) (e : Nat) : FieldRef := ⟨DBG.BP p e, 48, 10⟩

/-- Bits [47:0] of DBG_BP. -/
def DBG.BP_ADDR (p : Nat) (e : Nat) : FieldRef := ⟨DBG.BP p e, 0, 48⟩

/-- DBG_WP_ADDR (R775). -/
def DBG.WP_ADDR (p : Nat) (e : Nat) : Nat := 0x3000D01040 + p * 0x80 + e * 0x10

/-- Bits [47:0] of DBG_WP_ADDR. -/
def DBG.WP_ADDR_ADDR (p : Nat) (e : Nat) : FieldRef := ⟨DBG.WP_ADDR p e, 0, 48⟩

/-- DBG_WP_CFG (R775). -/
def DBG.WP_CFG (p : Nat) (e : Nat) : Nat := 0x3000D01048 + p * 0x80 + e * 0x10

/-- Bits [31:30] of DBG_WP_CFG. -/
def DBG.WP_CFG_RW (p : Nat) (e : Nat) : FieldRef := ⟨DBG.WP_CFG p e, 30, 2⟩

/-- Bits [11:0] of DBG_WP_CFG. -/
def DBG.WP_CFG_MASK (p : Nat) (e : Nat) : FieldRef := ⟨DBG.WP_CFG p e, 0, 12⟩

/-- Rows of the register map of DBG. -/
def regsDbg0 : List RegDesc := [
  ⟨"DBG_CTL", 0x3000D00000, [], 32, [⟨"WDFREEZE", 8, 8, .rw, 1, .s, []⟩,
    ⟨"HALTRST", 4, 4, .rw, 0, .p, []⟩]⟩,
  ⟨"DBG_STATUS", 0x3000D00004, [], 32, [⟨"UNLOCK_FAIL", 1, 1, .w1c, 0, .s, []⟩,
    ⟨"HALT", 0, 0, .w1c, 0, .s, []⟩]⟩,
  ⟨"DBG_LOCK", 0x3000D0000C, [], 32, [⟨"STATE", 1, 0, .ro, 0, .s, []⟩]⟩,
  ⟨"DBG_AUTH", 0x3000D00010, [], 32, [⟨"SET", 31, 31, .ro, 0, .n, []⟩,
    ⟨"SLOT", 12, 0, .rw, 0, .n, []⟩]⟩,
  ⟨"DBG_RST", 0x3000D00014, [], 32, [⟨"KEY", 15, 0, .wo, 0, .s, []⟩]⟩,
  ⟨"DBG_ENABLE", 0x3000D00008, [], 32, [⟨"UNLOCK_FAIL", 1, 1, .rw, 0, .s, []⟩,
    ⟨"HALT", 0, 0, .rw, 0, .s, []⟩]⟩,
  ⟨"DBG_NCTL", 0x3000D01000, [(128, 68)], 32, [⟨"BRKEN", 3, 3, .rw, 0, .s, []⟩,
    ⟨"STEP", 2, 2, .wo, 0, .s, []⟩,
    ⟨"RESUME", 1, 1, .wo, 0, .s, []⟩,
    ⟨"HALT", 0, 0, .wo, 0, .s, []⟩]⟩,
  ⟨"DBG_NSTATE", 0x3000D01004, [(128, 68)], 32, [⟨"CAUSE", 10, 8, .ro, 0, .s, []⟩,
    ⟨"HALTED", 0, 0, .ro, 0, .s, []⟩]⟩,
  ⟨"DBG_CREG_SEL", 0x3000D01008, [(128, 68)], 32, [⟨"SPACE", 12, 12, .rw, 0, .s, []⟩,
    ⟨"REG", 11, 0, .rw, 0, .s, []⟩]⟩,
  ⟨"DBG_CREG_DATA", 0x3000D01010, [(128, 68)], 64, [⟨"DATA", 63, 0, .rw, 0, .s, []⟩]⟩,
  ⟨"DBG_BP", 0x3000D01020, [(128, 68), (8, 4)], 64, [⟨"EN", 63, 63, .rw, 0, .s, []⟩,
    ⟨"BMATCH", 62, 62, .rw, 0, .s, []⟩,
    ⟨"BURGEE", 57, 48, .rw, 0, .s, []⟩,
    ⟨"ADDR", 47, 0, .rw, 0, .s, []⟩]⟩,
  ⟨"DBG_WP_ADDR", 0x3000D01040, [(128, 68), (16, 2)], 64, [⟨"ADDR", 47, 0, .rw, 0, .s, []⟩]⟩]

/-- Rows of the register map of DBG. -/
def regsDbg1 : List RegDesc := [
  ⟨"DBG_WP_CFG", 0x3000D01048, [(128, 68), (16, 2)], 32, [⟨"RW", 31, 30, .rw, 0, .s, []⟩,
    ⟨"MASK", 11, 0, .rw, 0, .s, []⟩]⟩]

/-- The register map of DBG. -/
def regsDbg : List RegDesc :=
  regsDbg0 ++ regsDbg1

end Sys2Proof.Machine
end

