-- ==== Sys2Proof/Machine/RegsDmv.lean ====
section
/-!
DEFINITION. Machine/RegsDmv.lean: the register map of block DMV (R52), from the field tables of its chapter: the address of
every register, the place of every field, and the table that REGISTER_WRITE and the resets read.
-/

namespace Sys2Proof.Machine


/-- DMV_STATUS (R691). -/
def DMV.STATUS : Nat := 0x3000900000

/-- Bits [16:16] of DMV_STATUS. -/
def DMV.STATUS_RXNOMAP : FieldRef := ⟨DMV.STATUS, 16, 1⟩

/-- Bits [15:0] of DMV_STATUS. -/
def DMV.STATUS_UNIT : FieldRef := ⟨DMV.STATUS, 0, 16⟩

/-- DMV_ENABLE (R691). -/
def DMV.ENABLE : Nat := 0x3000900004

/-- Bits [16:16] of DMV_ENABLE. -/
def DMV.ENABLE_RXNOMAP : FieldRef := ⟨DMV.ENABLE, 16, 1⟩

/-- Bits [15:0] of DMV_ENABLE. -/
def DMV.ENABLE_UNIT : FieldRef := ⟨DMV.ENABLE, 0, 16⟩

/-- DMV_CMD (R691). -/
def DMV.CMD : Nat := 0x300090000C

/-- Bits [0:0] of DMV_CMD. -/
def DMV.CMD_CNT_CLR : FieldRef := ⟨DMV.CMD, 0, 1⟩

/-- DMV_RXNOMAP (R691). -/
def DMV.RXNOMAP : Nat := 0x3000900010

/-- Bits [31:0] of DMV_RXNOMAP. -/
def DMV.RXNOMAP_COUNT : FieldRef := ⟨DMV.RXNOMAP, 0, 32⟩

/-- DMV_RXMAP (R691). -/
def DMV.RXMAP (p : Nat) : Nat := 0x3000900040 + p * 0x4

/-- Bits [7:7] of DMV_RXMAP. -/
def DMV.RXMAP_EN (p : Nat) : FieldRef := ⟨DMV.RXMAP p, 7, 1⟩

/-- Bits [3:0] of DMV_RXMAP. -/
def DMV.RXMAP_MOVER (p : Nat) : FieldRef := ⟨DMV.RXMAP p, 0, 4⟩

/-- DMV_MCFG (R691). -/
def DMV.MCFG (p : Nat) : Nat := 0x3000901000 + p * 0x100

/-- Bits [31:31] of DMV_MCFG. -/
def DMV.MCFG_EN (p : Nat) : FieldRef := ⟨DMV.MCFG p, 31, 1⟩

/-- Bits [29:28] of DMV_MCFG. -/
def DMV.MCFG_KIND (p : Nat) : FieldRef := ⟨DMV.MCFG p, 28, 2⟩

/-- Bits [27:27] of DMV_MCFG. -/
def DMV.MCFG_REGOK (p : Nat) : FieldRef := ⟨DMV.MCFG p, 27, 1⟩

/-- Bits [20:16] of DMV_MCFG. -/
def DMV.MCFG_RSIZE (p : Nat) : FieldRef := ⟨DMV.MCFG p, 16, 5⟩

/-- Bits [14:0] of DMV_MCFG. -/
def DMV.MCFG_BUFSZ (p : Nat) : FieldRef := ⟨DMV.MCFG p, 0, 15⟩

/-- DMV_MSTATUS (R691). -/
def DMV.MSTATUS (p : Nat) : Nat := 0x3000901004 + p * 0x100

/-- Bits [4:4] of DMV_MSTATUS. -/
def DMV.MSTATUS_REFUSED (p : Nat) : FieldRef := ⟨DMV.MSTATUS p, 4, 1⟩

/-- Bits [3:3] of DMV_MSTATUS. -/
def DMV.MSTATUS_RXNOBUF (p : Nat) : FieldRef := ⟨DMV.MSTATUS p, 3, 1⟩

/-- Bits [2:2] of DMV_MSTATUS. -/
def DMV.MSTATUS_RXTRUNC (p : Nat) : FieldRef := ⟨DMV.MSTATUS p, 2, 1⟩

/-- Bits [1:1] of DMV_MSTATUS. -/
def DMV.MSTATUS_ERR (p : Nat) : FieldRef := ⟨DMV.MSTATUS p, 1, 1⟩

/-- Bits [0:0] of DMV_MSTATUS. -/
def DMV.MSTATUS_DONE (p : Nat) : FieldRef := ⟨DMV.MSTATUS p, 0, 1⟩

/-- DMV_MENABLE (R691). -/
def DMV.MENABLE (p : Nat) : Nat := 0x3000901008 + p * 0x100

/-- Bits [4:4] of DMV_MENABLE. -/
def DMV.MENABLE_REFUSED (p : Nat) : FieldRef := ⟨DMV.MENABLE p, 4, 1⟩

/-- Bits [3:3] of DMV_MENABLE. -/
def DMV.MENABLE_RXNOBUF (p : Nat) : FieldRef := ⟨DMV.MENABLE p, 3, 1⟩

/-- Bits [2:2] of DMV_MENABLE. -/
def DMV.MENABLE_RXTRUNC (p : Nat) : FieldRef := ⟨DMV.MENABLE p, 2, 1⟩

/-- Bits [1:1] of DMV_MENABLE. -/
def DMV.MENABLE_ERR (p : Nat) : FieldRef := ⟨DMV.MENABLE p, 1, 1⟩

/-- Bits [0:0] of DMV_MENABLE. -/
def DMV.MENABLE_DONE (p : Nat) : FieldRef := ⟨DMV.MENABLE p, 0, 1⟩

/-- DMV_MSTATE (R691). -/
def DMV.MSTATE (p : Nat) : Nat := 0x300090100C + p * 0x100

/-- Bits [11:8] of DMV_MSTATE. -/
def DMV.MSTATE_ERRCODE (p : Nat) : FieldRef := ⟨DMV.MSTATE p, 8, 4⟩

/-- Bits [1:0] of DMV_MSTATE. -/
def DMV.MSTATE_STATE (p : Nat) : FieldRef := ⟨DMV.MSTATE p, 0, 2⟩

/-- DMV_MCMD (R691). -/
def DMV.MCMD (p : Nat) : Nat := 0x3000901010 + p * 0x100

/-- Bits [0:0] of DMV_MCMD. -/
def DMV.MCMD_RESUME (p : Nat) : FieldRef := ⟨DMV.MCMD p, 0, 1⟩

/-- DMV_MRBASE (R691). -/
def DMV.MRBASE (p : Nat) : Nat := 0x3000901018 + p * 0x100

/-- Bits [39:5] of DMV_MRBASE. -/
def DMV.MRBASE_RBASE (p : Nat) : FieldRef := ⟨DMV.MRBASE p, 5, 35⟩

/-- DMV_MHEAD (R691). -/
def DMV.MHEAD (p : Nat) : Nat := 0x3000901020 + p * 0x100

/-- Bits [16:0] of DMV_MHEAD. -/
def DMV.MHEAD_HEAD (p : Nat) : FieldRef := ⟨DMV.MHEAD p, 0, 17⟩

/-- DMV_MTAIL (R691). -/
def DMV.MTAIL (p : Nat) : Nat := 0x3000901024 + p * 0x100

/-- Bits [16:0] of DMV_MTAIL. -/
def DMV.MTAIL_TAIL (p : Nat) : FieldRef := ⟨DMV.MTAIL p, 0, 17⟩

/-- DMV_MDESCS (R691). -/
def DMV.MDESCS (p : Nat) : Nat := 0x3000901028 + p * 0x100

/-- Bits [31:0] of DMV_MDESCS. -/
def DMV.MDESCS_COUNT (p : Nat) : FieldRef := ⟨DMV.MDESCS p, 0, 32⟩

/-- DMV_MRXFRAMES (R691). -/
def DMV.MRXFRAMES (p : Nat) : Nat := 0x300090102C + p * 0x100

/-- Bits [31:0] of DMV_MRXFRAMES. -/
def DMV.MRXFRAMES_COUNT (p : Nat) : FieldRef := ⟨DMV.MRXFRAMES p, 0, 32⟩

/-- DMV_MRXTRUNC (R691). -/
def DMV.MRXTRUNC (p : Nat) : Nat := 0x3000901030 + p * 0x100

/-- Bits [31:0] of DMV_MRXTRUNC. -/
def DMV.MRXTRUNC_COUNT (p : Nat) : FieldRef := ⟨DMV.MRXTRUNC p, 0, 32⟩

/-- DMV_MRXNOBUF (R691). -/
def DMV.MRXNOBUF (p : Nat) : Nat := 0x3000901034 + p * 0x100

/-- Bits [31:0] of DMV_MRXNOBUF. -/
def DMV.MRXNOBUF_COUNT (p : Nat) : FieldRef := ⟨DMV.MRXNOBUF p, 0, 32⟩

/-- Rows of the register map of DMV. -/
def regsDmv0 : List RegDesc := [
  ⟨"DMV_STATUS", 0x3000900000, [], 32, [⟨"RXNOMAP", 16, 16, .w1c, 0, .s, []⟩,
    ⟨"UNIT", 15, 0, .ro, 0, .s, []⟩]⟩,
  ⟨"DMV_ENABLE", 0x3000900004, [], 32, [⟨"RXNOMAP", 16, 16, .rw, 0, .s, []⟩,
    ⟨"UNIT", 15, 0, .rw, 0, .s, []⟩]⟩,
  ⟨"DMV_CMD", 0x300090000C, [], 32, [⟨"CNT_CLR", 0, 0, .wo, 0, .s, []⟩]⟩,
  ⟨"DMV_RXNOMAP", 0x3000900010, [], 32, [⟨"COUNT", 31, 0, .ro, 0, .s, []⟩]⟩,
  ⟨"DMV_RXMAP", 0x3000900040, [(4, 8)], 32, [⟨"EN", 7, 7, .rw, 0, .s, []⟩,
    ⟨"MOVER", 3, 0, .rw, 0, .s, []⟩]⟩,
  ⟨"DMV_MCFG", 0x3000901000, [(256, 16)], 32, [⟨"EN", 31, 31, .rw, 0, .s, []⟩,
    ⟨"KIND", 29, 28, .rw, 0, .s, [(0, 2)]⟩,
    ⟨"REGOK", 27, 27, .rw, 0, .s, []⟩,
    ⟨"RSIZE", 20, 16, .rw, 4, .s, [(4, 16)]⟩,
    ⟨"BUFSZ", 14, 0, .rw, 2048, .s, []⟩]⟩,
  ⟨"DMV_MSTATUS", 0x3000901004, [(256, 16)], 32, [⟨"REFUSED", 4, 4, .w1c, 0, .s, []⟩,
    ⟨"RXNOBUF", 3, 3, .w1c, 0, .s, []⟩,
    ⟨"RXTRUNC", 2, 2, .w1c, 0, .s, []⟩,
    ⟨"ERR", 1, 1, .w1c, 0, .s, []⟩,
    ⟨"DONE", 0, 0, .w1c, 0, .s, []⟩]⟩,
  ⟨"DMV_MENABLE", 0x3000901008, [(256, 16)], 32, [⟨"REFUSED", 4, 4, .rw, 0, .s, []⟩,
    ⟨"RXNOBUF", 3, 3, .rw, 0, .s, []⟩,
    ⟨"RXTRUNC", 2, 2, .rw, 0, .s, []⟩,
    ⟨"ERR", 1, 1, .rw, 0, .s, []⟩,
    ⟨"DONE", 0, 0, .rw, 0, .s, []⟩]⟩,
  ⟨"DMV_MSTATE", 0x300090100C, [(256, 16)], 32, [⟨"ERRCODE", 11, 8, .ro, 0, .s, []⟩,
    ⟨"STATE", 1, 0, .ro, 0, .s, []⟩]⟩,
  ⟨"DMV_MCMD", 0x3000901010, [(256, 16)], 32, [⟨"RESUME", 0, 0, .wo, 0, .s, []⟩]⟩,
  ⟨"DMV_MRBASE", 0x3000901018, [(256, 16)], 64, [⟨"RBASE", 39, 5, .rw, 0, .s, []⟩]⟩,
  ⟨"DMV_MHEAD", 0x3000901020, [(256, 16)], 32, [⟨"HEAD", 16, 0, .ro, 0, .s, []⟩]⟩]

/-- Rows of the register map of DMV. -/
def regsDmv1 : List RegDesc := [
  ⟨"DMV_MTAIL", 0x3000901024, [(256, 16)], 32, [⟨"TAIL", 16, 0, .rw, 0, .s, []⟩]⟩,
  ⟨"DMV_MDESCS", 0x3000901028, [(256, 16)], 32, [⟨"COUNT", 31, 0, .ro, 0, .s, []⟩]⟩,
  ⟨"DMV_MRXFRAMES", 0x300090102C, [(256, 16)], 32, [⟨"COUNT", 31, 0, .ro, 0, .s, []⟩]⟩,
  ⟨"DMV_MRXTRUNC", 0x3000901030, [(256, 16)], 32, [⟨"COUNT", 31, 0, .ro, 0, .s, []⟩]⟩,
  ⟨"DMV_MRXNOBUF", 0x3000901034, [(256, 16)], 32, [⟨"COUNT", 31, 0, .ro, 0, .s, []⟩]⟩]

/-- The register map of DMV. -/
def regsDmv : List RegDesc :=
  regsDmv0 ++ regsDmv1

end Sys2Proof.Machine
end

