-- ==== Sys2Proof/Machine/RegsMem.lean ====
section
/-!
DEFINITION. Machine/RegsMem.lean: the register map of block MEM (R52), from the field tables of its chapter: the address of
every register, the place of every field, and the table that REGISTER_WRITE and the resets read.
-/

namespace Sys2Proof.Machine


/-- MEM_CTL (R666). -/
def MEM.CTL : Nat := 0x3000A00000

/-- Bits [1:1] of MEM_CTL. -/
def MEM.CTL_DSCRUB_EN : FieldRef := ⟨MEM.CTL, 1, 1⟩

/-- Bits [0:0] of MEM_CTL. -/
def MEM.CTL_SSCRUB_EN : FieldRef := ⟨MEM.CTL, 0, 1⟩

/-- MEM_STATUS (R666). -/
def MEM.STATUS : Nat := 0x3000A00004

/-- Bits [7:7] of MEM_STATUS. -/
def MEM.STATUS_HOG : FieldRef := ⟨MEM.STATUS, 7, 1⟩

/-- Bits [6:6] of MEM_STATUS. -/
def MEM.STATUS_PARITY : FieldRef := ⟨MEM.STATUS, 6, 1⟩

/-- Bits [5:5] of MEM_STATUS. -/
def MEM.STATUS_DRAM_UE : FieldRef := ⟨MEM.STATUS, 5, 1⟩

/-- Bits [4:4] of MEM_STATUS. -/
def MEM.STATUS_DRAM_CE : FieldRef := ⟨MEM.STATUS, 4, 1⟩

/-- Bits [3:3] of MEM_STATUS. -/
def MEM.STATUS_SRAM_UE : FieldRef := ⟨MEM.STATUS, 3, 1⟩

/-- Bits [2:2] of MEM_STATUS. -/
def MEM.STATUS_SRAM_CE : FieldRef := ⟨MEM.STATUS, 2, 1⟩

/-- Bits [1:1] of MEM_STATUS. -/
def MEM.STATUS_INJ_DONE : FieldRef := ⟨MEM.STATUS, 1, 1⟩

/-- Bits [0:0] of MEM_STATUS. -/
def MEM.STATUS_TRAIN_FAIL : FieldRef := ⟨MEM.STATUS, 0, 1⟩

/-- MEM_STATE (R666). -/
def MEM.STATE : Nat := 0x3000A0000C

/-- Bits [6:4] of MEM_STATE. -/
def MEM.STATE_REFRATE : FieldRef := ⟨MEM.STATE, 4, 3⟩

/-- Bits [1:1] of MEM_STATE. -/
def MEM.STATE_DRAM_RDY : FieldRef := ⟨MEM.STATE, 1, 1⟩

/-- Bits [0:0] of MEM_STATE. -/
def MEM.STATE_SRAM_RDY : FieldRef := ⟨MEM.STATE, 0, 1⟩

/-- MEM_ARB_CFG (R666). -/
def MEM.ARB_CFG : Nat := 0x3000A00010

/-- Bits [10:0] of MEM_ARB_CFG. -/
def MEM.ARB_CFG_HOLDLIM : FieldRef := ⟨MEM.ARB_CFG, 0, 11⟩

/-- MEM_SCRUB (R666). -/
def MEM.SCRUB : Nat := 0x3000A00014

/-- Bits [31:16] of MEM_SCRUB. -/
def MEM.SCRUB_DPER : FieldRef := ⟨MEM.SCRUB, 16, 16⟩

/-- Bits [15:0] of MEM_SCRUB. -/
def MEM.SCRUB_SPER : FieldRef := ⟨MEM.SCRUB, 0, 16⟩

/-- MEM_CMD (R666). -/
def MEM.CMD : Nat := 0x3000A00018

/-- Bits [2:2] of MEM_CMD. -/
def MEM.CMD_INJ : FieldRef := ⟨MEM.CMD, 2, 1⟩

/-- Bits [1:1] of MEM_CMD. -/
def MEM.CMD_CNT_CLR : FieldRef := ⟨MEM.CMD, 1, 1⟩

/-- Bits [0:0] of MEM_CMD. -/
def MEM.CMD_LOG_CLR : FieldRef := ⟨MEM.CMD, 0, 1⟩

/-- MEM_ERR_ADDR (R666). -/
def MEM.ERR_ADDR : Nat := 0x3000A00020

/-- Bits [39:0] of MEM_ERR_ADDR. -/
def MEM.ERR_ADDR_ADDR : FieldRef := ⟨MEM.ERR_ADDR, 0, 40⟩

/-- MEM_ERR_INFO (R666). -/
def MEM.ERR_INFO : Nat := 0x3000A00028

/-- Bits [31:31] of MEM_ERR_INFO. -/
def MEM.ERR_INFO_VALID : FieldRef := ⟨MEM.ERR_INFO, 31, 1⟩

/-- Bits [30:30] of MEM_ERR_INFO. -/
def MEM.ERR_INFO_TV : FieldRef := ⟨MEM.ERR_INFO, 30, 1⟩

/-- Bits [29:20] of MEM_ERR_INFO. -/
def MEM.ERR_INFO_BURGEE : FieldRef := ⟨MEM.ERR_INFO, 20, 10⟩

/-- Bits [18:12] of MEM_ERR_INFO. -/
def MEM.ERR_INFO_PORT : FieldRef := ⟨MEM.ERR_INFO, 12, 7⟩

/-- Bits [2:0] of MEM_ERR_INFO. -/
def MEM.ERR_INFO_KIND : FieldRef := ⟨MEM.ERR_INFO, 0, 3⟩

/-- MEM_HOG_INFO (R666). -/
def MEM.HOG_INFO : Nat := 0x3000A00030

/-- Bits [31:31] of MEM_HOG_INFO. -/
def MEM.HOG_INFO_VALID : FieldRef := ⟨MEM.HOG_INFO, 31, 1⟩

/-- Bits [30:30] of MEM_HOG_INFO. -/
def MEM.HOG_INFO_TV : FieldRef := ⟨MEM.HOG_INFO, 30, 1⟩

/-- Bits [29:20] of MEM_HOG_INFO. -/
def MEM.HOG_INFO_BURGEE : FieldRef := ⟨MEM.HOG_INFO, 20, 10⟩

/-- Bits [18:12] of MEM_HOG_INFO. -/
def MEM.HOG_INFO_PORT : FieldRef := ⟨MEM.HOG_INFO, 12, 7⟩

/-- Bits [6:0] of MEM_HOG_INFO. -/
def MEM.HOG_INFO_BANK : FieldRef := ⟨MEM.HOG_INFO, 0, 7⟩

/-- MEM_INJ (R666). -/
def MEM.INJ : Nat := 0x3000A00038

/-- Bits [39:3] of MEM_INJ. -/
def MEM.INJ_ADDR : FieldRef := ⟨MEM.INJ, 3, 37⟩

/-- Bits [1:0] of MEM_INJ. -/
def MEM.INJ_KIND : FieldRef := ⟨MEM.INJ, 0, 2⟩

/-- MEM_ENABLE (R666). -/
def MEM.ENABLE : Nat := 0x3000A00008

/-- Bits [7:7] of MEM_ENABLE. -/
def MEM.ENABLE_HOG : FieldRef := ⟨MEM.ENABLE, 7, 1⟩

/-- Bits [6:6] of MEM_ENABLE. -/
def MEM.ENABLE_PARITY : FieldRef := ⟨MEM.ENABLE, 6, 1⟩

/-- Bits [5:5] of MEM_ENABLE. -/
def MEM.ENABLE_DRAM_UE : FieldRef := ⟨MEM.ENABLE, 5, 1⟩

/-- Bits [4:4] of MEM_ENABLE. -/
def MEM.ENABLE_DRAM_CE : FieldRef := ⟨MEM.ENABLE, 4, 1⟩

/-- Bits [3:3] of MEM_ENABLE. -/
def MEM.ENABLE_SRAM_UE : FieldRef := ⟨MEM.ENABLE, 3, 1⟩

/-- Bits [2:2] of MEM_ENABLE. -/
def MEM.ENABLE_SRAM_CE : FieldRef := ⟨MEM.ENABLE, 2, 1⟩

/-- Bits [1:1] of MEM_ENABLE. -/
def MEM.ENABLE_INJ_DONE : FieldRef := ⟨MEM.ENABLE, 1, 1⟩

/-- Bits [0:0] of MEM_ENABLE. -/
def MEM.ENABLE_TRAIN_FAIL : FieldRef := ⟨MEM.ENABLE, 0, 1⟩

/-- MEM_SCE (R666). -/
def MEM.SCE : Nat := 0x3000A00040

/-- Bits [31:0] of MEM_SCE. -/
def MEM.SCE_COUNT : FieldRef := ⟨MEM.SCE, 0, 32⟩

/-- MEM_SUE (R666). -/
def MEM.SUE : Nat := 0x3000A00044

/-- Bits [31:0] of MEM_SUE. -/
def MEM.SUE_COUNT : FieldRef := ⟨MEM.SUE, 0, 32⟩

/-- MEM_DCE (R666). -/
def MEM.DCE : Nat := 0x3000A00048

/-- Bits [31:0] of MEM_DCE. -/
def MEM.DCE_COUNT : FieldRef := ⟨MEM.DCE, 0, 32⟩

/-- MEM_DUE (R666). -/
def MEM.DUE : Nat := 0x3000A0004C

/-- Bits [31:0] of MEM_DUE. -/
def MEM.DUE_COUNT : FieldRef := ⟨MEM.DUE, 0, 32⟩

/-- MEM_PAR (R666). -/
def MEM.PAR : Nat := 0x3000A00050

/-- Bits [31:0] of MEM_PAR. -/
def MEM.PAR_COUNT : FieldRef := ⟨MEM.PAR, 0, 32⟩

/-- MEM_HOG (R666). -/
def MEM.HOG : Nat := 0x3000A00054

/-- Bits [31:0] of MEM_HOG. -/
def MEM.HOG_COUNT : FieldRef := ⟨MEM.HOG, 0, 32⟩

/-- MEM_PREEMPT (R666). -/
def MEM.PREEMPT : Nat := 0x3000A00058

/-- Bits [31:0] of MEM_PREEMPT. -/
def MEM.PREEMPT_COUNT : FieldRef := ⟨MEM.PREEMPT, 0, 32⟩

/-- MEM_REQ_CFG (R666). -/
def MEM.REQ_CFG (p : Nat) : Nat := 0x3000A01100 + p * 0x4

/-- Bits [30:20] of MEM_REQ_CFG. -/
def MEM.REQ_CFG_BMAX (p : Nat) : FieldRef := ⟨MEM.REQ_CFG p, 20, 11⟩

/-- Bits [19:16] of MEM_REQ_CFG. -/
def MEM.REQ_CFG_BASE (p : Nat) : FieldRef := ⟨MEM.REQ_CFG p, 16, 4⟩

/-- Bits [2:0] of MEM_REQ_CFG. -/
def MEM.REQ_CFG_AGESH (p : Nat) : FieldRef := ⟨MEM.REQ_CFG p, 0, 3⟩

/-- MEM_WAITMAX (R666). -/
def MEM.WAITMAX (p : Nat) : Nat := 0x3000A02000 + p * 0x4

/-- Bits [15:0] of MEM_WAITMAX. -/
def MEM.WAITMAX_NS (p : Nat) : FieldRef := ⟨MEM.WAITMAX p, 0, 16⟩

/-- Rows of the register map of MEM. -/
def regsMem0 : List RegDesc := [
  ⟨"MEM_CTL", 0x3000A00000, [], 32, [⟨"DSCRUB_EN", 1, 1, .rw, 1, .s, []⟩,
    ⟨"SSCRUB_EN", 0, 0, .rw, 1, .s, []⟩]⟩,
  ⟨"MEM_STATUS", 0x3000A00004, [], 32, [⟨"HOG", 7, 7, .w1c, 0, .s, []⟩,
    ⟨"PARITY", 6, 6, .w1c, 0, .s, []⟩,
    ⟨"DRAM_UE", 5, 5, .w1c, 0, .s, []⟩,
    ⟨"DRAM_CE", 4, 4, .w1c, 0, .s, []⟩,
    ⟨"SRAM_UE", 3, 3, .w1c, 0, .s, []⟩,
    ⟨"SRAM_CE", 2, 2, .w1c, 0, .s, []⟩,
    ⟨"INJ_DONE", 1, 1, .w1c, 0, .s, []⟩,
    ⟨"TRAIN_FAIL", 0, 0, .w1c, 0, .s, []⟩]⟩,
  ⟨"MEM_STATE", 0x3000A0000C, [], 32, [⟨"REFRATE", 6, 4, .ro, 1, .s, []⟩,
    ⟨"DRAM_RDY", 1, 1, .ro, 0, .s, []⟩,
    ⟨"SRAM_RDY", 0, 0, .ro, 0, .s, []⟩]⟩,
  ⟨"MEM_ARB_CFG", 0x3000A00010, [], 32, [⟨"HOLDLIM", 10, 0, .rw, 64, .s, [(8, 1024)]⟩]⟩,
  ⟨"MEM_SCRUB", 0x3000A00014, [], 32, [⟨"DPER", 31, 16, .rw, 24, .s, [(1, 65535)]⟩,
    ⟨"SPER", 15, 0, .rw, 60, .s, [(1, 65535)]⟩]⟩,
  ⟨"MEM_CMD", 0x3000A00018, [], 32, [⟨"INJ", 2, 2, .wo, 0, .s, []⟩,
    ⟨"CNT_CLR", 1, 1, .wo, 0, .s, []⟩,
    ⟨"LOG_CLR", 0, 0, .wo, 0, .s, []⟩]⟩,
  ⟨"MEM_ERR_ADDR", 0x3000A00020, [], 64, [⟨"ADDR", 39, 0, .ro, 0, .s, []⟩]⟩,
  ⟨"MEM_ERR_INFO", 0x3000A00028, [], 32, [⟨"VALID", 31, 31, .ro, 0, .s, []⟩,
    ⟨"TV", 30, 30, .ro, 0, .s, []⟩,
    ⟨"BURGEE", 29, 20, .ro, 0, .s, []⟩,
    ⟨"PORT", 18, 12, .ro, 0, .s, []⟩,
    ⟨"KIND", 2, 0, .ro, 0, .s, []⟩]⟩,
  ⟨"MEM_HOG_INFO", 0x3000A00030, [], 32, [⟨"VALID", 31, 31, .ro, 0, .s, []⟩,
    ⟨"TV", 30, 30, .ro, 0, .s, []⟩,
    ⟨"BURGEE", 29, 20, .ro, 0, .s, []⟩,
    ⟨"PORT", 18, 12, .ro, 0, .s, []⟩,
    ⟨"BANK", 6, 0, .ro, 0, .s, []⟩]⟩,
  ⟨"MEM_INJ", 0x3000A00038, [], 64, [⟨"ADDR", 39, 3, .rw, 0, .s, []⟩,
    ⟨"KIND", 1, 0, .rw, 0, .s, [(1, 2)]⟩]⟩,
  ⟨"MEM_ENABLE", 0x3000A00008, [], 32, [⟨"HOG", 7, 7, .rw, 0, .s, []⟩,
    ⟨"PARITY", 6, 6, .rw, 0, .s, []⟩,
    ⟨"DRAM_UE", 5, 5, .rw, 0, .s, []⟩,
    ⟨"DRAM_CE", 4, 4, .rw, 0, .s, []⟩,
    ⟨"SRAM_UE", 3, 3, .rw, 0, .s, []⟩,
    ⟨"SRAM_CE", 2, 2, .rw, 0, .s, []⟩,
    ⟨"INJ_DONE", 1, 1, .rw, 0, .s, []⟩,
    ⟨"TRAIN_FAIL", 0, 0, .rw, 0, .s, []⟩]⟩,
  ⟨"MEM_SCE", 0x3000A00040, [], 32, [⟨"COUNT", 31, 0, .ro, 0, .s, []⟩]⟩]

/-- Rows of the register map of MEM. -/
def regsMem1 : List RegDesc := [
  ⟨"MEM_SUE", 0x3000A00044, [], 32, [⟨"COUNT", 31, 0, .ro, 0, .s, []⟩]⟩,
  ⟨"MEM_DCE", 0x3000A00048, [], 32, [⟨"COUNT", 31, 0, .ro, 0, .s, []⟩]⟩,
  ⟨"MEM_DUE", 0x3000A0004C, [], 32, [⟨"COUNT", 31, 0, .ro, 0, .s, []⟩]⟩,
  ⟨"MEM_PAR", 0x3000A00050, [], 32, [⟨"COUNT", 31, 0, .ro, 0, .s, []⟩]⟩,
  ⟨"MEM_HOG", 0x3000A00054, [], 32, [⟨"COUNT", 31, 0, .ro, 0, .s, []⟩]⟩,
  ⟨"MEM_PREEMPT", 0x3000A00058, [], 32, [⟨"COUNT", 31, 0, .ro, 0, .s, []⟩]⟩,
  ⟨"MEM_REQ_CFG", 0x3000A01100, [(4, 33)], 32, [⟨"BMAX", 30, 20, .rw, 0, .s, [(1, 1024)]⟩,
    ⟨"BASE", 19, 16, .rw, 0, .s, [(0, 14)]⟩,
    ⟨"AGESH", 2, 0, .rw, 0, .s, []⟩]⟩,
  ⟨"MEM_WAITMAX", 0x3000A02000, [(4, 72)], 32, [⟨"NS", 15, 0, .rw, 0, .s, [(0, 0)]⟩]⟩]

/-- The register map of MEM. -/
def regsMem : List RegDesc :=
  regsMem0 ++ regsMem1

end Sys2Proof.Machine
end

