-- ==== Sys2Proof/Machine/RegsPcx.lean ====
section
/-!
DEFINITION. Machine/RegsPcx.lean: the register map of block PCX (R52), from the field tables of its chapter: the address of
every register, the place of every field, and the table that REGISTER_WRITE and the resets read.
-/

namespace Sys2Proof.Machine


/-- PCX_CFG (R184). -/
def PCX.CFG (p : Nat) : Nat := 0x3000200000 + p * 0x10000

/-- Bits [27:14] of PCX_CFG. -/
def PCX.CFG_MAXLEN (p : Nat) : FieldRef := ⟨PCX.CFG p, 14, 14⟩

/-- Bits [7:7] of PCX_CFG. -/
def PCX.CFG_RXPAUSE_EN (p : Nat) : FieldRef := ⟨PCX.CFG p, 7, 1⟩

/-- Bits [6:6] of PCX_CFG. -/
def PCX.CFG_PAUSE_EN (p : Nat) : FieldRef := ⟨PCX.CFG p, 6, 1⟩

/-- Bits [5:5] of PCX_CFG. -/
def PCX.CFG_PBUS (p : Nat) : FieldRef := ⟨PCX.CFG p, 5, 1⟩

/-- Bits [4:4] of PCX_CFG. -/
def PCX.CFG_FEC (p : Nat) : FieldRef := ⟨PCX.CFG p, 4, 1⟩

/-- Bits [3:3] of PCX_CFG. -/
def PCX.CFG_AN_EN (p : Nat) : FieldRef := ⟨PCX.CFG p, 3, 1⟩

/-- Bits [2:1] of PCX_CFG. -/
def PCX.CFG_MODE (p : Nat) : FieldRef := ⟨PCX.CFG p, 1, 2⟩

/-- Bits [0:0] of PCX_CFG. -/
def PCX.CFG_EN (p : Nat) : FieldRef := ⟨PCX.CFG p, 0, 1⟩

/-- PCX_STATUS (R185). -/
def PCX.STATUS (p : Nat) : Nat := 0x3000200004 + p * 0x10000

/-- Bits [11:11] of PCX_STATUS. -/
def PCX.STATUS_CNT_HALF (p : Nat) : FieldRef := ⟨PCX.STATUS p, 11, 1⟩

/-- Bits [10:10] of PCX_STATUS. -/
def PCX.STATUS_GATE_LATE (p : Nat) : FieldRef := ⟨PCX.STATUS p, 10, 1⟩

/-- Bits [9:9] of PCX_STATUS. -/
def PCX.STATUS_GCL_REFUSED (p : Nat) : FieldRef := ⟨PCX.STATUS p, 9, 1⟩

/-- Bits [8:8] of PCX_STATUS. -/
def PCX.STATUS_GCL_FLIPPED (p : Nat) : FieldRef := ⟨PCX.STATUS p, 8, 1⟩

/-- Bits [7:7] of PCX_STATUS. -/
def PCX.STATUS_PAUSE_REFUSED (p : Nat) : FieldRef := ⟨PCX.STATUS p, 7, 1⟩

/-- Bits [6:6] of PCX_STATUS. -/
def PCX.STATUS_TSQ_AVAIL (p : Nat) : FieldRef := ⟨PCX.STATUS p, 6, 1⟩

/-- Bits [5:5] of PCX_STATUS. -/
def PCX.STATUS_TSQ_OVF (p : Nat) : FieldRef := ⟨PCX.STATUS p, 5, 1⟩

/-- Bits [4:4] of PCX_STATUS. -/
def PCX.STATUS_FIFO_DROP (p : Nat) : FieldRef := ⟨PCX.STATUS p, 4, 1⟩

/-- Bits [3:3] of PCX_STATUS. -/
def PCX.STATUS_SPEED_REFUSED (p : Nat) : FieldRef := ⟨PCX.STATUS p, 3, 1⟩

/-- Bits [2:2] of PCX_STATUS. -/
def PCX.STATUS_RFAULT (p : Nat) : FieldRef := ⟨PCX.STATUS p, 2, 1⟩

/-- Bits [1:1] of PCX_STATUS. -/
def PCX.STATUS_LINK_DOWN (p : Nat) : FieldRef := ⟨PCX.STATUS p, 1, 1⟩

/-- Bits [0:0] of PCX_STATUS. -/
def PCX.STATUS_LINK_UP (p : Nat) : FieldRef := ⟨PCX.STATUS p, 0, 1⟩

/-- PCX_ENABLE (R185). -/
def PCX.ENABLE (p : Nat) : Nat := 0x3000200008 + p * 0x10000

/-- Bits [11:11] of PCX_ENABLE. -/
def PCX.ENABLE_CNT_HALF (p : Nat) : FieldRef := ⟨PCX.ENABLE p, 11, 1⟩

/-- Bits [10:10] of PCX_ENABLE. -/
def PCX.ENABLE_GATE_LATE (p : Nat) : FieldRef := ⟨PCX.ENABLE p, 10, 1⟩

/-- Bits [9:9] of PCX_ENABLE. -/
def PCX.ENABLE_GCL_REFUSED (p : Nat) : FieldRef := ⟨PCX.ENABLE p, 9, 1⟩

/-- Bits [8:8] of PCX_ENABLE. -/
def PCX.ENABLE_GCL_FLIPPED (p : Nat) : FieldRef := ⟨PCX.ENABLE p, 8, 1⟩

/-- Bits [7:7] of PCX_ENABLE. -/
def PCX.ENABLE_PAUSE_REFUSED (p : Nat) : FieldRef := ⟨PCX.ENABLE p, 7, 1⟩

/-- Bits [6:6] of PCX_ENABLE. -/
def PCX.ENABLE_TSQ_AVAIL (p : Nat) : FieldRef := ⟨PCX.ENABLE p, 6, 1⟩

/-- Bits [5:5] of PCX_ENABLE. -/
def PCX.ENABLE_TSQ_OVF (p : Nat) : FieldRef := ⟨PCX.ENABLE p, 5, 1⟩

/-- Bits [4:4] of PCX_ENABLE. -/
def PCX.ENABLE_FIFO_DROP (p : Nat) : FieldRef := ⟨PCX.ENABLE p, 4, 1⟩

/-- Bits [3:3] of PCX_ENABLE. -/
def PCX.ENABLE_SPEED_REFUSED (p : Nat) : FieldRef := ⟨PCX.ENABLE p, 3, 1⟩

/-- Bits [2:2] of PCX_ENABLE. -/
def PCX.ENABLE_RFAULT (p : Nat) : FieldRef := ⟨PCX.ENABLE p, 2, 1⟩

/-- Bits [1:1] of PCX_ENABLE. -/
def PCX.ENABLE_LINK_DOWN (p : Nat) : FieldRef := ⟨PCX.ENABLE p, 1, 1⟩

/-- Bits [0:0] of PCX_ENABLE. -/
def PCX.ENABLE_LINK_UP (p : Nat) : FieldRef := ⟨PCX.ENABLE p, 0, 1⟩

/-- PCX_LINK (R186). -/
def PCX.LINK (p : Nat) : Nat := 0x300020000C + p * 0x10000

/-- Bits [6:6] of PCX_LINK. -/
def PCX.LINK_FEC_LOCK (p : Nat) : FieldRef := ⟨PCX.LINK p, 6, 1⟩

/-- Bits [5:5] of PCX_LINK. -/
def PCX.LINK_RF_RX (p : Nat) : FieldRef := ⟨PCX.LINK p, 5, 1⟩

/-- Bits [4:4] of PCX_LINK. -/
def PCX.LINK_SYNC (p : Nat) : FieldRef := ⟨PCX.LINK p, 4, 1⟩

/-- Bits [3:3] of PCX_LINK. -/
def PCX.LINK_SIGNAL (p : Nat) : FieldRef := ⟨PCX.LINK p, 3, 1⟩

/-- Bits [2:0] of PCX_LINK. -/
def PCX.LINK_STATE (p : Nat) : FieldRef := ⟨PCX.LINK p, 0, 3⟩

/-- PCX_CMD (R186). -/
def PCX.CMD (p : Nat) : Nat := 0x3000200010 + p * 0x10000

/-- Bits [3:3] of PCX_CMD. -/
def PCX.CMD_AN_RESTART (p : Nat) : FieldRef := ⟨PCX.CMD p, 3, 1⟩

/-- Bits [2:2] of PCX_CMD. -/
def PCX.CMD_TSQ_FLUSH (p : Nat) : FieldRef := ⟨PCX.CMD p, 2, 1⟩

/-- Bits [1:1] of PCX_CMD. -/
def PCX.CMD_CNT_CLR (p : Nat) : FieldRef := ⟨PCX.CMD p, 1, 1⟩

/-- Bits [0:0] of PCX_CMD. -/
def PCX.CMD_PTR (p : Nat) : FieldRef := ⟨PCX.CMD p, 0, 1⟩

/-- PCX_FIFOLVL (R186). -/
def PCX.FIFOLVL (p : Nat) : Nat := 0x3000200014 + p * 0x10000

/-- Bits [16:0] of PCX_FIFOLVL. -/
def PCX.FIFOLVL_LEVEL (p : Nat) : FieldRef := ⟨PCX.FIFOLVL p, 0, 17⟩

/-- PCX_PAUSE (R187). -/
def PCX.PAUSE (p : Nat) : Nat := 0x3000200018 + p * 0x10000

/-- Bits [31:16] of PCX_PAUSE. -/
def PCX.PAUSE_QUANTA (p : Nat) : FieldRef := ⟨PCX.PAUSE p, 16, 16⟩

/-- Bits [15:8] of PCX_PAUSE. -/
def PCX.PAUSE_HIWM (p : Nat) : FieldRef := ⟨PCX.PAUSE p, 8, 8⟩

/-- Bits [7:0] of PCX_PAUSE. -/
def PCX.PAUSE_LOWM (p : Nat) : FieldRef := ⟨PCX.PAUSE p, 0, 8⟩

/-- PCX_RXCTL (R187). -/
def PCX.RXCTL (p : Nat) : Nat := 0x3000200020 + p * 0x10000

/-- Bits [27:16] of PCX_RXCTL. -/
def PCX.RXCTL_PVID (p : Nat) : FieldRef := ⟨PCX.RXCTL p, 16, 12⟩

/-- Bits [5:3] of PCX_RXCTL. -/
def PCX.RXCTL_DEFPCP (p : Nat) : FieldRef := ⟨PCX.RXCTL p, 3, 3⟩

/-- Bits [2:1] of PCX_RXCTL. -/
def PCX.RXCTL_ACCEPT (p : Nat) : FieldRef := ⟨PCX.RXCTL p, 1, 2⟩

/-- Bits [0:0] of PCX_RXCTL. -/
def PCX.RXCTL_CSUM_EN (p : Nat) : FieldRef := ⟨PCX.RXCTL p, 0, 1⟩

/-- PCX_TXCTL (R187). -/
def PCX.TXCTL (p : Nat) : Nat := 0x3000200024 + p * 0x10000

/-- Bits [2:1] of PCX_TXCTL. -/
def PCX.TXCTL_EGMODE (p : Nat) : FieldRef := ⟨PCX.TXCTL p, 1, 2⟩

/-- Bits [0:0] of PCX_TXCTL. -/
def PCX.TXCTL_CSUM_EN (p : Nat) : FieldRef := ⟨PCX.TXCTL p, 0, 1⟩

/-- PCX_PCPMAP (R187). -/
def PCX.PCPMAP (p : Nat) : Nat := 0x3000200028 + p * 0x10000

/-- Bits [2:0] of PCX_PCPMAP. -/
def PCX.PCPMAP_TC0 (p : Nat) : FieldRef := ⟨PCX.PCPMAP p, 0, 3⟩

/-- Bits [5:3] of PCX_PCPMAP. -/
def PCX.PCPMAP_TC1 (p : Nat) : FieldRef := ⟨PCX.PCPMAP p, 3, 3⟩

/-- Bits [8:6] of PCX_PCPMAP. -/
def PCX.PCPMAP_TC2 (p : Nat) : FieldRef := ⟨PCX.PCPMAP p, 6, 3⟩

/-- Bits [11:9] of PCX_PCPMAP. -/
def PCX.PCPMAP_TC3 (p : Nat) : FieldRef := ⟨PCX.PCPMAP p, 9, 3⟩

/-- Bits [14:12] of PCX_PCPMAP. -/
def PCX.PCPMAP_TC4 (p : Nat) : FieldRef := ⟨PCX.PCPMAP p, 12, 3⟩

/-- Bits [17:15] of PCX_PCPMAP. -/
def PCX.PCPMAP_TC5 (p : Nat) : FieldRef := ⟨PCX.PCPMAP p, 15, 3⟩

/-- Bits [20:18] of PCX_PCPMAP. -/
def PCX.PCPMAP_TC6 (p : Nat) : FieldRef := ⟨PCX.PCPMAP p, 18, 3⟩

/-- Bits [23:21] of PCX_PCPMAP. -/
def PCX.PCPMAP_TC7 (p : Nat) : FieldRef := ⟨PCX.PCPMAP p, 21, 3⟩

/-- PCX_VXLAT (R187). -/
def PCX.VXLAT (p : Nat) (e : Nat) : Nat := 0x3000200040 + p * 0x10000 + e * 0x4

/-- Bits [31:31] of PCX_VXLAT. -/
def PCX.VXLAT_EN (p : Nat) (e : Nat) : FieldRef := ⟨PCX.VXLAT p e, 31, 1⟩

/-- Bits [30:30] of PCX_VXLAT. -/
def PCX.VXLAT_DIR (p : Nat) (e : Nat) : FieldRef := ⟨PCX.VXLAT p e, 30, 1⟩

/-- Bits [27:16] of PCX_VXLAT. -/
def PCX.VXLAT_FROM (p : Nat) (e : Nat) : FieldRef := ⟨PCX.VXLAT p e, 16, 12⟩

/-- Bits [11:0] of PCX_VXLAT. -/
def PCX.VXLAT_TO (p : Nat) (e : Nat) : FieldRef := ⟨PCX.VXLAT p e, 0, 12⟩

/-- PCX_LATCAL (R188). -/
def PCX.LATCAL (p : Nat) : Nat := 0x3000200080 + p * 0x10000

/-- Bits [31:16] of PCX_LATCAL. -/
def PCX.LATCAL_TXCAL (p : Nat) : FieldRef := ⟨PCX.LATCAL p, 16, 16⟩

/-- Bits [15:0] of PCX_LATCAL. -/
def PCX.LATCAL_RXCAL (p : Nat) : FieldRef := ⟨PCX.LATCAL p, 0, 16⟩

/-- PCX_RXADJ (R188). -/
def PCX.RXADJ (p : Nat) : Nat := 0x3000200084 + p * 0x10000

/-- Bits [15:0] of PCX_RXADJ. -/
def PCX.RXADJ_RXADJ (p : Nat) : FieldRef := ⟨PCX.RXADJ p, 0, 16⟩

/-- PCX_TXADJ (R188). -/
def PCX.TXADJ (p : Nat) : Nat := 0x3000200088 + p * 0x10000

/-- Bits [15:0] of PCX_TXADJ. -/
def PCX.TXADJ_TXADJ (p : Nat) : FieldRef := ⟨PCX.TXADJ p, 0, 16⟩

/-- PCX_TSQ_W0 (R188). -/
def PCX.TSQ_W0 (p : Nat) : Nat := 0x3000200100 + p * 0x10000

/-- Bits [31:31] of PCX_TSQ_W0. -/
def PCX.TSQ_W0_VALID (p : Nat) : FieldRef := ⟨PCX.TSQ_W0 p, 31, 1⟩

/-- Bits [30:30] of PCX_TSQ_W0. -/
def PCX.TSQ_W0_STOMP (p : Nat) : FieldRef := ⟨PCX.TSQ_W0 p, 30, 1⟩

/-- Bits [23:16] of PCX_TSQ_W0. -/
def PCX.TSQ_W0_REQTAG (p : Nat) : FieldRef := ⟨PCX.TSQ_W0 p, 16, 8⟩

/-- Bits [15:0] of PCX_TSQ_W0. -/
def PCX.TSQ_W0_SEC_HI (p : Nat) : FieldRef := ⟨PCX.TSQ_W0 p, 0, 16⟩

/-- PCX_TSQ_W1 (R188). -/
def PCX.TSQ_W1 (p : Nat) : Nat := 0x3000200104 + p * 0x10000

/-- Bits [31:0] of PCX_TSQ_W1. -/
def PCX.TSQ_W1_SEC_LO (p : Nat) : FieldRef := ⟨PCX.TSQ_W1 p, 0, 32⟩

/-- PCX_TSQ_W2 (R188). -/
def PCX.TSQ_W2 (p : Nat) : Nat := 0x3000200108 + p * 0x10000

/-- Bits [29:0] of PCX_TSQ_W2. -/
def PCX.TSQ_W2_NS (p : Nat) : FieldRef := ⟨PCX.TSQ_W2 p, 0, 30⟩

/-- PCX_TSQ_CNT (R188). -/
def PCX.TSQ_CNT (p : Nat) : Nat := 0x300020010C + p * 0x10000

/-- Bits [31:16] of PCX_TSQ_CNT. -/
def PCX.TSQ_CNT_LOST (p : Nat) : FieldRef := ⟨PCX.TSQ_CNT p, 16, 16⟩

/-- Bits [15:8] of PCX_TSQ_CNT. -/
def PCX.TSQ_CNT_NEXTTAG (p : Nat) : FieldRef := ⟨PCX.TSQ_CNT p, 8, 8⟩

/-- Bits [6:0] of PCX_TSQ_CNT. -/
def PCX.TSQ_CNT_LEVEL (p : Nat) : FieldRef := ⟨PCX.TSQ_CNT p, 0, 7⟩

/-- PCX_CNTHALF0 (R188). -/
def PCX.CNTHALF0 (p : Nat) : Nat := 0x30002003F0 + p * 0x10000

/-- Bits [24:0] of PCX_CNTHALF0. -/
def PCX.CNTHALF0_RXHALF (p : Nat) : FieldRef := ⟨PCX.CNTHALF0 p, 0, 25⟩

/-- PCX_CNTHALF1 (R188). -/
def PCX.CNTHALF1 (p : Nat) : Nat := 0x30002003F4 + p * 0x10000

/-- Bits [15:0] of PCX_CNTHALF1. -/
def PCX.CNTHALF1_TXHALF (p : Nat) : FieldRef := ⟨PCX.CNTHALF1 p, 0, 16⟩

/-- PCX_GCL_CTL (R189). -/
def PCX.GCL_CTL (p : Nat) : Nat := 0x3000200200 + p * 0x10000

/-- Bits [5:5] of PCX_GCL_CTL. -/
def PCX.GCL_CTL_PENDING (p : Nat) : FieldRef := ⟨PCX.GCL_CTL p, 5, 1⟩

/-- Bits [4:4] of PCX_GCL_CTL. -/
def PCX.GCL_CTL_ACT (p : Nat) : FieldRef := ⟨PCX.GCL_CTL p, 4, 1⟩

/-- Bits [1:1] of PCX_GCL_CTL. -/
def PCX.GCL_CTL_FLIP (p : Nat) : FieldRef := ⟨PCX.GCL_CTL p, 1, 1⟩

/-- Bits [0:0] of PCX_GCL_CTL. -/
def PCX.GCL_CTL_EN (p : Nat) : FieldRef := ⟨PCX.GCL_CTL p, 0, 1⟩

/-- PCX_GCL_DRAIN (R189). -/
def PCX.GCL_DRAIN (p : Nat) : Nat := 0x3000200204 + p * 0x10000

/-- Bits [1:1] of PCX_GCL_DRAIN. -/
def PCX.GCL_DRAIN_DRAIN1 (p : Nat) : FieldRef := ⟨PCX.GCL_DRAIN p, 1, 1⟩

/-- Bits [0:0] of PCX_GCL_DRAIN. -/
def PCX.GCL_DRAIN_DRAIN0 (p : Nat) : FieldRef := ⟨PCX.GCL_DRAIN p, 0, 1⟩

/-- PCX_GCL_BASE (R189). -/
def PCX.GCL_BASE (p : Nat) (e : Nat) : Nat := 0x3000200210 + p * 0x10000 + e * 0x20

/-- Bits [63:0] of PCX_GCL_BASE. -/
def PCX.GCL_BASE_BASE (p : Nat) (e : Nat) : FieldRef := ⟨PCX.GCL_BASE p e, 0, 64⟩

/-- PCX_GCL_CYCLE (R189). -/
def PCX.GCL_CYCLE (p : Nat) (e : Nat) : Nat := 0x3000200218 + p * 0x10000 + e * 0x20

/-- Bits [31:0] of PCX_GCL_CYCLE. -/
def PCX.GCL_CYCLE_CYCLE (p : Nat) (e : Nat) : FieldRef := ⟨PCX.GCL_CYCLE p e, 0, 32⟩

/-- PCX_GCL_CFG (R189). -/
def PCX.GCL_CFG (p : Nat) (e : Nat) : Nat := 0x300020021C + p * 0x10000 + e * 0x20

/-- Bits [31:31] of PCX_GCL_CFG. -/
def PCX.GCL_CFG_ANCHOR (p : Nat) (e : Nat) : FieldRef := ⟨PCX.GCL_CFG p e, 31, 1⟩

/-- Bits [8:0] of PCX_GCL_CFG. -/
def PCX.GCL_CFG_LEN (p : Nat) (e : Nat) : FieldRef := ⟨PCX.GCL_CFG p e, 0, 9⟩

/-- PCX_GCL_ENT (R189). -/
def PCX.GCL_ENT (p : Nat) (e : Nat) (i : Nat) : Nat := 0x3000201000 + p * 0x10000 + e * 0x800 + i * 0x8

/-- Bits [39:8] of PCX_GCL_ENT. -/
def PCX.GCL_ENT_TIME (p : Nat) (e : Nat) (i : Nat) : FieldRef := ⟨PCX.GCL_ENT p e i, 8, 32⟩

/-- Bits [7:0] of PCX_GCL_ENT. -/
def PCX.GCL_ENT_GATES (p : Nat) (e : Nat) (i : Nat) : FieldRef := ⟨PCX.GCL_ENT p e i, 0, 8⟩

/-- PCX_RX_OCTETS (R180). -/
def PCX.RX_OCTETS (p : Nat) : Nat := 0x3000200400 + p * 0x10000

/-- Bits [31:0] of PCX_RX_OCTETS. -/
def PCX.RX_OCTETS_COUNT (p : Nat) : FieldRef := ⟨PCX.RX_OCTETS p, 0, 32⟩

/-- PCX_RX_FRAMES (R180). -/
def PCX.RX_FRAMES (p : Nat) : Nat := 0x3000200404 + p * 0x10000

/-- Bits [31:0] of PCX_RX_FRAMES. -/
def PCX.RX_FRAMES_COUNT (p : Nat) : FieldRef := ⟨PCX.RX_FRAMES p, 0, 32⟩

/-- PCX_RX_UCAST (R180). -/
def PCX.RX_UCAST (p : Nat) : Nat := 0x3000200408 + p * 0x10000

/-- Bits [31:0] of PCX_RX_UCAST. -/
def PCX.RX_UCAST_COUNT (p : Nat) : FieldRef := ⟨PCX.RX_UCAST p, 0, 32⟩

/-- PCX_RX_MCAST (R180). -/
def PCX.RX_MCAST (p : Nat) : Nat := 0x300020040C + p * 0x10000

/-- Bits [31:0] of PCX_RX_MCAST. -/
def PCX.RX_MCAST_COUNT (p : Nat) : FieldRef := ⟨PCX.RX_MCAST p, 0, 32⟩

/-- PCX_RX_BCAST (R180). -/
def PCX.RX_BCAST (p : Nat) : Nat := 0x3000200410 + p * 0x10000

/-- Bits [31:0] of PCX_RX_BCAST. -/
def PCX.RX_BCAST_COUNT (p : Nat) : FieldRef := ⟨PCX.RX_BCAST p, 0, 32⟩

/-- PCX_RX_PAUSE (R180). -/
def PCX.RX_PAUSE (p : Nat) : Nat := 0x3000200414 + p * 0x10000

/-- Bits [31:0] of PCX_RX_PAUSE. -/
def PCX.RX_PAUSE_COUNT (p : Nat) : FieldRef := ⟨PCX.RX_PAUSE p, 0, 32⟩

/-- PCX_RX_TAGGED (R180). -/
def PCX.RX_TAGGED (p : Nat) : Nat := 0x3000200418 + p * 0x10000

/-- Bits [31:0] of PCX_RX_TAGGED. -/
def PCX.RX_TAGGED_COUNT (p : Nat) : FieldRef := ⟨PCX.RX_TAGGED p, 0, 32⟩

/-- PCX_RX_64 (R180). -/
def PCX.RX_64 (p : Nat) : Nat := 0x300020041C + p * 0x10000

/-- Bits [31:0] of PCX_RX_64. -/
def PCX.RX_64_COUNT (p : Nat) : FieldRef := ⟨PCX.RX_64 p, 0, 32⟩

/-- PCX_RX_65_127 (R180). -/
def PCX.RX_65_127 (p : Nat) : Nat := 0x3000200420 + p * 0x10000

/-- Bits [31:0] of PCX_RX_65_127. -/
def PCX.RX_65_127_COUNT (p : Nat) : FieldRef := ⟨PCX.RX_65_127 p, 0, 32⟩

/-- PCX_RX_128_255 (R180). -/
def PCX.RX_128_255 (p : Nat) : Nat := 0x3000200424 + p * 0x10000

/-- Bits [31:0] of PCX_RX_128_255. -/
def PCX.RX_128_255_COUNT (p : Nat) : FieldRef := ⟨PCX.RX_128_255 p, 0, 32⟩

/-- PCX_RX_256_511 (R180). -/
def PCX.RX_256_511 (p : Nat) : Nat := 0x3000200428 + p * 0x10000

/-- Bits [31:0] of PCX_RX_256_511. -/
def PCX.RX_256_511_COUNT (p : Nat) : FieldRef := ⟨PCX.RX_256_511 p, 0, 32⟩

/-- PCX_RX_512_1023 (R180). -/
def PCX.RX_512_1023 (p : Nat) : Nat := 0x300020042C + p * 0x10000

/-- Bits [31:0] of PCX_RX_512_1023. -/
def PCX.RX_512_1023_COUNT (p : Nat) : FieldRef := ⟨PCX.RX_512_1023 p, 0, 32⟩

/-- PCX_RX_1024_1518 (R180). -/
def PCX.RX_1024_1518 (p : Nat) : Nat := 0x3000200430 + p * 0x10000

/-- Bits [31:0] of PCX_RX_1024_1518. -/
def PCX.RX_1024_1518_COUNT (p : Nat) : FieldRef := ⟨PCX.RX_1024_1518 p, 0, 32⟩

/-- PCX_RX_1519_MAX (R180). -/
def PCX.RX_1519_MAX (p : Nat) : Nat := 0x3000200434 + p * 0x10000

/-- Bits [31:0] of PCX_RX_1519_MAX. -/
def PCX.RX_1519_MAX_COUNT (p : Nat) : FieldRef := ⟨PCX.RX_1519_MAX p, 0, 32⟩

/-- PCX_RX_RUNT (R180). -/
def PCX.RX_RUNT (p : Nat) : Nat := 0x3000200438 + p * 0x10000

/-- Bits [31:0] of PCX_RX_RUNT. -/
def PCX.RX_RUNT_COUNT (p : Nat) : FieldRef := ⟨PCX.RX_RUNT p, 0, 32⟩

/-- PCX_RX_FRAG (R180). -/
def PCX.RX_FRAG (p : Nat) : Nat := 0x300020043C + p * 0x10000

/-- Bits [31:0] of PCX_RX_FRAG. -/
def PCX.RX_FRAG_COUNT (p : Nat) : FieldRef := ⟨PCX.RX_FRAG p, 0, 32⟩

/-- PCX_RX_OVERSIZE (R180). -/
def PCX.RX_OVERSIZE (p : Nat) : Nat := 0x3000200440 + p * 0x10000

/-- Bits [31:0] of PCX_RX_OVERSIZE. -/
def PCX.RX_OVERSIZE_COUNT (p : Nat) : FieldRef := ⟨PCX.RX_OVERSIZE p, 0, 32⟩

/-- PCX_RX_FCS_ERR (R180). -/
def PCX.RX_FCS_ERR (p : Nat) : Nat := 0x3000200444 + p * 0x10000

/-- Bits [31:0] of PCX_RX_FCS_ERR. -/
def PCX.RX_FCS_ERR_COUNT (p : Nat) : FieldRef := ⟨PCX.RX_FCS_ERR p, 0, 32⟩

/-- PCX_RX_CODE_ERR (R180). -/
def PCX.RX_CODE_ERR (p : Nat) : Nat := 0x3000200448 + p * 0x10000

/-- Bits [31:0] of PCX_RX_CODE_ERR. -/
def PCX.RX_CODE_ERR_COUNT (p : Nat) : FieldRef := ⟨PCX.RX_CODE_ERR p, 0, 32⟩

/-- PCX_RX_FIFO_DROP (R180). -/
def PCX.RX_FIFO_DROP (p : Nat) : Nat := 0x300020044C + p * 0x10000

/-- Bits [31:0] of PCX_RX_FIFO_DROP. -/
def PCX.RX_FIFO_DROP_COUNT (p : Nat) : FieldRef := ⟨PCX.RX_FIFO_DROP p, 0, 32⟩

/-- PCX_RX_TAG_DROP (R180). -/
def PCX.RX_TAG_DROP (p : Nat) : Nat := 0x3000200450 + p * 0x10000

/-- Bits [31:0] of PCX_RX_TAG_DROP. -/
def PCX.RX_TAG_DROP_COUNT (p : Nat) : FieldRef := ⟨PCX.RX_TAG_DROP p, 0, 32⟩

/-- PCX_RX_IPHDR_ERR (R180). -/
def PCX.RX_IPHDR_ERR (p : Nat) : Nat := 0x3000200454 + p * 0x10000

/-- Bits [31:0] of PCX_RX_IPHDR_ERR. -/
def PCX.RX_IPHDR_ERR_COUNT (p : Nat) : FieldRef := ⟨PCX.RX_IPHDR_ERR p, 0, 32⟩

/-- PCX_RX_UDP_ERR (R180). -/
def PCX.RX_UDP_ERR (p : Nat) : Nat := 0x3000200458 + p * 0x10000

/-- Bits [31:0] of PCX_RX_UDP_ERR. -/
def PCX.RX_UDP_ERR_COUNT (p : Nat) : FieldRef := ⟨PCX.RX_UDP_ERR p, 0, 32⟩

/-- PCX_RX_TCP_ERR (R180). -/
def PCX.RX_TCP_ERR (p : Nat) : Nat := 0x300020045C + p * 0x10000

/-- Bits [31:0] of PCX_RX_TCP_ERR. -/
def PCX.RX_TCP_ERR_COUNT (p : Nat) : FieldRef := ⟨PCX.RX_TCP_ERR p, 0, 32⟩

/-- PCX_RX_PAUSE_DISC (R180). -/
def PCX.RX_PAUSE_DISC (p : Nat) : Nat := 0x3000200460 + p * 0x10000

/-- Bits [31:0] of PCX_RX_PAUSE_DISC. -/
def PCX.RX_PAUSE_DISC_COUNT (p : Nat) : FieldRef := ⟨PCX.RX_PAUSE_DISC p, 0, 32⟩

/-- PCX_TX_OCTETS (R180). -/
def PCX.TX_OCTETS (p : Nat) : Nat := 0x3000200480 + p * 0x10000

/-- Bits [31:0] of PCX_TX_OCTETS. -/
def PCX.TX_OCTETS_COUNT (p : Nat) : FieldRef := ⟨PCX.TX_OCTETS p, 0, 32⟩

/-- PCX_TX_FRAMES (R180). -/
def PCX.TX_FRAMES (p : Nat) : Nat := 0x3000200484 + p * 0x10000

/-- Bits [31:0] of PCX_TX_FRAMES. -/
def PCX.TX_FRAMES_COUNT (p : Nat) : FieldRef := ⟨PCX.TX_FRAMES p, 0, 32⟩

/-- PCX_TX_UCAST (R180). -/
def PCX.TX_UCAST (p : Nat) : Nat := 0x3000200488 + p * 0x10000

/-- Bits [31:0] of PCX_TX_UCAST. -/
def PCX.TX_UCAST_COUNT (p : Nat) : FieldRef := ⟨PCX.TX_UCAST p, 0, 32⟩

/-- PCX_TX_MCAST (R180). -/
def PCX.TX_MCAST (p : Nat) : Nat := 0x300020048C + p * 0x10000

/-- Bits [31:0] of PCX_TX_MCAST. -/
def PCX.TX_MCAST_COUNT (p : Nat) : FieldRef := ⟨PCX.TX_MCAST p, 0, 32⟩

/-- PCX_TX_BCAST (R180). -/
def PCX.TX_BCAST (p : Nat) : Nat := 0x3000200490 + p * 0x10000

/-- Bits [31:0] of PCX_TX_BCAST. -/
def PCX.TX_BCAST_COUNT (p : Nat) : FieldRef := ⟨PCX.TX_BCAST p, 0, 32⟩

/-- PCX_TX_PAUSE (R180). -/
def PCX.TX_PAUSE (p : Nat) : Nat := 0x3000200494 + p * 0x10000

/-- Bits [31:0] of PCX_TX_PAUSE. -/
def PCX.TX_PAUSE_COUNT (p : Nat) : FieldRef := ⟨PCX.TX_PAUSE p, 0, 32⟩

/-- PCX_TX_64 (R180). -/
def PCX.TX_64 (p : Nat) : Nat := 0x3000200498 + p * 0x10000

/-- Bits [31:0] of PCX_TX_64. -/
def PCX.TX_64_COUNT (p : Nat) : FieldRef := ⟨PCX.TX_64 p, 0, 32⟩

/-- PCX_TX_65_127 (R180). -/
def PCX.TX_65_127 (p : Nat) : Nat := 0x300020049C + p * 0x10000

/-- Bits [31:0] of PCX_TX_65_127. -/
def PCX.TX_65_127_COUNT (p : Nat) : FieldRef := ⟨PCX.TX_65_127 p, 0, 32⟩

/-- PCX_TX_128_255 (R180). -/
def PCX.TX_128_255 (p : Nat) : Nat := 0x30002004A0 + p * 0x10000

/-- Bits [31:0] of PCX_TX_128_255. -/
def PCX.TX_128_255_COUNT (p : Nat) : FieldRef := ⟨PCX.TX_128_255 p, 0, 32⟩

/-- PCX_TX_256_511 (R180). -/
def PCX.TX_256_511 (p : Nat) : Nat := 0x30002004A4 + p * 0x10000

/-- Bits [31:0] of PCX_TX_256_511. -/
def PCX.TX_256_511_COUNT (p : Nat) : FieldRef := ⟨PCX.TX_256_511 p, 0, 32⟩

/-- PCX_TX_512_1023 (R180). -/
def PCX.TX_512_1023 (p : Nat) : Nat := 0x30002004A8 + p * 0x10000

/-- Bits [31:0] of PCX_TX_512_1023. -/
def PCX.TX_512_1023_COUNT (p : Nat) : FieldRef := ⟨PCX.TX_512_1023 p, 0, 32⟩

/-- PCX_TX_1024_1518 (R180). -/
def PCX.TX_1024_1518 (p : Nat) : Nat := 0x30002004AC + p * 0x10000

/-- Bits [31:0] of PCX_TX_1024_1518. -/
def PCX.TX_1024_1518_COUNT (p : Nat) : FieldRef := ⟨PCX.TX_1024_1518 p, 0, 32⟩

/-- PCX_TX_1519_MAX (R180). -/
def PCX.TX_1519_MAX (p : Nat) : Nat := 0x30002004B0 + p * 0x10000

/-- Bits [31:0] of PCX_TX_1519_MAX. -/
def PCX.TX_1519_MAX_COUNT (p : Nat) : FieldRef := ⟨PCX.TX_1519_MAX p, 0, 32⟩

/-- PCX_TX_STOMP (R180). -/
def PCX.TX_STOMP (p : Nat) : Nat := 0x30002004B4 + p * 0x10000

/-- Bits [31:0] of PCX_TX_STOMP. -/
def PCX.TX_STOMP_COUNT (p : Nat) : FieldRef := ⟨PCX.TX_STOMP p, 0, 32⟩

/-- PCX_TX_CSUM_SKIP (R180). -/
def PCX.TX_CSUM_SKIP (p : Nat) : Nat := 0x30002004B8 + p * 0x10000

/-- Bits [31:0] of PCX_TX_CSUM_SKIP. -/
def PCX.TX_CSUM_SKIP_COUNT (p : Nat) : FieldRef := ⟨PCX.TX_CSUM_SKIP p, 0, 32⟩

/-- PCX_TX_GATE_LATE (R180). -/
def PCX.TX_GATE_LATE (p : Nat) : Nat := 0x30002004BC + p * 0x10000

/-- Bits [31:0] of PCX_TX_GATE_LATE. -/
def PCX.TX_GATE_LATE_COUNT (p : Nat) : FieldRef := ⟨PCX.TX_GATE_LATE p, 0, 32⟩

/-- PCX_BSTATUS (R190). -/
def PCX.BSTATUS : Nat := 0x30002F0000

/-- Bits [16:16] of PCX_BSTATUS. -/
def PCX.BSTATUS_SDS_PLL_LOSS : FieldRef := ⟨PCX.BSTATUS, 16, 1⟩

/-- Bits [9:0] of PCX_BSTATUS. -/
def PCX.BSTATUS_PORT : FieldRef := ⟨PCX.BSTATUS, 0, 10⟩

/-- PCX_BENABLE (R190). -/
def PCX.BENABLE : Nat := 0x30002F0004

/-- Bits [16:16] of PCX_BENABLE. -/
def PCX.BENABLE_SDS_PLL_LOSS : FieldRef := ⟨PCX.BENABLE, 16, 1⟩

/-- Bits [9:0] of PCX_BENABLE. -/
def PCX.BENABLE_PORT : FieldRef := ⟨PCX.BENABLE, 0, 10⟩

/-- Rows of the register map of PCX. -/
def regsPcx0 : List RegDesc := [
  ⟨"PCX_CFG", 0x3000200000, [(65536, 10)], 32, [⟨"MAXLEN", 27, 14, .rw, 1522, .l, [(64, 9216)]⟩,
    ⟨"RXPAUSE_EN", 7, 7, .rw, 0, .l, []⟩,
    ⟨"PAUSE_EN", 6, 6, .rw, 0, .l, []⟩,
    ⟨"PBUS", 5, 5, .rw, 0, .l, []⟩,
    ⟨"FEC", 4, 4, .rw, 0, .l, []⟩,
    ⟨"AN_EN", 3, 3, .rw, 1, .l, []⟩,
    ⟨"MODE", 2, 1, .rw, 0, .l, []⟩,
    ⟨"EN", 0, 0, .rw, 0, .l, []⟩]⟩,
  ⟨"PCX_STATUS", 0x3000200004, [(65536, 10)], 32, [⟨"CNT_HALF", 11, 11, .ro, 0, .l, []⟩,
    ⟨"GATE_LATE", 10, 10, .w1c, 0, .l, []⟩,
    ⟨"GCL_REFUSED", 9, 9, .w1c, 0, .l, []⟩,
    ⟨"GCL_FLIPPED", 8, 8, .w1c, 0, .l, []⟩,
    ⟨"PAUSE_REFUSED", 7, 7, .w1c, 0, .l, []⟩,
    ⟨"TSQ_AVAIL", 6, 6, .ro, 0, .l, []⟩,
    ⟨"TSQ_OVF", 5, 5, .w1c, 0, .l, []⟩,
    ⟨"FIFO_DROP", 4, 4, .w1c, 0, .l, []⟩,
    ⟨"SPEED_REFUSED", 3, 3, .w1c, 0, .l, []⟩,
    ⟨"RFAULT", 2, 2, .w1c, 0, .l, []⟩,
    ⟨"LINK_DOWN", 1, 1, .w1c, 0, .l, []⟩,
    ⟨"LINK_UP", 0, 0, .w1c, 0, .l, []⟩]⟩,
  ⟨"PCX_ENABLE", 0x3000200008, [(65536, 10)], 32, [⟨"CNT_HALF", 11, 11, .rw, 0, .l, []⟩,
    ⟨"GATE_LATE", 10, 10, .rw, 0, .l, []⟩,
    ⟨"GCL_REFUSED", 9, 9, .rw, 0, .l, []⟩,
    ⟨"GCL_FLIPPED", 8, 8, .rw, 0, .l, []⟩,
    ⟨"PAUSE_REFUSED", 7, 7, .rw, 0, .l, []⟩,
    ⟨"TSQ_AVAIL", 6, 6, .rw, 0, .l, []⟩,
    ⟨"TSQ_OVF", 5, 5, .rw, 0, .l, []⟩,
    ⟨"FIFO_DROP", 4, 4, .rw, 0, .l, []⟩,
    ⟨"SPEED_REFUSED", 3, 3, .rw, 0, .l, []⟩,
    ⟨"RFAULT", 2, 2, .rw, 0, .l, []⟩,
    ⟨"LINK_DOWN", 1, 1, .rw, 0, .l, []⟩,
    ⟨"LINK_UP", 0, 0, .rw, 0, .l, []⟩]⟩,
  ⟨"PCX_LINK", 0x300020000C, [(65536, 10)], 32, [⟨"FEC_LOCK", 6, 6, .ro, 0, .l, []⟩,
    ⟨"RF_RX", 5, 5, .ro, 0, .l, []⟩,
    ⟨"SYNC", 4, 4, .ro, 0, .l, []⟩,
    ⟨"SIGNAL", 3, 3, .ro, 0, .l, []⟩,
    ⟨"STATE", 2, 0, .ro, 0, .l, []⟩]⟩,
  ⟨"PCX_CMD", 0x3000200010, [(65536, 10)], 32, [⟨"AN_RESTART", 3, 3, .wo, 0, .l, []⟩,
    ⟨"TSQ_FLUSH", 2, 2, .wo, 0, .l, []⟩,
    ⟨"CNT_CLR", 1, 1, .wo, 0, .l, []⟩,
    ⟨"PTR", 0, 0, .wo, 0, .l, []⟩]⟩,
  ⟨"PCX_FIFOLVL", 0x3000200014, [(65536, 10)], 32, [⟨"LEVEL", 16, 0, .ro, 0, .l, []⟩]⟩,
  ⟨"PCX_PAUSE", 0x3000200018, [(65536, 10)], 32, [⟨"QUANTA", 31, 16, .rw, 65535, .l, []⟩,
    ⟨"HIWM", 15, 8, .rw, 160, .l, []⟩,
    ⟨"LOWM", 7, 0, .rw, 96, .l, []⟩]⟩,
  ⟨"PCX_RXCTL", 0x3000200020, [(65536, 10)], 32, [⟨"PVID", 27, 16, .rw, 1, .l, []⟩,
    ⟨"DEFPCP", 5, 3, .rw, 0, .l, []⟩,
    ⟨"ACCEPT", 2, 1, .rw, 0, .l, [(0, 2)]⟩,
    ⟨"CSUM_EN", 0, 0, .rw, 1, .l, []⟩]⟩,
  ⟨"PCX_TXCTL", 0x3000200024, [(65536, 10)], 32, [⟨"EGMODE", 2, 1, .rw, 0, .l, []⟩,
    ⟨"CSUM_EN", 0, 0, .rw, 1, .l, []⟩]⟩,
  ⟨"PCX_PCPMAP", 0x3000200028, [(65536, 10)], 32, [⟨"TC0", 2, 0, .rw, 0, .l, []⟩,
    ⟨"TC1", 5, 3, .rw, 1, .l, []⟩,
    ⟨"TC2", 8, 6, .rw, 2, .l, []⟩,
    ⟨"TC3", 11, 9, .rw, 3, .l, []⟩,
    ⟨"TC4", 14, 12, .rw, 4, .l, []⟩,
    ⟨"TC5", 17, 15, .rw, 5, .l, []⟩,
    ⟨"TC6", 20, 18, .rw, 6, .l, []⟩,
    ⟨"TC7", 23, 21, .rw, 7, .l, []⟩]⟩,
  ⟨"PCX_VXLAT", 0x3000200040, [(65536, 10), (4, 16)], 32, [⟨"EN", 31, 31, .rw, 0, .l, []⟩,
    ⟨"DIR", 30, 30, .rw, 0, .l, []⟩,
    ⟨"FROM", 27, 16, .rw, 0, .l, []⟩,
    ⟨"TO", 11, 0, .rw, 0, .l, []⟩]⟩,
  ⟨"PCX_LATCAL", 0x3000200080, [(65536, 10)], 32, [⟨"TXCAL", 31, 16, .ro, 0, .p, []⟩,
    ⟨"RXCAL", 15, 0, .ro, 0, .p, []⟩]⟩]

/-- Rows of the register map of PCX. -/
def regsPcx1 : List RegDesc := [
  ⟨"PCX_RXADJ", 0x3000200084, [(65536, 10)], 32, [⟨"RXADJ", 15, 0, .rw, 0, .s, []⟩]⟩,
  ⟨"PCX_TXADJ", 0x3000200088, [(65536, 10)], 32, [⟨"TXADJ", 15, 0, .rw, 0, .s, []⟩]⟩,
  ⟨"PCX_TSQ_W0", 0x3000200100, [(65536, 10)], 32, [⟨"VALID", 31, 31, .ro, 0, .l, []⟩,
    ⟨"STOMP", 30, 30, .ro, 0, .l, []⟩,
    ⟨"REQTAG", 23, 16, .ro, 0, .l, []⟩,
    ⟨"SEC_HI", 15, 0, .ro, 0, .l, []⟩]⟩,
  ⟨"PCX_TSQ_W1", 0x3000200104, [(65536, 10)], 32, [⟨"SEC_LO", 31, 0, .ro, 0, .l, []⟩]⟩,
  ⟨"PCX_TSQ_W2", 0x3000200108, [(65536, 10)], 32, [⟨"NS", 29, 0, .ro, 0, .l, []⟩]⟩,
  ⟨"PCX_TSQ_CNT", 0x300020010C, [(65536, 10)], 32, [⟨"LOST", 31, 16, .ro, 0, .l, []⟩,
    ⟨"NEXTTAG", 15, 8, .ro, 0, .l, []⟩,
    ⟨"LEVEL", 6, 0, .ro, 0, .l, []⟩]⟩,
  ⟨"PCX_CNTHALF0", 0x30002003F0, [(65536, 10)], 32, [⟨"RXHALF", 24, 0, .w1c, 0, .l, []⟩]⟩,
  ⟨"PCX_CNTHALF1", 0x30002003F4, [(65536, 10)], 32, [⟨"TXHALF", 15, 0, .w1c, 0, .l, []⟩]⟩,
  ⟨"PCX_GCL_CTL", 0x3000200200, [(65536, 10)], 32, [⟨"PENDING", 5, 5, .ro, 0, .l, []⟩,
    ⟨"ACT", 4, 4, .ro, 0, .l, []⟩,
    ⟨"FLIP", 1, 1, .wo, 0, .l, []⟩,
    ⟨"EN", 0, 0, .rw, 0, .l, []⟩]⟩,
  ⟨"PCX_GCL_DRAIN", 0x3000200204, [(65536, 10)], 32, [⟨"DRAIN1", 1, 1, .ro, 0, .l, []⟩,
    ⟨"DRAIN0", 0, 0, .ro, 1, .l, []⟩]⟩,
  ⟨"PCX_GCL_BASE", 0x3000200210, [(65536, 10), (32, 2)], 64, [⟨"BASE", 63, 0, .rw, 0, .l, []⟩]⟩,
  ⟨"PCX_GCL_CYCLE", 0x3000200218, [(65536, 10), (32, 2)], 32, [⟨"CYCLE", 31, 0, .rw, 1000000, .l, []⟩]⟩]

/-- Rows of the register map of PCX. -/
def regsPcx2 : List RegDesc := [
  ⟨"PCX_GCL_CFG", 0x300020021C, [(65536, 10), (32, 2)], 32, [⟨"ANCHOR", 31, 31, .rw, 0, .l, []⟩,
    ⟨"LEN", 8, 0, .rw, 0, .l, [(0, 256)]⟩]⟩,
  ⟨"PCX_GCL_ENT", 0x3000201000, [(65536, 10), (2048, 2), (8, 256)], 64, [⟨"TIME", 39, 8, .rw, 1000, .l, [(16, 1000000000)]⟩,
    ⟨"GATES", 7, 0, .rw, 255, .l, []⟩]⟩,
  ⟨"PCX_RX_OCTETS", 0x3000200400, [(65536, 10)], 32, [⟨"COUNT", 31, 0, .ro, 0, .l, []⟩]⟩,
  ⟨"PCX_RX_FRAMES", 0x3000200404, [(65536, 10)], 32, [⟨"COUNT", 31, 0, .ro, 0, .l, []⟩]⟩,
  ⟨"PCX_RX_UCAST", 0x3000200408, [(65536, 10)], 32, [⟨"COUNT", 31, 0, .ro, 0, .l, []⟩]⟩,
  ⟨"PCX_RX_MCAST", 0x300020040C, [(65536, 10)], 32, [⟨"COUNT", 31, 0, .ro, 0, .l, []⟩]⟩,
  ⟨"PCX_RX_BCAST", 0x3000200410, [(65536, 10)], 32, [⟨"COUNT", 31, 0, .ro, 0, .l, []⟩]⟩,
  ⟨"PCX_RX_PAUSE", 0x3000200414, [(65536, 10)], 32, [⟨"COUNT", 31, 0, .ro, 0, .l, []⟩]⟩,
  ⟨"PCX_RX_TAGGED", 0x3000200418, [(65536, 10)], 32, [⟨"COUNT", 31, 0, .ro, 0, .l, []⟩]⟩,
  ⟨"PCX_RX_64", 0x300020041C, [(65536, 10)], 32, [⟨"COUNT", 31, 0, .ro, 0, .l, []⟩]⟩,
  ⟨"PCX_RX_65_127", 0x3000200420, [(65536, 10)], 32, [⟨"COUNT", 31, 0, .ro, 0, .l, []⟩]⟩,
  ⟨"PCX_RX_128_255", 0x3000200424, [(65536, 10)], 32, [⟨"COUNT", 31, 0, .ro, 0, .l, []⟩]⟩]

/-- Rows of the register map of PCX. -/
def regsPcx3 : List RegDesc := [
  ⟨"PCX_RX_256_511", 0x3000200428, [(65536, 10)], 32, [⟨"COUNT", 31, 0, .ro, 0, .l, []⟩]⟩,
  ⟨"PCX_RX_512_1023", 0x300020042C, [(65536, 10)], 32, [⟨"COUNT", 31, 0, .ro, 0, .l, []⟩]⟩,
  ⟨"PCX_RX_1024_1518", 0x3000200430, [(65536, 10)], 32, [⟨"COUNT", 31, 0, .ro, 0, .l, []⟩]⟩,
  ⟨"PCX_RX_1519_MAX", 0x3000200434, [(65536, 10)], 32, [⟨"COUNT", 31, 0, .ro, 0, .l, []⟩]⟩,
  ⟨"PCX_RX_RUNT", 0x3000200438, [(65536, 10)], 32, [⟨"COUNT", 31, 0, .ro, 0, .l, []⟩]⟩,
  ⟨"PCX_RX_FRAG", 0x300020043C, [(65536, 10)], 32, [⟨"COUNT", 31, 0, .ro, 0, .l, []⟩]⟩,
  ⟨"PCX_RX_OVERSIZE", 0x3000200440, [(65536, 10)], 32, [⟨"COUNT", 31, 0, .ro, 0, .l, []⟩]⟩,
  ⟨"PCX_RX_FCS_ERR", 0x3000200444, [(65536, 10)], 32, [⟨"COUNT", 31, 0, .ro, 0, .l, []⟩]⟩,
  ⟨"PCX_RX_CODE_ERR", 0x3000200448, [(65536, 10)], 32, [⟨"COUNT", 31, 0, .ro, 0, .l, []⟩]⟩,
  ⟨"PCX_RX_FIFO_DROP", 0x300020044C, [(65536, 10)], 32, [⟨"COUNT", 31, 0, .ro, 0, .l, []⟩]⟩,
  ⟨"PCX_RX_TAG_DROP", 0x3000200450, [(65536, 10)], 32, [⟨"COUNT", 31, 0, .ro, 0, .l, []⟩]⟩,
  ⟨"PCX_RX_IPHDR_ERR", 0x3000200454, [(65536, 10)], 32, [⟨"COUNT", 31, 0, .ro, 0, .l, []⟩]⟩]

/-- Rows of the register map of PCX. -/
def regsPcx4 : List RegDesc := [
  ⟨"PCX_RX_UDP_ERR", 0x3000200458, [(65536, 10)], 32, [⟨"COUNT", 31, 0, .ro, 0, .l, []⟩]⟩,
  ⟨"PCX_RX_TCP_ERR", 0x300020045C, [(65536, 10)], 32, [⟨"COUNT", 31, 0, .ro, 0, .l, []⟩]⟩,
  ⟨"PCX_RX_PAUSE_DISC", 0x3000200460, [(65536, 10)], 32, [⟨"COUNT", 31, 0, .ro, 0, .l, []⟩]⟩,
  ⟨"PCX_TX_OCTETS", 0x3000200480, [(65536, 10)], 32, [⟨"COUNT", 31, 0, .ro, 0, .l, []⟩]⟩,
  ⟨"PCX_TX_FRAMES", 0x3000200484, [(65536, 10)], 32, [⟨"COUNT", 31, 0, .ro, 0, .l, []⟩]⟩,
  ⟨"PCX_TX_UCAST", 0x3000200488, [(65536, 10)], 32, [⟨"COUNT", 31, 0, .ro, 0, .l, []⟩]⟩,
  ⟨"PCX_TX_MCAST", 0x300020048C, [(65536, 10)], 32, [⟨"COUNT", 31, 0, .ro, 0, .l, []⟩]⟩,
  ⟨"PCX_TX_BCAST", 0x3000200490, [(65536, 10)], 32, [⟨"COUNT", 31, 0, .ro, 0, .l, []⟩]⟩,
  ⟨"PCX_TX_PAUSE", 0x3000200494, [(65536, 10)], 32, [⟨"COUNT", 31, 0, .ro, 0, .l, []⟩]⟩,
  ⟨"PCX_TX_64", 0x3000200498, [(65536, 10)], 32, [⟨"COUNT", 31, 0, .ro, 0, .l, []⟩]⟩,
  ⟨"PCX_TX_65_127", 0x300020049C, [(65536, 10)], 32, [⟨"COUNT", 31, 0, .ro, 0, .l, []⟩]⟩,
  ⟨"PCX_TX_128_255", 0x30002004A0, [(65536, 10)], 32, [⟨"COUNT", 31, 0, .ro, 0, .l, []⟩]⟩]

/-- Rows of the register map of PCX. -/
def regsPcx5 : List RegDesc := [
  ⟨"PCX_TX_256_511", 0x30002004A4, [(65536, 10)], 32, [⟨"COUNT", 31, 0, .ro, 0, .l, []⟩]⟩,
  ⟨"PCX_TX_512_1023", 0x30002004A8, [(65536, 10)], 32, [⟨"COUNT", 31, 0, .ro, 0, .l, []⟩]⟩,
  ⟨"PCX_TX_1024_1518", 0x30002004AC, [(65536, 10)], 32, [⟨"COUNT", 31, 0, .ro, 0, .l, []⟩]⟩,
  ⟨"PCX_TX_1519_MAX", 0x30002004B0, [(65536, 10)], 32, [⟨"COUNT", 31, 0, .ro, 0, .l, []⟩]⟩,
  ⟨"PCX_TX_STOMP", 0x30002004B4, [(65536, 10)], 32, [⟨"COUNT", 31, 0, .ro, 0, .l, []⟩]⟩,
  ⟨"PCX_TX_CSUM_SKIP", 0x30002004B8, [(65536, 10)], 32, [⟨"COUNT", 31, 0, .ro, 0, .l, []⟩]⟩,
  ⟨"PCX_TX_GATE_LATE", 0x30002004BC, [(65536, 10)], 32, [⟨"COUNT", 31, 0, .ro, 0, .l, []⟩]⟩,
  ⟨"PCX_BSTATUS", 0x30002F0000, [], 32, [⟨"SDS_PLL_LOSS", 16, 16, .w1c, 0, .s, []⟩,
    ⟨"PORT", 9, 0, .ro, 0, .s, []⟩]⟩,
  ⟨"PCX_BENABLE", 0x30002F0004, [], 32, [⟨"SDS_PLL_LOSS", 16, 16, .rw, 0, .s, []⟩,
    ⟨"PORT", 9, 0, .rw, 0, .s, []⟩]⟩]

/-- The register map of PCX. -/
def regsPcx : List RegDesc :=
  regsPcx0 ++ regsPcx1 ++ regsPcx2 ++ regsPcx3 ++ regsPcx4 ++ regsPcx5

end Sys2Proof.Machine
end

