-- ==== Sys2Proof/Machine/RegsPub.lean ====
section
/-!
DEFINITION. Machine/RegsPub.lean: the register map of block PUB (R52), from the field tables of its chapter: the address of
every register, the place of every field, and the table that REGISTER_WRITE and the resets read.
-/

namespace Sys2Proof.Machine


/-- PUB_CTL (R605). -/
def PUB.CTL : Nat := 0x3000700000

/-- Bits [2:2] of PUB_CTL. -/
def PUB.CTL_LAMP : FieldRef := ⟨PUB.CTL, 2, 1⟩

/-- Bits [1:1] of PUB_CTL. -/
def PUB.CTL_ALIVE_EN : FieldRef := ⟨PUB.CTL, 1, 1⟩

/-- Bits [0:0] of PUB_CTL. -/
def PUB.CTL_EN : FieldRef := ⟨PUB.CTL, 0, 1⟩

/-- PUB_STATUS (R605). -/
def PUB.STATUS : Nat := 0x3000700004

/-- Bits [8:8] of PUB_STATUS. -/
def PUB.STATUS_STAGE_ERR : FieldRef := ⟨PUB.STATUS, 8, 1⟩

/-- Bits [7:7] of PUB_STATUS. -/
def PUB.STATUS_CLOG_OVF : FieldRef := ⟨PUB.STATUS, 7, 1⟩

/-- Bits [6:6] of PUB_STATUS. -/
def PUB.STATUS_CORRECTIVE : FieldRef := ⟨PUB.STATUS, 6, 1⟩

/-- Bits [5:5] of PUB_STATUS. -/
def PUB.STATUS_STDN_MISS : FieldRef := ⟨PUB.STATUS, 5, 1⟩

/-- Bits [4:4] of PUB_STATUS. -/
def PUB.STATUS_DEFER : FieldRef := ⟨PUB.STATUS, 4, 1⟩

/-- Bits [3:3] of PUB_STATUS. -/
def PUB.STATUS_RXREJ : FieldRef := ⟨PUB.STATUS, 3, 1⟩

/-- Bits [2:2] of PUB_STATUS. -/
def PUB.STATUS_HDROP : FieldRef := ⟨PUB.STATUS, 2, 1⟩

/-- Bits [1:1] of PUB_STATUS. -/
def PUB.STATUS_EPOCH_REFUSED : FieldRef := ⟨PUB.STATUS, 1, 1⟩

/-- Bits [0:0] of PUB_STATUS. -/
def PUB.STATUS_CFG_REFUSED : FieldRef := ⟨PUB.STATUS, 0, 1⟩

/-- PUB_CMD (R605). -/
def PUB.CMD : Nat := 0x300070000C

/-- Bits [1:1] of PUB_CMD. -/
def PUB.CMD_CNT_CLR : FieldRef := ⟨PUB.CMD, 1, 1⟩

/-- Bits [0:0] of PUB_CMD. -/
def PUB.CMD_FLIP : FieldRef := ⟨PUB.CMD, 0, 1⟩

/-- PUB_EPOCH (R605). -/
def PUB.EPOCH : Nat := 0x3000700010

/-- Bits [0:0] of PUB_EPOCH. -/
def PUB.EPOCH_ACT : FieldRef := ⟨PUB.EPOCH, 0, 1⟩

/-- PUB_DRAIN0 (R605). -/
def PUB.DRAIN0 : Nat := 0x3000700014

/-- Bits [12:0] of PUB_DRAIN0. -/
def PUB.DRAIN0_COUNT : FieldRef := ⟨PUB.DRAIN0, 0, 13⟩

/-- PUB_DRAIN1 (R605). -/
def PUB.DRAIN1 : Nat := 0x3000700018

/-- Bits [12:0] of PUB_DRAIN1. -/
def PUB.DRAIN1_COUNT : FieldRef := ⟨PUB.DRAIN1, 0, 13⟩

/-- PUB_UTCOFF (R605). -/
def PUB.UTCOFF : Nat := 0x300070001C

/-- Bits [15:0] of PUB_UTCOFF. -/
def PUB.UTCOFF_OFFSET : FieldRef := ⟨PUB.UTCOFF, 0, 16⟩

/-- PUB_CLOG_W0 (R605). -/
def PUB.CLOG_W0 : Nat := 0x3000700020

/-- Bits [31:31] of PUB_CLOG_W0. -/
def PUB.CLOG_W0_VALID : FieldRef := ⟨PUB.CLOG_W0, 31, 1⟩

/-- Bits [12:0] of PUB_CLOG_W0. -/
def PUB.CLOG_W0_PUBN : FieldRef := ⟨PUB.CLOG_W0, 0, 13⟩

/-- PUB_CLOG_W1 (R605). -/
def PUB.CLOG_W1 : Nat := 0x3000700024

/-- Bits [31:0] of PUB_CLOG_W1. -/
def PUB.CLOG_W1_PSTNUM : FieldRef := ⟨PUB.CLOG_W1, 0, 32⟩

/-- PUB_CLOG_W2 (R605). -/
def PUB.CLOG_W2 : Nat := 0x3000700028

/-- Bits [31:0] of PUB_CLOG_W2. -/
def PUB.CLOG_W2_CSTNUM : FieldRef := ⟨PUB.CLOG_W2, 0, 32⟩

/-- PUB_CLOG_W3 (R605). -/
def PUB.CLOG_W3 : Nat := 0x300070002C

/-- Bits [31:0] of PUB_CLOG_W3. -/
def PUB.CLOG_W3_TICK : FieldRef := ⟨PUB.CLOG_W3, 0, 32⟩

/-- PUB_CLOG_CNT (R605). -/
def PUB.CLOG_CNT : Nat := 0x3000700030

/-- Bits [31:16] of PUB_CLOG_CNT. -/
def PUB.CLOG_CNT_LOST : FieldRef := ⟨PUB.CLOG_CNT, 16, 16⟩

/-- Bits [6:0] of PUB_CLOG_CNT. -/
def PUB.CLOG_CNT_LEVEL : FieldRef := ⟨PUB.CLOG_CNT, 0, 7⟩

/-- PUB_SCMD (R605). -/
def PUB.SCMD : Nat := 0x3000700040

/-- Bits [31:31] of PUB_SCMD. -/
def PUB.SCMD_GO : FieldRef := ⟨PUB.SCMD, 31, 1⟩

/-- Bits [12:0] of PUB_SCMD. -/
def PUB.SCMD_PUBN : FieldRef := ⟨PUB.SCMD, 0, 13⟩

/-- PUB_SCMD_ID (R605). -/
def PUB.SCMD_ID : Nat := 0x3000700044

/-- Bits [31:0] of PUB_SCMD_ID. -/
def PUB.SCMD_ID_ID : FieldRef := ⟨PUB.SCMD_ID, 0, 32⟩

/-- PUB_ENABLE (R605). -/
def PUB.ENABLE : Nat := 0x3000700008

/-- Bits [8:8] of PUB_ENABLE. -/
def PUB.ENABLE_STAGE_ERR : FieldRef := ⟨PUB.ENABLE, 8, 1⟩

/-- Bits [7:7] of PUB_ENABLE. -/
def PUB.ENABLE_CLOG_OVF : FieldRef := ⟨PUB.ENABLE, 7, 1⟩

/-- Bits [6:6] of PUB_ENABLE. -/
def PUB.ENABLE_CORRECTIVE : FieldRef := ⟨PUB.ENABLE, 6, 1⟩

/-- Bits [5:5] of PUB_ENABLE. -/
def PUB.ENABLE_STDN_MISS : FieldRef := ⟨PUB.ENABLE, 5, 1⟩

/-- Bits [4:4] of PUB_ENABLE. -/
def PUB.ENABLE_DEFER : FieldRef := ⟨PUB.ENABLE, 4, 1⟩

/-- Bits [3:3] of PUB_ENABLE. -/
def PUB.ENABLE_RXREJ : FieldRef := ⟨PUB.ENABLE, 3, 1⟩

/-- Bits [2:2] of PUB_ENABLE. -/
def PUB.ENABLE_HDROP : FieldRef := ⟨PUB.ENABLE, 2, 1⟩

/-- Bits [1:1] of PUB_ENABLE. -/
def PUB.ENABLE_EPOCH_REFUSED : FieldRef := ⟨PUB.ENABLE, 1, 1⟩

/-- Bits [0:0] of PUB_ENABLE. -/
def PUB.ENABLE_CFG_REFUSED : FieldRef := ⟨PUB.ENABLE, 0, 1⟩

/-- PUB_HELD (R605). -/
def PUB.HELD : Nat := 0x3000700050

/-- Bits [31:0] of PUB_HELD. -/
def PUB.HELD_COUNT : FieldRef := ⟨PUB.HELD, 0, 32⟩

/-- PUB_HREL (R605). -/
def PUB.HREL : Nat := 0x3000700054

/-- Bits [31:0] of PUB_HREL. -/
def PUB.HREL_COUNT : FieldRef := ⟨PUB.HREL, 0, 32⟩

/-- PUB_HDROP (R605). -/
def PUB.HDROP : Nat := 0x3000700058

/-- Bits [31:0] of PUB_HDROP. -/
def PUB.HDROP_COUNT : FieldRef := ⟨PUB.HDROP, 0, 32⟩

/-- PUB_CORR (R605). -/
def PUB.CORR : Nat := 0x300070005C

/-- Bits [31:0] of PUB_CORR. -/
def PUB.CORR_COUNT : FieldRef := ⟨PUB.CORR, 0, 32⟩

/-- PUB_DEFER (R605). -/
def PUB.DEFER : Nat := 0x3000700060

/-- Bits [31:0] of PUB_DEFER. -/
def PUB.DEFER_COUNT : FieldRef := ⟨PUB.DEFER, 0, 32⟩

/-- PUB_STDN_MISS (R605). -/
def PUB.STDN_MISS : Nat := 0x3000700064

/-- Bits [31:0] of PUB_STDN_MISS. -/
def PUB.STDN_MISS_COUNT : FieldRef := ⟨PUB.STDN_MISS, 0, 32⟩

/-- PUB_RXNOMATCH (R605). -/
def PUB.RXNOMATCH : Nat := 0x3000700068

/-- Bits [31:0] of PUB_RXNOMATCH. -/
def PUB.RXNOMATCH_COUNT : FieldRef := ⟨PUB.RXNOMATCH, 0, 32⟩

/-- PUB_RXREJ (R605). -/
def PUB.RXREJ : Nat := 0x300070006C

/-- Bits [31:0] of PUB_RXREJ. -/
def PUB.RXREJ_COUNT : FieldRef := ⟨PUB.RXREJ, 0, 32⟩

/-- PUB_STAGEERR (R605). -/
def PUB.STAGEERR : Nat := 0x3000700070

/-- Bits [31:0] of PUB_STAGEERR. -/
def PUB.STAGEERR_COUNT : FieldRef := ⟨PUB.STAGEERR, 0, 32⟩

/-- PUB_TOP (R605). -/
def PUB.TOP (p : Nat) : Nat := 0x3000700100 + p * 0x4

/-- Bits [31:0] of PUB_TOP. -/
def PUB.TOP_TOP (p : Nat) : FieldRef := ⟨PUB.TOP p, 0, 32⟩

/-- PUB_SO (R605). -/
def PUB.SO (p : Nat) : Nat := 0x3000700200 + p * 0x4

/-- Bits [31:31] of PUB_SO. -/
def PUB.SO_EN (p : Nat) : FieldRef := ⟨PUB.SO p, 31, 1⟩

/-- Bits [30:30] of PUB_SO. -/
def PUB.SO_INV (p : Nat) : FieldRef := ⟨PUB.SO p, 30, 1⟩

/-- Bits [25:24] of PUB_SO. -/
def PUB.SO_SAFE (p : Nat) : FieldRef := ⟨PUB.SO p, 24, 2⟩

/-- Bits [20:8] of PUB_SO. -/
def PUB.SO_PUBN (p : Nat) : FieldRef := ⟨PUB.SO p, 8, 13⟩

/-- Bits [7:0] of PUB_SO. -/
def PUB.SO_ATTR (p : Nat) : FieldRef := ⟨PUB.SO p, 0, 8⟩

/-- PUB_W0 (R606). -/
def PUB.W0 (p : Nat) (e : Nat) : Nat := 0x3000720000 + p * 0x48000 + e * 0x40

/-- Bits [31:31] of PUB_W0. -/
def PUB.W0_EN (p : Nat) (e : Nat) : FieldRef := ⟨PUB.W0 p e, 31, 1⟩

/-- Bits [30:28] of PUB_W0. -/
def PUB.W0_KIND (p : Nat) (e : Nat) : FieldRef := ⟨PUB.W0 p e, 28, 3⟩

/-- Bits [25:16] of PUB_W0. -/
def PUB.W0_OWNER (p : Nat) (e : Nat) : FieldRef := ⟨PUB.W0 p e, 16, 10⟩

/-- Bits [15:15] of PUB_W0. -/
def PUB.W0_HOLDPOL (p : Nat) (e : Nat) : FieldRef := ⟨PUB.W0 p e, 15, 1⟩

/-- Bits [14:14] of PUB_W0. -/
def PUB.W0_SIM (p : Nat) (e : Nat) : FieldRef := ⟨PUB.W0 p e, 14, 1⟩

/-- Bits [13:13] of PUB_W0. -/
def PUB.W0_AUTH_EN (p : Nat) (e : Nat) : FieldRef := ⟨PUB.W0 p e, 13, 1⟩

/-- Bits [12:0] of PUB_W0. -/
def PUB.W0_KEYSLOT (p : Nat) (e : Nat) : FieldRef := ⟨PUB.W0 p e, 0, 13⟩

/-- PUB_W1 (R606). -/
def PUB.W1 (p : Nat) (e : Nat) : Nat := 0x3000720004 + p * 0x48000 + e * 0x40

/-- Bits [31:28] of PUB_W1. -/
def PUB.W1_FIRST (p : Nat) (e : Nat) : FieldRef := ⟨PUB.W1 p e, 28, 4⟩

/-- Bits [27:12] of PUB_W1. -/
def PUB.W1_T0 (p : Nat) (e : Nat) : FieldRef := ⟨PUB.W1 p e, 12, 16⟩

/-- Bits [31:28] of PUB_W1. -/
def PUB.W1_GRID (p : Nat) (e : Nat) : FieldRef := ⟨PUB.W1 p e, 28, 4⟩

/-- Bits [27:24] of PUB_W1. -/
def PUB.W1_NASDU (p : Nat) (e : Nat) : FieldRef := ⟨PUB.W1 p e, 24, 4⟩

/-- Bits [23:8] of PUB_W1. -/
def PUB.W1_WRAP (p : Nat) (e : Nat) : FieldRef := ⟨PUB.W1 p e, 8, 16⟩

/-- Bits [7:0] of PUB_W1. -/
def PUB.W1_NATTR (p : Nat) (e : Nat) : FieldRef := ⟨PUB.W1 p e, 0, 8⟩

/-- PUB_W2 (R606). -/
def PUB.W2 (p : Nat) (e : Nat) : Nat := 0x3000720008 + p * 0x48000 + e * 0x40

/-- Bits [31:0] of PUB_W2. -/
def PUB.W2_TMPL (p : Nat) (e : Nat) : FieldRef := ⟨PUB.W2 p e, 0, 32⟩

/-- PUB_W3 (R606). -/
def PUB.W3 (p : Nat) (e : Nat) : Nat := 0x300072000C + p * 0x48000 + e * 0x40

/-- Bits [31:0] of PUB_W3. -/
def PUB.W3_AMAP (p : Nat) (e : Nat) : FieldRef := ⟨PUB.W3 p e, 0, 32⟩

/-- PUB_W4 (R606). -/
def PUB.W4 (p : Nat) (e : Nat) : Nat := 0x3000720010 + p * 0x48000 + e * 0x40

/-- Bits [31:0] of PUB_W4. -/
def PUB.W4_STAGE (p : Nat) (e : Nat) : FieldRef := ⟨PUB.W4 p e, 0, 32⟩

/-- PUB_W5 (R606). -/
def PUB.W5 (p : Nat) (e : Nat) : Nat := 0x3000720014 + p * 0x48000 + e * 0x40

/-- Bits [31:29] of PUB_W5. -/
def PUB.W5_TC (p : Nat) (e : Nat) : FieldRef := ⟨PUB.W5 p e, 29, 3⟩

/-- Bits [26:16] of PUB_W5. -/
def PUB.W5_TLEN (p : Nat) (e : Nat) : FieldRef := ⟨PUB.W5 p e, 16, 11⟩

/-- Bits [10:0] of PUB_W5. -/
def PUB.W5_O_TAL (p : Nat) (e : Nat) : FieldRef := ⟨PUB.W5 p e, 0, 11⟩

/-- PUB_W6 (R606). -/
def PUB.W6 (p : Nat) (e : Nat) : Nat := 0x3000720018 + p * 0x48000 + e * 0x40

/-- Bits [26:16] of PUB_W6. -/
def PUB.W6_O_T (p : Nat) (e : Nat) : FieldRef := ⟨PUB.W6 p e, 16, 11⟩

/-- Bits [10:0] of PUB_W6. -/
def PUB.W6_O_ST (p : Nat) (e : Nat) : FieldRef := ⟨PUB.W6 p e, 0, 11⟩

/-- PUB_W7 (R606). -/
def PUB.W7 (p : Nat) (e : Nat) : Nat := 0x300072001C + p * 0x48000 + e * 0x40

/-- Bits [26:16] of PUB_W7. -/
def PUB.W7_O_SIM (p : Nat) (e : Nat) : FieldRef := ⟨PUB.W7 p e, 16, 11⟩

/-- Bits [10:0] of PUB_W7. -/
def PUB.W7_O_SQ (p : Nat) (e : Nat) : FieldRef := ⟨PUB.W7 p e, 0, 11⟩

/-- PUB_STNUM (R607). -/
def PUB.STNUM (p : Nat) : Nat := 0x30007B0000 + p * 0x10

/-- Bits [31:0] of PUB_STNUM. -/
def PUB.STNUM_STNUM (p : Nat) : FieldRef := ⟨PUB.STNUM p, 0, 32⟩

/-- PUB_SQNUM (R607). -/
def PUB.SQNUM (p : Nat) : Nat := 0x30007B0004 + p * 0x10

/-- Bits [31:0] of PUB_SQNUM. -/
def PUB.SQNUM_SQNUM (p : Nat) : FieldRef := ⟨PUB.SQNUM p, 0, 32⟩

/-- PUB_PSTATE (R607). -/
def PUB.PSTATE (p : Nat) : Nat := 0x30007B0008 + p * 0x10

/-- Bits [31:31] of PUB_PSTATE. -/
def PUB.PSTATE_ARMED (p : Nat) : FieldRef := ⟨PUB.PSTATE p, 31, 1⟩

/-- Bits [30:30] of PUB_PSTATE. -/
def PUB.PSTATE_PEND (p : Nat) : FieldRef := ⟨PUB.PSTATE p, 30, 1⟩

/-- Bits [29:29] of PUB_PSTATE. -/
def PUB.PSTATE_HELD (p : Nat) : FieldRef := ⟨PUB.PSTATE p, 29, 1⟩

/-- Bits [28:28] of PUB_PSTATE. -/
def PUB.PSTATE_SAFE (p : Nat) : FieldRef := ⟨PUB.PSTATE p, 28, 1⟩

/-- Bits [27:27] of PUB_PSTATE. -/
def PUB.PSTATE_DEFERRED (p : Nat) : FieldRef := ⟨PUB.PSTATE p, 27, 1⟩

/-- PUB_ARMID (R607). -/
def PUB.ARMID (p : Nat) : Nat := 0x30007B000C + p * 0x10

/-- Bits [31:0] of PUB_ARMID. -/
def PUB.ARMID_ID (p : Nat) : FieldRef := ⟨PUB.ARMID p, 0, 32⟩

/-- PUB_RXW0 (R607). -/
def PUB.RXW0 (p : Nat) : Nat := 0x30007D0000 + p * 0x20

/-- Bits [31:31] of PUB_RXW0. -/
def PUB.RXW0_EN (p : Nat) : FieldRef := ⟨PUB.RXW0 p, 31, 1⟩

/-- Bits [30:30] of PUB_RXW0. -/
def PUB.RXW0_SIMOK (p : Nat) : FieldRef := ⟨PUB.RXW0 p, 30, 1⟩

/-- Bits [29:29] of PUB_RXW0. -/
def PUB.RXW0_AUTH_EN (p : Nat) : FieldRef := ⟨PUB.RXW0 p, 29, 1⟩

/-- Bits [28:22] of PUB_RXW0. -/
def PUB.RXW0_REFLEN (p : Nat) : FieldRef := ⟨PUB.RXW0 p, 22, 7⟩

/-- Bits [21:14] of PUB_RXW0. -/
def PUB.RXW0_NATTR (p : Nat) : FieldRef := ⟨PUB.RXW0 p, 14, 8⟩

/-- Bits [12:0] of PUB_RXW0. -/
def PUB.RXW0_KEYSLOT (p : Nat) : FieldRef := ⟨PUB.RXW0 p, 0, 13⟩

/-- PUB_RXW1 (R607). -/
def PUB.RXW1 (p : Nat) : Nat := 0x30007D0004 + p * 0x20

/-- Bits [31:0] of PUB_RXW1. -/
def PUB.RXW1_DA_LO (p : Nat) : FieldRef := ⟨PUB.RXW1 p, 0, 32⟩

/-- PUB_RXW2 (R607). -/
def PUB.RXW2 (p : Nat) : Nat := 0x30007D0008 + p * 0x20

/-- Bits [31:16] of PUB_RXW2. -/
def PUB.RXW2_APPID (p : Nat) : FieldRef := ⟨PUB.RXW2 p, 16, 16⟩

/-- Bits [15:0] of PUB_RXW2. -/
def PUB.RXW2_DA_HI (p : Nat) : FieldRef := ⟨PUB.RXW2 p, 0, 16⟩

/-- PUB_RXW3 (R607). -/
def PUB.RXW3 (p : Nat) : Nat := 0x30007D000C + p * 0x20

/-- Bits [31:0] of PUB_RXW3. -/
def PUB.RXW3_CONFREV (p : Nat) : FieldRef := ⟨PUB.RXW3 p, 0, 32⟩

/-- PUB_RXW4 (R607). -/
def PUB.RXW4 (p : Nat) : Nat := 0x30007D0010 + p * 0x20

/-- Bits [31:0] of PUB_RXW4. -/
def PUB.RXW4_AMAP (p : Nat) : FieldRef := ⟨PUB.RXW4 p, 0, 32⟩

/-- PUB_RXW5 (R607). -/
def PUB.RXW5 (p : Nat) : Nat := 0x30007D0014 + p * 0x20

/-- Bits [31:0] of PUB_RXW5. -/
def PUB.RXW5_RXBASE (p : Nat) : FieldRef := ⟨PUB.RXW5 p, 0, 32⟩

/-- PUB_RXW6 (R607). -/
def PUB.RXW6 (p : Nat) : Nat := 0x30007D0018 + p * 0x20

/-- Bits [31:31] of PUB_RXW6. -/
def PUB.RXW6_EN0 (p : Nat) : FieldRef := ⟨PUB.RXW6 p, 31, 1⟩

/-- Bits [30:30] of PUB_RXW6. -/
def PUB.RXW6_EN1 (p : Nat) : FieldRef := ⟨PUB.RXW6 p, 30, 1⟩

/-- Bits [25:16] of PUB_RXW6. -/
def PUB.RXW6_TEN1 (p : Nat) : FieldRef := ⟨PUB.RXW6 p, 16, 10⟩

/-- Bits [9:0] of PUB_RXW6. -/
def PUB.RXW6_TEN0 (p : Nat) : FieldRef := ⟨PUB.RXW6 p, 0, 10⟩

/-- PUB_RXW7 (R607). -/
def PUB.RXW7 (p : Nat) : Nat := 0x30007D001C + p * 0x20

/-- Bits [31:31] of PUB_RXW7. -/
def PUB.RXW7_EN0 (p : Nat) : FieldRef := ⟨PUB.RXW7 p, 31, 1⟩

/-- Bits [30:30] of PUB_RXW7. -/
def PUB.RXW7_EN1 (p : Nat) : FieldRef := ⟨PUB.RXW7 p, 30, 1⟩

/-- Bits [25:16] of PUB_RXW7. -/
def PUB.RXW7_TEN1 (p : Nat) : FieldRef := ⟨PUB.RXW7 p, 16, 10⟩

/-- Bits [9:0] of PUB_RXW7. -/
def PUB.RXW7_TEN0 (p : Nat) : FieldRef := ⟨PUB.RXW7 p, 0, 10⟩

/-- Rows of the register map of PUB. -/
def regsPub0 : List RegDesc := [
  ⟨"PUB_CTL", 0x3000700000, [], 32, [⟨"LAMP", 2, 2, .rw, 0, .s, []⟩,
    ⟨"ALIVE_EN", 1, 1, .rw, 0, .s, []⟩,
    ⟨"EN", 0, 0, .rw, 0, .s, []⟩]⟩,
  ⟨"PUB_STATUS", 0x3000700004, [], 32, [⟨"STAGE_ERR", 8, 8, .w1c, 0, .s, []⟩,
    ⟨"CLOG_OVF", 7, 7, .w1c, 0, .s, []⟩,
    ⟨"CORRECTIVE", 6, 6, .w1c, 0, .s, []⟩,
    ⟨"STDN_MISS", 5, 5, .w1c, 0, .s, []⟩,
    ⟨"DEFER", 4, 4, .w1c, 0, .s, []⟩,
    ⟨"RXREJ", 3, 3, .w1c, 0, .s, []⟩,
    ⟨"HDROP", 2, 2, .w1c, 0, .s, []⟩,
    ⟨"EPOCH_REFUSED", 1, 1, .w1c, 0, .s, []⟩,
    ⟨"CFG_REFUSED", 0, 0, .w1c, 0, .s, []⟩]⟩,
  ⟨"PUB_CMD", 0x300070000C, [], 32, [⟨"CNT_CLR", 1, 1, .wo, 0, .s, []⟩,
    ⟨"FLIP", 0, 0, .wo, 0, .s, []⟩]⟩,
  ⟨"PUB_EPOCH", 0x3000700010, [], 32, [⟨"ACT", 0, 0, .ro, 0, .s, []⟩]⟩,
  ⟨"PUB_DRAIN0", 0x3000700014, [], 32, [⟨"COUNT", 12, 0, .ro, 0, .s, []⟩]⟩,
  ⟨"PUB_DRAIN1", 0x3000700018, [], 32, [⟨"COUNT", 12, 0, .ro, 0, .s, []⟩]⟩,
  ⟨"PUB_UTCOFF", 0x300070001C, [], 32, [⟨"OFFSET", 15, 0, .rw, 37, .s, []⟩]⟩,
  ⟨"PUB_CLOG_W0", 0x3000700020, [], 32, [⟨"VALID", 31, 31, .ro, 0, .s, []⟩,
    ⟨"PUBN", 12, 0, .ro, 0, .s, []⟩]⟩,
  ⟨"PUB_CLOG_W1", 0x3000700024, [], 32, [⟨"PSTNUM", 31, 0, .ro, 0, .s, []⟩]⟩,
  ⟨"PUB_CLOG_W2", 0x3000700028, [], 32, [⟨"CSTNUM", 31, 0, .ro, 0, .s, []⟩]⟩,
  ⟨"PUB_CLOG_W3", 0x300070002C, [], 32, [⟨"TICK", 31, 0, .ro, 0, .s, []⟩]⟩,
  ⟨"PUB_CLOG_CNT", 0x3000700030, [], 32, [⟨"LOST", 31, 16, .ro, 0, .s, []⟩,
    ⟨"LEVEL", 6, 0, .ro, 0, .s, []⟩]⟩]

/-- Rows of the register map of PUB. -/
def regsPub1 : List RegDesc := [
  ⟨"PUB_SCMD", 0x3000700040, [], 32, [⟨"GO", 31, 31, .wo, 0, .s, []⟩,
    ⟨"PUBN", 12, 0, .wo, 0, .s, []⟩]⟩,
  ⟨"PUB_SCMD_ID", 0x3000700044, [], 32, [⟨"ID", 31, 0, .rw, 0, .s, []⟩]⟩,
  ⟨"PUB_ENABLE", 0x3000700008, [], 32, [⟨"STAGE_ERR", 8, 8, .rw, 0, .s, []⟩,
    ⟨"CLOG_OVF", 7, 7, .rw, 0, .s, []⟩,
    ⟨"CORRECTIVE", 6, 6, .rw, 0, .s, []⟩,
    ⟨"STDN_MISS", 5, 5, .rw, 0, .s, []⟩,
    ⟨"DEFER", 4, 4, .rw, 0, .s, []⟩,
    ⟨"RXREJ", 3, 3, .rw, 0, .s, []⟩,
    ⟨"HDROP", 2, 2, .rw, 0, .s, []⟩,
    ⟨"EPOCH_REFUSED", 1, 1, .rw, 0, .s, []⟩,
    ⟨"CFG_REFUSED", 0, 0, .rw, 0, .s, []⟩]⟩,
  ⟨"PUB_HELD", 0x3000700050, [], 32, [⟨"COUNT", 31, 0, .ro, 0, .s, []⟩]⟩,
  ⟨"PUB_HREL", 0x3000700054, [], 32, [⟨"COUNT", 31, 0, .ro, 0, .s, []⟩]⟩,
  ⟨"PUB_HDROP", 0x3000700058, [], 32, [⟨"COUNT", 31, 0, .ro, 0, .s, []⟩]⟩,
  ⟨"PUB_CORR", 0x300070005C, [], 32, [⟨"COUNT", 31, 0, .ro, 0, .s, []⟩]⟩,
  ⟨"PUB_DEFER", 0x3000700060, [], 32, [⟨"COUNT", 31, 0, .ro, 0, .s, []⟩]⟩,
  ⟨"PUB_STDN_MISS", 0x3000700064, [], 32, [⟨"COUNT", 31, 0, .ro, 0, .s, []⟩]⟩,
  ⟨"PUB_RXNOMATCH", 0x3000700068, [], 32, [⟨"COUNT", 31, 0, .ro, 0, .s, []⟩]⟩,
  ⟨"PUB_RXREJ", 0x300070006C, [], 32, [⟨"COUNT", 31, 0, .ro, 0, .s, []⟩]⟩,
  ⟨"PUB_STAGEERR", 0x3000700070, [], 32, [⟨"COUNT", 31, 0, .ro, 0, .s, []⟩]⟩]

/-- Rows of the register map of PUB. -/
def regsPub2 : List RegDesc := [
  ⟨"PUB_TOP", 0x3000700100, [(4, 32)], 32, [⟨"TOP", 31, 0, .rw, 0, .s, []⟩]⟩,
  ⟨"PUB_SO", 0x3000700200, [(4, 8)], 32, [⟨"EN", 31, 31, .rw, 0, .s, []⟩,
    ⟨"INV", 30, 30, .rw, 0, .s, []⟩,
    ⟨"SAFE", 25, 24, .rw, 2, .s, [(0, 2)]⟩,
    ⟨"PUBN", 20, 8, .rw, 0, .s, []⟩,
    ⟨"ATTR", 7, 0, .rw, 0, .s, []⟩]⟩,
  ⟨"PUB_W0", 0x3000720000, [(294912, 2), (64, 4352)], 32, [⟨"EN", 31, 31, .rw, 0, .s, []⟩,
    ⟨"KIND", 30, 28, .rw, 0, .s, [(0, 4)]⟩,
    ⟨"OWNER", 25, 16, .rw, 0, .s, []⟩,
    ⟨"HOLDPOL", 15, 15, .rw, 0, .s, []⟩,
    ⟨"SIM", 14, 14, .rw, 0, .s, []⟩,
    ⟨"AUTH_EN", 13, 13, .rw, 0, .s, []⟩,
    ⟨"KEYSLOT", 12, 0, .rw, 0, .s, []⟩]⟩,
  ⟨"PUB_W1", 0x3000720004, [(294912, 2), (64, 4352)], 32, [⟨"KINDED", 31, 0, .rw, 0, .s, []⟩]⟩,
  ⟨"PUB_W2", 0x3000720008, [(294912, 2), (64, 4352)], 32, [⟨"TMPL", 31, 0, .rw, 0, .s, []⟩]⟩,
  ⟨"PUB_W3", 0x300072000C, [(294912, 2), (64, 4352)], 32, [⟨"AMAP", 31, 0, .rw, 0, .s, []⟩]⟩,
  ⟨"PUB_W4", 0x3000720010, [(294912, 2), (64, 4352)], 32, [⟨"STAGE", 31, 0, .rw, 0, .s, []⟩]⟩,
  ⟨"PUB_W5", 0x3000720014, [(294912, 2), (64, 4352)], 32, [⟨"TC", 31, 29, .rw, 0, .s, []⟩,
    ⟨"TLEN", 26, 16, .rw, 0, .s, []⟩,
    ⟨"O_TAL", 10, 0, .rw, 0, .s, []⟩]⟩,
  ⟨"PUB_W6", 0x3000720018, [(294912, 2), (64, 4352)], 32, [⟨"O_T", 26, 16, .rw, 0, .s, []⟩,
    ⟨"O_ST", 10, 0, .rw, 0, .s, []⟩]⟩,
  ⟨"PUB_W7", 0x300072001C, [(294912, 2), (64, 4352)], 32, [⟨"O_SIM", 26, 16, .rw, 0, .s, []⟩,
    ⟨"O_SQ", 10, 0, .rw, 0, .s, []⟩]⟩,
  ⟨"PUB_STNUM", 0x30007B0000, [(16, 4352)], 32, [⟨"STNUM", 31, 0, .ro, 0, .s, []⟩]⟩,
  ⟨"PUB_SQNUM", 0x30007B0004, [(16, 4352)], 32, [⟨"SQNUM", 31, 0, .ro, 0, .s, []⟩]⟩]

/-- Rows of the register map of PUB. -/
def regsPub3 : List RegDesc := [
  ⟨"PUB_PSTATE", 0x30007B0008, [(16, 4352)], 32, [⟨"ARMED", 31, 31, .ro, 0, .s, []⟩,
    ⟨"PEND", 30, 30, .ro, 0, .s, []⟩,
    ⟨"HELD", 29, 29, .ro, 0, .s, []⟩,
    ⟨"SAFE", 28, 28, .ro, 0, .s, []⟩,
    ⟨"DEFERRED", 27, 27, .ro, 0, .s, []⟩]⟩,
  ⟨"PUB_ARMID", 0x30007B000C, [(16, 4352)], 32, [⟨"ID", 31, 0, .ro, 0, .s, []⟩]⟩,
  ⟨"PUB_RXW0", 0x30007D0000, [(32, 4096)], 32, [⟨"EN", 31, 31, .rw, 0, .s, []⟩,
    ⟨"SIMOK", 30, 30, .rw, 0, .s, []⟩,
    ⟨"AUTH_EN", 29, 29, .rw, 0, .s, []⟩,
    ⟨"REFLEN", 28, 22, .rw, 0, .s, [(1, 64)]⟩,
    ⟨"NATTR", 21, 14, .rw, 0, .s, [(1, 64)]⟩,
    ⟨"KEYSLOT", 12, 0, .rw, 0, .s, []⟩]⟩,
  ⟨"PUB_RXW1", 0x30007D0004, [(32, 4096)], 32, [⟨"DA_LO", 31, 0, .rw, 0, .s, []⟩]⟩,
  ⟨"PUB_RXW2", 0x30007D0008, [(32, 4096)], 32, [⟨"APPID", 31, 16, .rw, 0, .s, []⟩,
    ⟨"DA_HI", 15, 0, .rw, 0, .s, []⟩]⟩,
  ⟨"PUB_RXW3", 0x30007D000C, [(32, 4096)], 32, [⟨"CONFREV", 31, 0, .rw, 0, .s, []⟩]⟩,
  ⟨"PUB_RXW4", 0x30007D0010, [(32, 4096)], 32, [⟨"AMAP", 31, 0, .rw, 0, .s, []⟩]⟩,
  ⟨"PUB_RXW5", 0x30007D0014, [(32, 4096)], 32, [⟨"RXBASE", 31, 0, .rw, 0, .s, []⟩]⟩,
  ⟨"PUB_RXW6", 0x30007D0018, [(32, 4096)], 32, [⟨"EN0", 31, 31, .rw, 0, .s, []⟩,
    ⟨"EN1", 30, 30, .rw, 0, .s, []⟩,
    ⟨"TEN1", 25, 16, .rw, 0, .s, []⟩,
    ⟨"TEN0", 9, 0, .rw, 0, .s, []⟩]⟩,
  ⟨"PUB_RXW7", 0x30007D001C, [(32, 4096)], 32, [⟨"EN0", 31, 31, .rw, 0, .s, []⟩,
    ⟨"EN1", 30, 30, .rw, 0, .s, []⟩,
    ⟨"TEN1", 25, 16, .rw, 0, .s, []⟩,
    ⟨"TEN0", 9, 0, .rw, 0, .s, []⟩]⟩]

/-- The register map of PUB. -/
def regsPub : List RegDesc :=
  regsPub0 ++ regsPub1 ++ regsPub2 ++ regsPub3

end Sys2Proof.Machine
end

