-- ==== Sys2Proof/Machine/RegsRde.lean ====
section
/-!
DEFINITION. Machine/RegsRde.lean: the register map of block RDE (R52), from the field tables of its chapter: the address of
every register, the place of every field, and the table that REGISTER_WRITE and the resets read.
-/

namespace Sys2Proof.Machine


/-- RDE_CFG (R296). -/
def RDE.CFG : Nat := 0x3000400000

/-- Bits [18:16] of RDE_CFG. -/
def RDE.CFG_NETID : FieldRef := ⟨RDE.CFG, 16, 3⟩

/-- Bits [15:12] of RDE_CFG. -/
def RDE.CFG_PORTB : FieldRef := ⟨RDE.CFG, 12, 4⟩

/-- Bits [11:8] of RDE_CFG. -/
def RDE.CFG_PORTA : FieldRef := ⟨RDE.CFG, 8, 4⟩

/-- Bits [4:4] of RDE_CFG. -/
def RDE.CFG_RING_CT : FieldRef := ⟨RDE.CFG, 4, 1⟩

/-- Bits [3:3] of RDE_CFG. -/
def RDE.CFG_REDBOX : FieldRef := ⟨RDE.CFG, 3, 1⟩

/-- Bits [2:0] of RDE_CFG. -/
def RDE.CFG_MODE : FieldRef := ⟨RDE.CFG, 0, 3⟩

/-- RDE_STATE (R296). -/
def RDE.STATE : Nat := 0x300040000C

/-- Bits [9:9] of RDE_STATE. -/
def RDE.STATE_PARTNER_SEEN : FieldRef := ⟨RDE.STATE, 9, 1⟩

/-- Bits [8:6] of RDE_STATE. -/
def RDE.STATE_PARTNER : FieldRef := ⟨RDE.STATE, 6, 3⟩

/-- Bits [5:5] of RDE_STATE. -/
def RDE.STATE_H1_OK : FieldRef := ⟨RDE.STATE, 5, 1⟩

/-- Bits [4:4] of RDE_STATE. -/
def RDE.STATE_H0_OK : FieldRef := ⟨RDE.STATE, 4, 1⟩

/-- Bits [3:3] of RDE_STATE. -/
def RDE.STATE_LEADER : FieldRef := ⟨RDE.STATE, 3, 1⟩

/-- Bits [2:0] of RDE_STATE. -/
def RDE.STATE_PAIR : FieldRef := ⟨RDE.STATE, 0, 3⟩

/-- RDE_CMD (R296). -/
def RDE.CMD : Nat := 0x3000400010

/-- Bits [2:2] of RDE_CMD. -/
def RDE.CMD_CNT_CLR : FieldRef := ⟨RDE.CMD, 2, 1⟩

/-- Bits [1:1] of RDE_CMD. -/
def RDE.CMD_PROXY_FLIP : FieldRef := ⟨RDE.CMD, 1, 1⟩

/-- Bits [0:0] of RDE_CMD. -/
def RDE.CMD_DD_FLUSH : FieldRef := ⟨RDE.CMD, 0, 1⟩

/-- RDE_STATUS (R297). -/
def RDE.STATUS : Nat := 0x3000400004

/-- Bits [16:16] of RDE_STATUS. -/
def RDE.STATUS_SLOT_DEFER : FieldRef := ⟨RDE.STATUS, 16, 1⟩

/-- Bits [15:15] of RDE_STATUS. -/
def RDE.STATUS_UNVERIFIED : FieldRef := ⟨RDE.STATUS, 15, 1⟩

/-- Bits [14:14] of RDE_STATUS. -/
def RDE.STATUS_ANGLE_REFUSED : FieldRef := ⟨RDE.STATUS, 14, 1⟩

/-- Bits [13:13] of RDE_STATUS. -/
def RDE.STATUS_GRANT_MISMATCH : FieldRef := ⟨RDE.STATUS, 13, 1⟩

/-- Bits [12:12] of RDE_STATUS. -/
def RDE.STATUS_XFER_RETRY : FieldRef := ⟨RDE.STATUS, 12, 1⟩

/-- Bits [11:11] of RDE_STATUS. -/
def RDE.STATUS_DIGEST_LATE : FieldRef := ⟨RDE.STATUS, 11, 1⟩

/-- Bits [10:10] of RDE_STATUS. -/
def RDE.STATUS_DEMOTED : FieldRef := ⟨RDE.STATUS, 10, 1⟩

/-- Bits [9:9] of RDE_STATUS. -/
def RDE.STATUS_DIVERGE : FieldRef := ⟨RDE.STATUS, 9, 1⟩

/-- Bits [8:8] of RDE_STATUS. -/
def RDE.STATUS_PAIRED : FieldRef := ⟨RDE.STATUS, 8, 1⟩

/-- Bits [7:7] of RDE_STATUS. -/
def RDE.STATUS_PARTNER_FOUND : FieldRef := ⟨RDE.STATUS, 7, 1⟩

/-- Bits [6:6] of RDE_STATUS. -/
def RDE.STATUS_PARTNER_LOST : FieldRef := ⟨RDE.STATUS, 6, 1⟩

/-- Bits [5:5] of RDE_STATUS. -/
def RDE.STATUS_LANE_DOWN : FieldRef := ⟨RDE.STATUS, 5, 1⟩

/-- Bits [4:4] of RDE_STATUS. -/
def RDE.STATUS_EPOCH_REFUSED : FieldRef := ⟨RDE.STATUS, 4, 1⟩

/-- Bits [3:3] of RDE_STATUS. -/
def RDE.STATUS_RFWD_DROP : FieldRef := ⟨RDE.STATUS, 3, 1⟩

/-- Bits [2:2] of RDE_STATUS. -/
def RDE.STATUS_NOSLOT : FieldRef := ⟨RDE.STATUS, 2, 1⟩

/-- Bits [1:1] of RDE_STATUS. -/
def RDE.STATUS_WRONG_LAN : FieldRef := ⟨RDE.STATUS, 1, 1⟩

/-- Bits [0:0] of RDE_STATUS. -/
def RDE.STATUS_CFG_REFUSED : FieldRef := ⟨RDE.STATUS, 0, 1⟩

/-- RDE_ENABLE (R297). -/
def RDE.ENABLE : Nat := 0x3000400008

/-- Bits [16:16] of RDE_ENABLE. -/
def RDE.ENABLE_SLOT_DEFER : FieldRef := ⟨RDE.ENABLE, 16, 1⟩

/-- Bits [15:15] of RDE_ENABLE. -/
def RDE.ENABLE_UNVERIFIED : FieldRef := ⟨RDE.ENABLE, 15, 1⟩

/-- Bits [14:14] of RDE_ENABLE. -/
def RDE.ENABLE_ANGLE_REFUSED : FieldRef := ⟨RDE.ENABLE, 14, 1⟩

/-- Bits [13:13] of RDE_ENABLE. -/
def RDE.ENABLE_GRANT_MISMATCH : FieldRef := ⟨RDE.ENABLE, 13, 1⟩

/-- Bits [12:12] of RDE_ENABLE. -/
def RDE.ENABLE_XFER_RETRY : FieldRef := ⟨RDE.ENABLE, 12, 1⟩

/-- Bits [11:11] of RDE_ENABLE. -/
def RDE.ENABLE_DIGEST_LATE : FieldRef := ⟨RDE.ENABLE, 11, 1⟩

/-- Bits [10:10] of RDE_ENABLE. -/
def RDE.ENABLE_DEMOTED : FieldRef := ⟨RDE.ENABLE, 10, 1⟩

/-- Bits [9:9] of RDE_ENABLE. -/
def RDE.ENABLE_DIVERGE : FieldRef := ⟨RDE.ENABLE, 9, 1⟩

/-- Bits [8:8] of RDE_ENABLE. -/
def RDE.ENABLE_PAIRED : FieldRef := ⟨RDE.ENABLE, 8, 1⟩

/-- Bits [7:7] of RDE_ENABLE. -/
def RDE.ENABLE_PARTNER_FOUND : FieldRef := ⟨RDE.ENABLE, 7, 1⟩

/-- Bits [6:6] of RDE_ENABLE. -/
def RDE.ENABLE_PARTNER_LOST : FieldRef := ⟨RDE.ENABLE, 6, 1⟩

/-- Bits [5:5] of RDE_ENABLE. -/
def RDE.ENABLE_LANE_DOWN : FieldRef := ⟨RDE.ENABLE, 5, 1⟩

/-- Bits [4:4] of RDE_ENABLE. -/
def RDE.ENABLE_EPOCH_REFUSED : FieldRef := ⟨RDE.ENABLE, 4, 1⟩

/-- Bits [3:3] of RDE_ENABLE. -/
def RDE.ENABLE_RFWD_DROP : FieldRef := ⟨RDE.ENABLE, 3, 1⟩

/-- Bits [2:2] of RDE_ENABLE. -/
def RDE.ENABLE_NOSLOT : FieldRef := ⟨RDE.ENABLE, 2, 1⟩

/-- Bits [1:1] of RDE_ENABLE. -/
def RDE.ENABLE_WRONG_LAN : FieldRef := ⟨RDE.ENABLE, 1, 1⟩

/-- Bits [0:0] of RDE_ENABLE. -/
def RDE.ENABLE_CFG_REFUSED : FieldRef := ⟨RDE.ENABLE, 0, 1⟩

/-- RDE_DD_CFG (R298). -/
def RDE.DD_CFG : Nat := 0x3000400014

/-- Bits [15:0] of RDE_DD_CFG. -/
def RDE.DD_CFG_AGE : FieldRef := ⟨RDE.DD_CFG, 0, 16⟩

/-- RDE_DD_LEVEL (R298). -/
def RDE.DD_LEVEL : Nat := 0x3000400018

/-- Bits [13:0] of RDE_DD_LEVEL. -/
def RDE.DD_LEVEL_LEVEL : FieldRef := ⟨RDE.DD_LEVEL, 0, 14⟩

/-- RDE_EPOCH (R298). -/
def RDE.EPOCH : Nat := 0x300040001C

/-- Bits [0:0] of RDE_EPOCH. -/
def RDE.EPOCH_PROXY_ACT : FieldRef := ⟨RDE.EPOCH, 0, 1⟩

/-- RDE_PROXY_DRAIN0 (R298). -/
def RDE.PROXY_DRAIN0 : Nat := 0x3000400020

/-- Bits [16:0] of RDE_PROXY_DRAIN0. -/
def RDE.PROXY_DRAIN0_COUNT : FieldRef := ⟨RDE.PROXY_DRAIN0, 0, 17⟩

/-- RDE_PROXY_DRAIN1 (R298). -/
def RDE.PROXY_DRAIN1 : Nat := 0x3000400024

/-- Bits [16:0] of RDE_PROXY_DRAIN1. -/
def RDE.PROXY_DRAIN1_COUNT : FieldRef := ⟨RDE.PROXY_DRAIN1, 0, 17⟩

/-- RDE_PAIR_CFG (R298). -/
def RDE.PAIR_CFG : Nat := 0x3000400030

/-- Bits [31:24] of RDE_PAIR_CFG. -/
def RDE.PAIR_CFG_SEEKTO : FieldRef := ⟨RDE.PAIR_CFG, 24, 8⟩

/-- Bits [23:20] of RDE_PAIR_CFG. -/
def RDE.PAIR_CFG_LEAD : FieldRef := ⟨RDE.PAIR_CFG, 20, 4⟩

/-- Bits [16:4] of RDE_PAIR_CFG. -/
def RDE.PAIR_CFG_BLK : FieldRef := ⟨RDE.PAIR_CFG, 4, 13⟩

/-- Bits [1:1] of RDE_PAIR_CFG. -/
def RDE.PAIR_CFG_AUTORES : FieldRef := ⟨RDE.PAIR_CFG, 1, 1⟩

/-- Bits [0:0] of RDE_PAIR_CFG. -/
def RDE.PAIR_CFG_PREF : FieldRef := ⟨RDE.PAIR_CFG, 0, 1⟩

/-- RDE_PAIR_MAC (R298). -/
def RDE.PAIR_MAC : Nat := 0x3000400038

/-- Bits [47:0] of RDE_PAIR_MAC. -/
def RDE.PAIR_MAC_MAC : FieldRef := ⟨RDE.PAIR_MAC, 0, 48⟩

/-- RDE_PARTNER_ID (R298). -/
def RDE.PARTNER_ID : Nat := 0x3000400040

/-- Bits [63:0] of RDE_PARTNER_ID. -/
def RDE.PARTNER_ID_SERIAL : FieldRef := ⟨RDE.PARTNER_ID, 0, 64⟩

/-- RDE_PAIR_SEQ (R298). -/
def RDE.PAIR_SEQ : Nat := 0x3000400048

/-- Bits [15:0] of RDE_PAIR_SEQ. -/
def RDE.PAIR_SEQ_BASE : FieldRef := ⟨RDE.PAIR_SEQ, 0, 16⟩

/-- RDE_TCMD (R298). -/
def RDE.TCMD : Nat := 0x3000400050

/-- Bits [17:16] of RDE_TCMD. -/
def RDE.TCMD_OP : FieldRef := ⟨RDE.TCMD, 16, 2⟩

/-- Bits [9:0] of RDE_TCMD. -/
def RDE.TCMD_TENANT : FieldRef := ⟨RDE.TCMD, 0, 10⟩

/-- RDE_RXA (R299). -/
def RDE.RXA : Nat := 0x3000400100

/-- Bits [31:0] of RDE_RXA. -/
def RDE.RXA_COUNT : FieldRef := ⟨RDE.RXA, 0, 32⟩

/-- RDE_RXB (R299). -/
def RDE.RXB : Nat := 0x3000400104

/-- Bits [31:0] of RDE_RXB. -/
def RDE.RXB_COUNT : FieldRef := ⟨RDE.RXB, 0, 32⟩

/-- RDE_DUP (R299). -/
def RDE.DUP : Nat := 0x3000400108

/-- Bits [31:0] of RDE_DUP. -/
def RDE.DUP_COUNT : FieldRef := ⟨RDE.DUP, 0, 32⟩

/-- RDE_WRONGLAN (R299). -/
def RDE.WRONGLAN : Nat := 0x300040010C

/-- Bits [31:0] of RDE_WRONGLAN. -/
def RDE.WRONGLAN_COUNT : FieldRef := ⟨RDE.WRONGLAN, 0, 32⟩

/-- RDE_NOSLOT (R299). -/
def RDE.NOSLOT : Nat := 0x3000400110

/-- Bits [31:0] of RDE_NOSLOT. -/
def RDE.NOSLOT_COUNT : FieldRef := ⟨RDE.NOSLOT, 0, 32⟩

/-- RDE_OOW (R299). -/
def RDE.OOW : Nat := 0x3000400114

/-- Bits [31:0] of RDE_OOW. -/
def RDE.OOW_COUNT : FieldRef := ⟨RDE.OOW, 0, 32⟩

/-- RDE_OWN (R299). -/
def RDE.OWN : Nat := 0x3000400118

/-- Bits [31:0] of RDE_OWN. -/
def RDE.OWN_COUNT : FieldRef := ⟨RDE.OWN, 0, 32⟩

/-- RDE_RFWD_DUP (R299). -/
def RDE.RFWD_DUP : Nat := 0x300040011C

/-- Bits [31:0] of RDE_RFWD_DUP. -/
def RDE.RFWD_DUP_COUNT : FieldRef := ⟨RDE.RFWD_DUP, 0, 32⟩

/-- RDE_RFWD_DROPA (R299). -/
def RDE.RFWD_DROPA : Nat := 0x3000400120

/-- Bits [31:0] of RDE_RFWD_DROPA. -/
def RDE.RFWD_DROPA_COUNT : FieldRef := ⟨RDE.RFWD_DROPA, 0, 32⟩

/-- RDE_RFWD_DROPB (R299). -/
def RDE.RFWD_DROPB : Nat := 0x3000400124

/-- Bits [31:0] of RDE_RFWD_DROPB. -/
def RDE.RFWD_DROPB_COUNT : FieldRef := ⟨RDE.RFWD_DROPB, 0, 32⟩

/-- RDE_UNTAG (R299). -/
def RDE.UNTAG : Nat := 0x3000400128

/-- Bits [31:0] of RDE_UNTAG. -/
def RDE.UNTAG_COUNT : FieldRef := ⟨RDE.UNTAG, 0, 32⟩

/-- RDE_HB_MISS (R299). -/
def RDE.HB_MISS : Nat := 0x300040012C

/-- Bits [31:0] of RDE_HB_MISS. -/
def RDE.HB_MISS_COUNT : FieldRef := ⟨RDE.HB_MISS, 0, 32⟩

/-- RDE_DIV (R299). -/
def RDE.DIV : Nat := 0x3000400130

/-- Bits [31:0] of RDE_DIV. -/
def RDE.DIV_COUNT : FieldRef := ⟨RDE.DIV, 0, 32⟩

/-- RDE_DIG_LATE (R299). -/
def RDE.DIG_LATE : Nat := 0x3000400134

/-- Bits [31:0] of RDE_DIG_LATE. -/
def RDE.DIG_LATE_COUNT : FieldRef := ⟨RDE.DIG_LATE, 0, 32⟩

/-- RDE_XFER_RETRY (R299). -/
def RDE.XFER_RETRY : Nat := 0x3000400138

/-- Bits [31:0] of RDE_XFER_RETRY. -/
def RDE.XFER_RETRY_COUNT : FieldRef := ⟨RDE.XFER_RETRY, 0, 32⟩

/-- RDE_SLOT_DEFER (R299). -/
def RDE.SLOT_DEFER : Nat := 0x300040013C

/-- Bits [31:0] of RDE_SLOT_DEFER. -/
def RDE.SLOT_DEFER_COUNT : FieldRef := ⟨RDE.SLOT_DEFER, 0, 32⟩

/-- RDE_PAIRT (R299). -/
def RDE.PAIRT (p : Nat) : Nat := 0x3000400200 + p * 0x4

/-- Bits [31:0] of RDE_PAIRT. -/
def RDE.PAIRT_PAIR (p : Nat) : FieldRef := ⟨RDE.PAIRT p, 0, 32⟩

/-- RDE_DIVF (R299). -/
def RDE.DIVF (p : Nat) : Nat := 0x3000400280 + p * 0x4

/-- Bits [31:0] of RDE_DIVF. -/
def RDE.DIVF_DIV (p : Nat) : FieldRef := ⟨RDE.DIVF p, 0, 32⟩

/-- RDE_TST (R299). -/
def RDE.TST (p : Nat) : Nat := 0x3000400300 + p * 0x4

/-- Bits [1:0] of RDE_TST. -/
def RDE.TST_ST0 (p : Nat) : FieldRef := ⟨RDE.TST p, 0, 2⟩

/-- Bits [3:2] of RDE_TST. -/
def RDE.TST_ST1 (p : Nat) : FieldRef := ⟨RDE.TST p, 2, 2⟩

/-- Bits [5:4] of RDE_TST. -/
def RDE.TST_ST2 (p : Nat) : FieldRef := ⟨RDE.TST p, 4, 2⟩

/-- Bits [7:6] of RDE_TST. -/
def RDE.TST_ST3 (p : Nat) : FieldRef := ⟨RDE.TST p, 6, 2⟩

/-- Bits [9:8] of RDE_TST. -/
def RDE.TST_ST4 (p : Nat) : FieldRef := ⟨RDE.TST p, 8, 2⟩

/-- Bits [11:10] of RDE_TST. -/
def RDE.TST_ST5 (p : Nat) : FieldRef := ⟨RDE.TST p, 10, 2⟩

/-- Bits [13:12] of RDE_TST. -/
def RDE.TST_ST6 (p : Nat) : FieldRef := ⟨RDE.TST p, 12, 2⟩

/-- Bits [15:14] of RDE_TST. -/
def RDE.TST_ST7 (p : Nat) : FieldRef := ⟨RDE.TST p, 14, 2⟩

/-- Bits [17:16] of RDE_TST. -/
def RDE.TST_ST8 (p : Nat) : FieldRef := ⟨RDE.TST p, 16, 2⟩

/-- Bits [19:18] of RDE_TST. -/
def RDE.TST_ST9 (p : Nat) : FieldRef := ⟨RDE.TST p, 18, 2⟩

/-- Bits [21:20] of RDE_TST. -/
def RDE.TST_ST10 (p : Nat) : FieldRef := ⟨RDE.TST p, 20, 2⟩

/-- Bits [23:22] of RDE_TST. -/
def RDE.TST_ST11 (p : Nat) : FieldRef := ⟨RDE.TST p, 22, 2⟩

/-- Bits [25:24] of RDE_TST. -/
def RDE.TST_ST12 (p : Nat) : FieldRef := ⟨RDE.TST p, 24, 2⟩

/-- Bits [27:26] of RDE_TST. -/
def RDE.TST_ST13 (p : Nat) : FieldRef := ⟨RDE.TST p, 26, 2⟩

/-- Bits [29:28] of RDE_TST. -/
def RDE.TST_ST14 (p : Nat) : FieldRef := ⟨RDE.TST p, 28, 2⟩

/-- Bits [31:30] of RDE_TST. -/
def RDE.TST_ST15 (p : Nat) : FieldRef := ⟨RDE.TST p, 30, 2⟩

/-- RDE_PSLOT (R299). -/
def RDE.PSLOT (p : Nat) : Nat := 0x3000401000 + p * 0x4

/-- Bits [21:16] of RDE_PSLOT. -/
def RDE.PSLOT_PCNT (p : Nat) : FieldRef := ⟨RDE.PSLOT p, 16, 6⟩

/-- Bits [11:0] of RDE_PSLOT. -/
def RDE.PSLOT_SLOT (p : Nat) : FieldRef := ⟨RDE.PSLOT p, 0, 12⟩

/-- RDE_PROXY (R299). -/
def RDE.PROXY (p : Nat) (e : Nat) : Nat := 0x3000408000 + p * 0x1000 + e * 0x8

/-- Bits [63:63] of RDE_PROXY. -/
def RDE.PROXY_VALID (p : Nat) (e : Nat) : FieldRef := ⟨RDE.PROXY p e, 63, 1⟩

/-- Bits [47:0] of RDE_PROXY. -/
def RDE.PROXY_MAC (p : Nat) (e : Nat) : FieldRef := ⟨RDE.PROXY p e, 0, 48⟩

/-- Rows of the register map of RDE. -/
def regsRde0 : List RegDesc := [
  ⟨"RDE_CFG", 0x3000400000, [], 32, [⟨"NETID", 18, 16, .rw, 0, .s, []⟩,
    ⟨"PORTB", 15, 12, .rw, 0, .s, [(0, 9)]⟩,
    ⟨"PORTA", 11, 8, .rw, 0, .s, [(0, 9)]⟩,
    ⟨"RING_CT", 4, 4, .rw, 1, .s, []⟩,
    ⟨"REDBOX", 3, 3, .rw, 0, .s, []⟩,
    ⟨"MODE", 2, 0, .rw, 0, .s, [(0, 4)]⟩]⟩,
  ⟨"RDE_STATE", 0x300040000C, [], 32, [⟨"PARTNER_SEEN", 9, 9, .ro, 0, .s, []⟩,
    ⟨"PARTNER", 8, 6, .ro, 0, .s, []⟩,
    ⟨"H1_OK", 5, 5, .ro, 0, .s, []⟩,
    ⟨"H0_OK", 4, 4, .ro, 0, .s, []⟩,
    ⟨"LEADER", 3, 3, .ro, 0, .s, []⟩,
    ⟨"PAIR", 2, 0, .ro, 0, .s, []⟩]⟩,
  ⟨"RDE_CMD", 0x3000400010, [], 32, [⟨"CNT_CLR", 2, 2, .wo, 0, .s, []⟩,
    ⟨"PROXY_FLIP", 1, 1, .wo, 0, .s, []⟩,
    ⟨"DD_FLUSH", 0, 0, .wo, 0, .s, []⟩]⟩,
  ⟨"RDE_STATUS", 0x3000400004, [], 32, [⟨"SLOT_DEFER", 16, 16, .w1c, 0, .s, []⟩,
    ⟨"UNVERIFIED", 15, 15, .w1c, 0, .s, []⟩,
    ⟨"ANGLE_REFUSED", 14, 14, .w1c, 0, .s, []⟩,
    ⟨"GRANT_MISMATCH", 13, 13, .w1c, 0, .s, []⟩,
    ⟨"XFER_RETRY", 12, 12, .w1c, 0, .s, []⟩,
    ⟨"DIGEST_LATE", 11, 11, .w1c, 0, .s, []⟩,
    ⟨"DEMOTED", 10, 10, .w1c, 0, .s, []⟩,
    ⟨"DIVERGE", 9, 9, .w1c, 0, .s, []⟩,
    ⟨"PAIRED", 8, 8, .w1c, 0, .s, []⟩,
    ⟨"PARTNER_FOUND", 7, 7, .w1c, 0, .s, []⟩,
    ⟨"PARTNER_LOST", 6, 6, .w1c, 0, .s, []⟩,
    ⟨"LANE_DOWN", 5, 5, .w1c, 0, .s, []⟩,
    ⟨"EPOCH_REFUSED", 4, 4, .w1c, 0, .s, []⟩,
    ⟨"RFWD_DROP", 3, 3, .w1c, 0, .s, []⟩,
    ⟨"NOSLOT", 2, 2, .w1c, 0, .s, []⟩,
    ⟨"WRONG_LAN", 1, 1, .w1c, 0, .s, []⟩,
    ⟨"CFG_REFUSED", 0, 0, .w1c, 0, .s, []⟩]⟩,
  ⟨"RDE_ENABLE", 0x3000400008, [], 32, [⟨"SLOT_DEFER", 16, 16, .rw, 0, .s, []⟩,
    ⟨"UNVERIFIED", 15, 15, .rw, 0, .s, []⟩,
    ⟨"ANGLE_REFUSED", 14, 14, .rw, 0, .s, []⟩,
    ⟨"GRANT_MISMATCH", 13, 13, .rw, 0, .s, []⟩,
    ⟨"XFER_RETRY", 12, 12, .rw, 0, .s, []⟩,
    ⟨"DIGEST_LATE", 11, 11, .rw, 0, .s, []⟩,
    ⟨"DEMOTED", 10, 10, .rw, 0, .s, []⟩,
    ⟨"DIVERGE", 9, 9, .rw, 0, .s, []⟩,
    ⟨"PAIRED", 8, 8, .rw, 0, .s, []⟩,
    ⟨"PARTNER_FOUND", 7, 7, .rw, 0, .s, []⟩,
    ⟨"PARTNER_LOST", 6, 6, .rw, 0, .s, []⟩,
    ⟨"LANE_DOWN", 5, 5, .rw, 0, .s, []⟩,
    ⟨"EPOCH_REFUSED", 4, 4, .rw, 0, .s, []⟩,
    ⟨"RFWD_DROP", 3, 3, .rw, 0, .s, []⟩,
    ⟨"NOSLOT", 2, 2, .rw, 0, .s, []⟩,
    ⟨"WRONG_LAN", 1, 1, .rw, 0, .s, []⟩,
    ⟨"CFG_REFUSED", 0, 0, .rw, 0, .s, []⟩]⟩,
  ⟨"RDE_DD_CFG", 0x3000400014, [], 32, [⟨"AGE", 15, 0, .rw, 400, .s, [(10, 65535)]⟩]⟩,
  ⟨"RDE_DD_LEVEL", 0x3000400018, [], 32, [⟨"LEVEL", 13, 0, .ro, 0, .s, []⟩]⟩,
  ⟨"RDE_EPOCH", 0x300040001C, [], 32, [⟨"PROXY_ACT", 0, 0, .ro, 0, .s, []⟩]⟩,
  ⟨"RDE_PROXY_DRAIN0", 0x3000400020, [], 32, [⟨"COUNT", 16, 0, .ro, 0, .s, []⟩]⟩,
  ⟨"RDE_PROXY_DRAIN1", 0x3000400024, [], 32, [⟨"COUNT", 16, 0, .ro, 0, .s, []⟩]⟩,
  ⟨"RDE_PAIR_CFG", 0x3000400030, [], 32, [⟨"SEEKTO", 31, 24, .rw, 10, .s, [(1, 255)]⟩,
    ⟨"LEAD", 23, 20, .rw, 4, .s, [(2, 15)]⟩,
    ⟨"BLK", 16, 4, .rw, 256, .s, [(1, 4096)]⟩,
    ⟨"AUTORES", 1, 1, .rw, 0, .s, []⟩,
    ⟨"PREF", 0, 0, .rw, 0, .s, []⟩]⟩,
  ⟨"RDE_PAIR_MAC", 0x3000400038, [], 64, [⟨"MAC", 47, 0, .rw, 0, .s, []⟩]⟩]

/-- Rows of the register map of RDE. -/
def regsRde1 : List RegDesc := [
  ⟨"RDE_PARTNER_ID", 0x3000400040, [], 64, [⟨"SERIAL", 63, 0, .ro, 0, .s, []⟩]⟩,
  ⟨"RDE_PAIR_SEQ", 0x3000400048, [], 32, [⟨"BASE", 15, 0, .ro, 0, .s, []⟩]⟩,
  ⟨"RDE_TCMD", 0x3000400050, [], 32, [⟨"OP", 17, 16, .wo, 0, .s, []⟩,
    ⟨"TENANT", 9, 0, .wo, 0, .s, []⟩]⟩,
  ⟨"RDE_RXA", 0x3000400100, [], 32, [⟨"COUNT", 31, 0, .ro, 0, .s, []⟩]⟩,
  ⟨"RDE_RXB", 0x3000400104, [], 32, [⟨"COUNT", 31, 0, .ro, 0, .s, []⟩]⟩,
  ⟨"RDE_DUP", 0x3000400108, [], 32, [⟨"COUNT", 31, 0, .ro, 0, .s, []⟩]⟩,
  ⟨"RDE_WRONGLAN", 0x300040010C, [], 32, [⟨"COUNT", 31, 0, .ro, 0, .s, []⟩]⟩,
  ⟨"RDE_NOSLOT", 0x3000400110, [], 32, [⟨"COUNT", 31, 0, .ro, 0, .s, []⟩]⟩,
  ⟨"RDE_OOW", 0x3000400114, [], 32, [⟨"COUNT", 31, 0, .ro, 0, .s, []⟩]⟩,
  ⟨"RDE_OWN", 0x3000400118, [], 32, [⟨"COUNT", 31, 0, .ro, 0, .s, []⟩]⟩,
  ⟨"RDE_RFWD_DUP", 0x300040011C, [], 32, [⟨"COUNT", 31, 0, .ro, 0, .s, []⟩]⟩,
  ⟨"RDE_RFWD_DROPA", 0x3000400120, [], 32, [⟨"COUNT", 31, 0, .ro, 0, .s, []⟩]⟩]

/-- Rows of the register map of RDE. -/
def regsRde2 : List RegDesc := [
  ⟨"RDE_RFWD_DROPB", 0x3000400124, [], 32, [⟨"COUNT", 31, 0, .ro, 0, .s, []⟩]⟩,
  ⟨"RDE_UNTAG", 0x3000400128, [], 32, [⟨"COUNT", 31, 0, .ro, 0, .s, []⟩]⟩,
  ⟨"RDE_HB_MISS", 0x300040012C, [], 32, [⟨"COUNT", 31, 0, .ro, 0, .s, []⟩]⟩,
  ⟨"RDE_DIV", 0x3000400130, [], 32, [⟨"COUNT", 31, 0, .ro, 0, .s, []⟩]⟩,
  ⟨"RDE_DIG_LATE", 0x3000400134, [], 32, [⟨"COUNT", 31, 0, .ro, 0, .s, []⟩]⟩,
  ⟨"RDE_XFER_RETRY", 0x3000400138, [], 32, [⟨"COUNT", 31, 0, .ro, 0, .s, []⟩]⟩,
  ⟨"RDE_SLOT_DEFER", 0x300040013C, [], 32, [⟨"COUNT", 31, 0, .ro, 0, .s, []⟩]⟩,
  ⟨"RDE_PAIRT", 0x3000400200, [(4, 32)], 32, [⟨"PAIR", 31, 0, .rw, 0, .s, []⟩]⟩,
  ⟨"RDE_DIVF", 0x3000400280, [(4, 32)], 32, [⟨"DIV", 31, 0, .w1c, 0, .s, []⟩]⟩,
  ⟨"RDE_TST", 0x3000400300, [(4, 64)], 32, [⟨"ST0", 1, 0, .ro, 0, .s, []⟩,
    ⟨"ST1", 3, 2, .ro, 0, .s, []⟩,
    ⟨"ST2", 5, 4, .ro, 0, .s, []⟩,
    ⟨"ST3", 7, 6, .ro, 0, .s, []⟩,
    ⟨"ST4", 9, 8, .ro, 0, .s, []⟩,
    ⟨"ST5", 11, 10, .ro, 0, .s, []⟩,
    ⟨"ST6", 13, 12, .ro, 0, .s, []⟩,
    ⟨"ST7", 15, 14, .ro, 0, .s, []⟩,
    ⟨"ST8", 17, 16, .ro, 0, .s, []⟩,
    ⟨"ST9", 19, 18, .ro, 0, .s, []⟩,
    ⟨"ST10", 21, 20, .ro, 0, .s, []⟩,
    ⟨"ST11", 23, 22, .ro, 0, .s, []⟩,
    ⟨"ST12", 25, 24, .ro, 0, .s, []⟩,
    ⟨"ST13", 27, 26, .ro, 0, .s, []⟩,
    ⟨"ST14", 29, 28, .ro, 0, .s, []⟩,
    ⟨"ST15", 31, 30, .ro, 0, .s, []⟩]⟩,
  ⟨"RDE_PSLOT", 0x3000401000, [(4, 4352)], 32, [⟨"PCNT", 21, 16, .rw, 0, .s, []⟩,
    ⟨"SLOT", 11, 0, .rw, 0, .s, []⟩]⟩,
  ⟨"RDE_PROXY", 0x3000408000, [(4096, 2), (8, 512)], 64, [⟨"VALID", 63, 63, .rw, 0, .s, []⟩,
    ⟨"MAC", 47, 0, .rw, 0, .s, []⟩]⟩]

/-- The register map of RDE. -/
def regsRde : List RegDesc :=
  regsRde0 ++ regsRde1 ++ regsRde2

end Sys2Proof.Machine
end

