-- ==== Sys2Proof/Machine/RegsSec.lean ====
section
/-!
DEFINITION. Machine/RegsSec.lean: the register map of block SEC (R52), from the field tables of its chapter: the address of
every register, the place of every field, and the table that REGISTER_WRITE and the resets read.
-/

namespace Sys2Proof.Machine


/-- SEC_STATUS (R726). -/
def SEC.STATUS : Nat := 0x3000C00000

/-- Bits [9:9] of SEC_STATUS. -/
def SEC.STATUS_ZERO_DONE : FieldRef := ⟨SEC.STATUS, 9, 1⟩

/-- Bits [8:8] of SEC_STATUS. -/
def SEC.STATUS_NVS_ERR : FieldRef := ⟨SEC.STATUS, 8, 1⟩

/-- Bits [7:7] of SEC_STATUS. -/
def SEC.STATUS_ENS_DONE : FieldRef := ⟨SEC.STATUS, 7, 1⟩

/-- Bits [6:6] of SEC_STATUS. -/
def SEC.STATUS_ENG_DONE : FieldRef := ⟨SEC.STATUS, 6, 1⟩

/-- Bits [5:5] of SEC_STATUS. -/
def SEC.STATUS_LC_REFUSED : FieldRef := ⟨SEC.STATUS, 5, 1⟩

/-- Bits [4:4] of SEC_STATUS. -/
def SEC.STATUS_KEY_EXPIRED : FieldRef := ⟨SEC.STATUS, 4, 1⟩

/-- Bits [3:3] of SEC_STATUS. -/
def SEC.STATUS_KEY_UNAVAIL : FieldRef := ⟨SEC.STATUS, 3, 1⟩

/-- Bits [1:1] of SEC_STATUS. -/
def SEC.STATUS_LEVEL_REFUSED : FieldRef := ⟨SEC.STATUS, 1, 1⟩

/-- SEC_LC (R726). -/
def SEC.LC : Nat := 0x3000C00008

/-- Bits [9:8] of SEC_LC. -/
def SEC.LC_ROOT : FieldRef := ⟨SEC.LC, 8, 2⟩

/-- Bits [6:6] of SEC_LC. -/
def SEC.LC_OWNER_SET : FieldRef := ⟨SEC.LC, 6, 1⟩

/-- Bits [5:5] of SEC_LC. -/
def SEC.LC_FIELDKEYS : FieldRef := ⟨SEC.LC, 5, 1⟩

/-- Bits [4:4] of SEC_LC. -/
def SEC.LC_UNLOCKED : FieldRef := ⟨SEC.LC, 4, 1⟩

/-- Bits [2:0] of SEC_LC. -/
def SEC.LC_STATE : FieldRef := ⟨SEC.LC, 0, 3⟩

/-- SEC_LC_CMD (R726). -/
def SEC.LC_CMD : Nat := 0x3000C0000C

/-- Bits [31:16] of SEC_LC_CMD. -/
def SEC.LC_CMD_KEY : FieldRef := ⟨SEC.LC_CMD, 16, 16⟩

/-- Bits [3:0] of SEC_LC_CMD. -/
def SEC.LC_CMD_OP : FieldRef := ⟨SEC.LC_CMD, 0, 4⟩

/-- SEC_LC_RES (R726). -/
def SEC.LC_RES : Nat := 0x3000C00010

/-- Bits [3:1] of SEC_LC_RES. -/
def SEC.LC_RES_CODE : FieldRef := ⟨SEC.LC_RES, 1, 3⟩

/-- SEC_CMD (R726). -/
def SEC.CMD : Nat := 0x3000C00014

/-- Bits [1:1] of SEC_CMD. -/
def SEC.CMD_CNT_CLR : FieldRef := ⟨SEC.CMD, 1, 1⟩

/-- Bits [0:0] of SEC_CMD. -/
def SEC.CMD_ZEROISE : FieldRef := ⟨SEC.CMD, 0, 1⟩

/-- SEC_MONO (R726). -/
def SEC.MONO : Nat := 0x3000C00018

/-- Bits [63:0] of SEC_MONO. -/
def SEC.MONO_COUNT : FieldRef := ⟨SEC.MONO, 0, 64⟩

/-- SEC_KEY_CMD (R726). -/
def SEC.KEY_CMD : Nat := 0x3000C00020

/-- Bits [28:16] of SEC_KEY_CMD. -/
def SEC.KEY_CMD_SLOT : FieldRef := ⟨SEC.KEY_CMD, 16, 13⟩

/-- Bits [2:0] of SEC_KEY_CMD. -/
def SEC.KEY_CMD_OP : FieldRef := ⟨SEC.KEY_CMD, 0, 3⟩

/-- SEC_KEY_RES (R726). -/
def SEC.KEY_RES : Nat := 0x3000C00024

/-- Bits [3:1] of SEC_KEY_RES. -/
def SEC.KEY_RES_CODE : FieldRef := ⟨SEC.KEY_RES, 1, 3⟩

/-- SEC_KEY_ATTR (R726). -/
def SEC.KEY_ATTR : Nat := 0x3000C00028

/-- Bits [31:29] of SEC_KEY_ATTR. -/
def SEC.KEY_ATTR_ALG : FieldRef := ⟨SEC.KEY_ATTR, 29, 3⟩

/-- Bits [28:28] of SEC_KEY_ATTR. -/
def SEC.KEY_ATTR_OWNED : FieldRef := ⟨SEC.KEY_ATTR, 28, 1⟩

/-- Bits [25:16] of SEC_KEY_ATTR. -/
def SEC.KEY_ATTR_OWNER : FieldRef := ⟨SEC.KEY_ATTR, 16, 10⟩

/-- Bits [13:13] of SEC_KEY_ATTR. -/
def SEC.KEY_ATTR_EXPIRED : FieldRef := ⟨SEC.KEY_ATTR, 13, 1⟩

/-- Bits [12:12] of SEC_KEY_ATTR. -/
def SEC.KEY_ATTR_VALID : FieldRef := ⟨SEC.KEY_ATTR, 12, 1⟩

/-- Bits [2:0] of SEC_KEY_ATTR. -/
def SEC.KEY_ATTR_USAGE : FieldRef := ⟨SEC.KEY_ATTR, 0, 3⟩

/-- SEC_KEY_EXP (R726). -/
def SEC.KEY_EXP : Nat := 0x3000C0002C

/-- Bits [31:0] of SEC_KEY_EXP. -/
def SEC.KEY_EXP_EXPIRY : FieldRef := ⟨SEC.KEY_EXP, 0, 32⟩

/-- SEC_KEY_ID (R726). -/
def SEC.KEY_ID : Nat := 0x3000C00030

/-- Bits [31:0] of SEC_KEY_ID. -/
def SEC.KEY_ID_KEYID : FieldRef := ⟨SEC.KEY_ID, 0, 32⟩

/-- SEC_KEY_NEXT (R726). -/
def SEC.KEY_NEXT : Nat := 0x3000C00034

/-- Bits [31:31] of SEC_KEY_NEXT. -/
def SEC.KEY_NEXT_NEXT_EN : FieldRef := ⟨SEC.KEY_NEXT, 31, 1⟩

/-- Bits [12:0] of SEC_KEY_NEXT. -/
def SEC.KEY_NEXT_NEXT : FieldRef := ⟨SEC.KEY_NEXT, 0, 13⟩

/-- SEC_KEYUNAVAIL (R726). -/
def SEC.KEYUNAVAIL : Nat := 0x3000C00060

/-- Bits [31:0] of SEC_KEYUNAVAIL. -/
def SEC.KEYUNAVAIL_COUNT : FieldRef := ⟨SEC.KEYUNAVAIL, 0, 32⟩

/-- SEC_MR_EXT (R726). -/
def SEC.MR_EXT : Nat := 0x3000C00080

/-- Bits [3:0] of SEC_MR_EXT. -/
def SEC.MR_EXT_INDEX : FieldRef := ⟨SEC.MR_EXT, 0, 4⟩

/-- SEC_TDIG_CMD (R726). -/
def SEC.TDIG_CMD : Nat := 0x3000C00088

/-- Bits [20:20] of SEC_TDIG_CMD. -/
def SEC.TDIG_CMD_SLOT : FieldRef := ⟨SEC.TDIG_CMD, 20, 1⟩

/-- Bits [17:16] of SEC_TDIG_CMD. -/
def SEC.TDIG_CMD_OP : FieldRef := ⟨SEC.TDIG_CMD, 16, 2⟩

/-- Bits [9:0] of SEC_TDIG_CMD. -/
def SEC.TDIG_CMD_TENANT : FieldRef := ⟨SEC.TDIG_CMD, 0, 10⟩

/-- SEC_TDIG_RES (R726). -/
def SEC.TDIG_RES : Nat := 0x3000C0008C

/-- Bits [3:1] of SEC_TDIG_RES. -/
def SEC.TDIG_RES_CODE : FieldRef := ⟨SEC.TDIG_RES, 1, 3⟩

/-- SEC_ENG_CMD (R726). -/
def SEC.ENG_CMD : Nat := 0x3000C000A0

/-- Bits [28:16] of SEC_ENG_CMD. -/
def SEC.ENG_CMD_SLOT : FieldRef := ⟨SEC.ENG_CMD, 16, 13⟩

/-- Bits [9:8] of SEC_ENG_CMD. -/
def SEC.ENG_CMD_TAILB : FieldRef := ⟨SEC.ENG_CMD, 8, 2⟩

/-- Bits [2:0] of SEC_ENG_CMD. -/
def SEC.ENG_CMD_OP : FieldRef := ⟨SEC.ENG_CMD, 0, 3⟩

/-- SEC_ENG_RES (R726). -/
def SEC.ENG_RES : Nat := 0x3000C000A4

/-- Bits [3:1] of SEC_ENG_RES. -/
def SEC.ENG_RES_CODE : FieldRef := ⟨SEC.ENG_RES, 1, 3⟩

/-- SEC_ENG_DIN (R726). -/
def SEC.ENG_DIN : Nat := 0x3000C000A8

/-- Bits [31:0] of SEC_ENG_DIN. -/
def SEC.ENG_DIN_DATA : FieldRef := ⟨SEC.ENG_DIN, 0, 32⟩

/-- SEC_ENS_CMD (R726). -/
def SEC.ENS_CMD : Nat := 0x3000C000B0

/-- Bits [0:0] of SEC_ENS_CMD. -/
def SEC.ENS_CMD_GO : FieldRef := ⟨SEC.ENS_CMD, 0, 1⟩

/-- SEC_ENS_RES (R726). -/
def SEC.ENS_RES : Nat := 0x3000C000B4

/-- Bits [3:1] of SEC_ENS_RES. -/
def SEC.ENS_RES_CODE : FieldRef := ⟨SEC.ENS_RES, 1, 3⟩

/-- SEC_ENABLE (R726). -/
def SEC.ENABLE : Nat := 0x3000C00004

/-- Bits [9:9] of SEC_ENABLE. -/
def SEC.ENABLE_ZERO_DONE : FieldRef := ⟨SEC.ENABLE, 9, 1⟩

/-- Bits [8:8] of SEC_ENABLE. -/
def SEC.ENABLE_NVS_ERR : FieldRef := ⟨SEC.ENABLE, 8, 1⟩

/-- Bits [7:7] of SEC_ENABLE. -/
def SEC.ENABLE_ENS_DONE : FieldRef := ⟨SEC.ENABLE, 7, 1⟩

/-- Bits [6:6] of SEC_ENABLE. -/
def SEC.ENABLE_ENG_DONE : FieldRef := ⟨SEC.ENABLE, 6, 1⟩

/-- Bits [5:5] of SEC_ENABLE. -/
def SEC.ENABLE_LC_REFUSED : FieldRef := ⟨SEC.ENABLE, 5, 1⟩

/-- Bits [4:4] of SEC_ENABLE. -/
def SEC.ENABLE_KEY_EXPIRED : FieldRef := ⟨SEC.ENABLE, 4, 1⟩

/-- Bits [3:3] of SEC_ENABLE. -/
def SEC.ENABLE_KEY_UNAVAIL : FieldRef := ⟨SEC.ENABLE, 3, 1⟩

/-- Bits [1:1] of SEC_ENABLE. -/
def SEC.ENABLE_LEVEL_REFUSED : FieldRef := ⟨SEC.ENABLE, 1, 1⟩

/-- SEC_KEY_D (R726). -/
def SEC.KEY_D (p : Nat) : Nat := 0x3000C00040 + p * 0x4

/-- Bits [31:0] of SEC_KEY_D. -/
def SEC.KEY_D_DATA (p : Nat) : FieldRef := ⟨SEC.KEY_D p, 0, 32⟩

/-- SEC_ENS_NONCE (R726). -/
def SEC.ENS_NONCE (p : Nat) : Nat := 0x3000C000C0 + p * 0x4

/-- Bits [31:0] of SEC_ENS_NONCE. -/
def SEC.ENS_NONCE_NONCE (p : Nat) : FieldRef := ⟨SEC.ENS_NONCE p, 0, 32⟩

/-- SEC_X_D (R726). -/
def SEC.X_D (p : Nat) : Nat := 0x3000C00100 + p * 0x4

/-- Bits [31:0] of SEC_X_D. -/
def SEC.X_D_DATA (p : Nat) : FieldRef := ⟨SEC.X_D p, 0, 32⟩

/-- SEC_ENS_BUF (R726). -/
def SEC.ENS_BUF (p : Nat) : Nat := 0x3000C01000 + p * 0x4

/-- Bits [31:0] of SEC_ENS_BUF. -/
def SEC.ENS_BUF_DATA (p : Nat) : FieldRef := ⟨SEC.ENS_BUF p, 0, 32⟩

/-- SEC_ENS_PUB (R726). -/
def SEC.ENS_PUB (p : Nat) : Nat := 0x3000C01400 + p * 0x4

/-- Bits [31:0] of SEC_ENS_PUB. -/
def SEC.ENS_PUB_PUB (p : Nat) : FieldRef := ⟨SEC.ENS_PUB p, 0, 32⟩

/-- SEC_MR (R726). -/
def SEC.MR (p : Nat) (e : Nat) : Nat := 0x3000C00800 + p * 0x30 + e * 0x4

/-- Bits [31:0] of SEC_MR. -/
def SEC.MR_MR (p : Nat) (e : Nat) : FieldRef := ⟨SEC.MR p e, 0, 32⟩

/-- Rows of the register map of SEC. -/
def regsSec0 : List RegDesc := [
  ⟨"SEC_STATUS", 0x3000C00000, [], 32, [⟨"ZERO_DONE", 9, 9, .w1c, 0, .s, []⟩,
    ⟨"NVS_ERR", 8, 8, .w1c, 0, .s, []⟩,
    ⟨"ENS_DONE", 7, 7, .w1c, 0, .s, []⟩,
    ⟨"ENG_DONE", 6, 6, .w1c, 0, .s, []⟩,
    ⟨"LC_REFUSED", 5, 5, .w1c, 0, .s, []⟩,
    ⟨"KEY_EXPIRED", 4, 4, .w1c, 0, .s, []⟩,
    ⟨"KEY_UNAVAIL", 3, 3, .w1c, 0, .s, []⟩,
    ⟨"LEVEL_REFUSED", 1, 1, .w1c, 0, .s, []⟩]⟩,
  ⟨"SEC_LC", 0x3000C00008, [], 32, [⟨"ROOT", 9, 8, .ro, 0, .n, []⟩,
    ⟨"OWNER_SET", 6, 6, .ro, 0, .n, []⟩,
    ⟨"FIELDKEYS", 5, 5, .ro, 0, .p, []⟩,
    ⟨"UNLOCKED", 4, 4, .ro, 0, .n, []⟩,
    ⟨"STATE", 2, 0, .ro, 0, .n, []⟩]⟩,
  ⟨"SEC_LC_CMD", 0x3000C0000C, [], 32, [⟨"KEY", 31, 16, .wo, 0, .s, []⟩,
    ⟨"OP", 3, 0, .wo, 0, .s, []⟩]⟩,
  ⟨"SEC_LC_RES", 0x3000C00010, [], 32, [⟨"CODE", 3, 1, .ro, 0, .s, []⟩]⟩,
  ⟨"SEC_CMD", 0x3000C00014, [], 32, [⟨"CNT_CLR", 1, 1, .wo, 0, .s, []⟩,
    ⟨"ZEROISE", 0, 0, .wo, 0, .s, []⟩]⟩,
  ⟨"SEC_MONO", 0x3000C00018, [], 64, [⟨"COUNT", 63, 0, .ro, 0, .n, []⟩]⟩,
  ⟨"SEC_KEY_CMD", 0x3000C00020, [], 32, [⟨"SLOT", 28, 16, .wo, 0, .s, []⟩,
    ⟨"OP", 2, 0, .wo, 0, .s, []⟩]⟩,
  ⟨"SEC_KEY_RES", 0x3000C00024, [], 32, [⟨"CODE", 3, 1, .ro, 0, .s, []⟩]⟩,
  ⟨"SEC_KEY_ATTR", 0x3000C00028, [], 32, [⟨"ALG", 31, 29, .rw, 0, .s, [(0, 3)]⟩,
    ⟨"OWNED", 28, 28, .rw, 0, .s, []⟩,
    ⟨"OWNER", 25, 16, .rw, 0, .s, []⟩,
    ⟨"EXPIRED", 13, 13, .ro, 0, .s, []⟩,
    ⟨"VALID", 12, 12, .ro, 0, .s, []⟩,
    ⟨"USAGE", 2, 0, .rw, 0, .s, []⟩]⟩,
  ⟨"SEC_KEY_EXP", 0x3000C0002C, [], 32, [⟨"EXPIRY", 31, 0, .rw, 0, .s, []⟩]⟩,
  ⟨"SEC_KEY_ID", 0x3000C00030, [], 32, [⟨"KEYID", 31, 0, .rw, 0, .s, []⟩]⟩,
  ⟨"SEC_KEY_NEXT", 0x3000C00034, [], 32, [⟨"NEXT_EN", 31, 31, .rw, 0, .s, []⟩,
    ⟨"NEXT", 12, 0, .rw, 0, .s, []⟩]⟩]

/-- Rows of the register map of SEC. -/
def regsSec1 : List RegDesc := [
  ⟨"SEC_KEYUNAVAIL", 0x3000C00060, [], 32, [⟨"COUNT", 31, 0, .ro, 0, .s, []⟩]⟩,
  ⟨"SEC_MR_EXT", 0x3000C00080, [], 32, [⟨"INDEX", 3, 0, .wo, 0, .s, []⟩]⟩,
  ⟨"SEC_TDIG_CMD", 0x3000C00088, [], 32, [⟨"SLOT", 20, 20, .wo, 0, .s, []⟩,
    ⟨"OP", 17, 16, .wo, 0, .s, []⟩,
    ⟨"TENANT", 9, 0, .wo, 0, .s, []⟩]⟩,
  ⟨"SEC_TDIG_RES", 0x3000C0008C, [], 32, [⟨"CODE", 3, 1, .ro, 0, .s, []⟩]⟩,
  ⟨"SEC_ENG_CMD", 0x3000C000A0, [], 32, [⟨"SLOT", 28, 16, .wo, 0, .s, []⟩,
    ⟨"TAILB", 9, 8, .wo, 0, .s, []⟩,
    ⟨"OP", 2, 0, .wo, 0, .s, []⟩]⟩,
  ⟨"SEC_ENG_RES", 0x3000C000A4, [], 32, [⟨"CODE", 3, 1, .ro, 0, .s, []⟩]⟩,
  ⟨"SEC_ENG_DIN", 0x3000C000A8, [], 32, [⟨"DATA", 31, 0, .wo, 0, .s, []⟩]⟩,
  ⟨"SEC_ENS_CMD", 0x3000C000B0, [], 32, [⟨"GO", 0, 0, .wo, 0, .s, []⟩]⟩,
  ⟨"SEC_ENS_RES", 0x3000C000B4, [], 32, [⟨"CODE", 3, 1, .ro, 0, .s, []⟩]⟩,
  ⟨"SEC_ENABLE", 0x3000C00004, [], 32, [⟨"ZERO_DONE", 9, 9, .rw, 0, .s, []⟩,
    ⟨"NVS_ERR", 8, 8, .rw, 0, .s, []⟩,
    ⟨"ENS_DONE", 7, 7, .rw, 0, .s, []⟩,
    ⟨"ENG_DONE", 6, 6, .rw, 0, .s, []⟩,
    ⟨"LC_REFUSED", 5, 5, .rw, 0, .s, []⟩,
    ⟨"KEY_EXPIRED", 4, 4, .rw, 0, .s, []⟩,
    ⟨"KEY_UNAVAIL", 3, 3, .rw, 0, .s, []⟩,
    ⟨"LEVEL_REFUSED", 1, 1, .rw, 0, .s, []⟩]⟩,
  ⟨"SEC_KEY_D", 0x3000C00040, [(4, 8)], 32, [⟨"DATA", 31, 0, .wo, 0, .s, []⟩]⟩,
  ⟨"SEC_ENS_NONCE", 0x3000C000C0, [(4, 8)], 32, [⟨"NONCE", 31, 0, .rw, 0, .s, []⟩]⟩]

/-- Rows of the register map of SEC. -/
def regsSec2 : List RegDesc := [
  ⟨"SEC_X_D", 0x3000C00100, [(4, 64)], 32, [⟨"DATA", 31, 0, .rw, 0, .s, []⟩]⟩,
  ⟨"SEC_ENS_BUF", 0x3000C01000, [(4, 256)], 32, [⟨"DATA", 31, 0, .ro, 0, .s, []⟩]⟩,
  ⟨"SEC_ENS_PUB", 0x3000C01400, [(4, 24)], 32, [⟨"PUB", 31, 0, .ro, 0, .s, []⟩]⟩,
  ⟨"SEC_MR", 0x3000C00800, [(48, 16), (4, 12)], 32, [⟨"MR", 31, 0, .ro, 0, .s, []⟩]⟩]

/-- The register map of SEC. -/
def regsSec : List RegDesc :=
  regsSec0 ++ regsSec1 ++ regsSec2

end Sys2Proof.Machine
end

