-- ==== Sys2Proof/Machine/RegsSup.lean ====
section
/-!
DEFINITION. Machine/RegsSup.lean: the register map of block SUP (R52), from the field tables of its chapter: the address of
every register, the place of every field, and the table that REGISTER_WRITE and the resets read.
-/

namespace Sys2Proof.Machine


/-- SUP_STATUS (R758). -/
def SUP.STATUS : Nat := 0x3000B00000

/-- Bits [1:1] of SUP_STATUS. -/
def SUP.STATUS_NVS_ERR : FieldRef := ⟨SUP.STATUS, 1, 1⟩

/-- Bits [0:0] of SUP_STATUS. -/
def SUP.STATUS_NVS_DONE : FieldRef := ⟨SUP.STATUS, 0, 1⟩

/-- SUP_NVS_CMD (R758). -/
def SUP.NVS_CMD : Nat := 0x3000B00010

/-- Bits [21:20] of SUP_NVS_CMD. -/
def SUP.NVS_CMD_INDEX : FieldRef := ⟨SUP.NVS_CMD, 20, 2⟩

/-- Bits [2:0] of SUP_NVS_CMD. -/
def SUP.NVS_CMD_OP : FieldRef := ⟨SUP.NVS_CMD, 0, 3⟩

/-- SUP_NVS_RES (R758). -/
def SUP.NVS_RES : Nat := 0x3000B00014

/-- Bits [3:1] of SUP_NVS_RES. -/
def SUP.NVS_RES_CODE : FieldRef := ⟨SUP.NVS_RES, 1, 3⟩

/-- Bits [0:0] of SUP_NVS_RES. -/
def SUP.NVS_RES_BUSY : FieldRef := ⟨SUP.NVS_RES, 0, 1⟩

/-- SUP_NVS_ADDR (R758). -/
def SUP.NVS_ADDR : Nat := 0x3000B00018

/-- Bits [29:0] of SUP_NVS_ADDR. -/
def SUP.NVS_ADDR_ADDR : FieldRef := ⟨SUP.NVS_ADDR, 0, 30⟩

/-- SUP_NVS_SRC (R758). -/
def SUP.NVS_SRC : Nat := 0x3000B00020

/-- Bits [39:0] of SUP_NVS_SRC. -/
def SUP.NVS_SRC_SRC : FieldRef := ⟨SUP.NVS_SRC, 0, 40⟩

/-- SUP_NVS_LEN (R758). -/
def SUP.NVS_LEN : Nat := 0x3000B00028

/-- Bits [30:0] of SUP_NVS_LEN. -/
def SUP.NVS_LEN_LEN : FieldRef := ⟨SUP.NVS_LEN, 0, 31⟩

/-- SUP_NVS_WEAR (R758). -/
def SUP.NVS_WEAR : Nat := 0x3000B0002C

/-- Bits [7:0] of SUP_NVS_WEAR. -/
def SUP.NVS_WEAR_PCT : FieldRef := ⟨SUP.NVS_WEAR, 0, 8⟩

/-- SUP_BOOTSVN (R758). -/
def SUP.BOOTSVN : Nat := 0x3000B00030

/-- Bits [19:16] of SUP_BOOTSVN. -/
def SUP.BOOTSVN_BKD_SET : FieldRef := ⟨SUP.BOOTSVN, 16, 4⟩

/-- Bits [15:0] of SUP_BOOTSVN. -/
def SUP.BOOTSVN_SVN : FieldRef := ⟨SUP.BOOTSVN, 0, 16⟩

/-- SUP_ENABLE (R758). -/
def SUP.ENABLE : Nat := 0x3000B00004

/-- Bits [1:1] of SUP_ENABLE. -/
def SUP.ENABLE_NVS_ERR : FieldRef := ⟨SUP.ENABLE, 1, 1⟩

/-- Bits [0:0] of SUP_ENABLE. -/
def SUP.ENABLE_NVS_DONE : FieldRef := ⟨SUP.ENABLE, 0, 1⟩

/-- SUP_BKD (R758). -/
def SUP.BKD (p : Nat) (e : Nat) : Nat := 0x3000B00100 + p * 0x30 + e * 0x4

/-- Bits [31:0] of SUP_BKD. -/
def SUP.BKD_DIGEST (p : Nat) (e : Nat) : FieldRef := ⟨SUP.BKD p e, 0, 32⟩

/-- SUP_IC_SRC (R561). -/
def SUP.IC_SRC (p : Nat) : Nat := 0x3000B40000 + p * 0x4

/-- Bits [31:31] of SUP_IC_SRC. -/
def SUP.IC_SRC_EN (p : Nat) : FieldRef := ⟨SUP.IC_SRC p, 31, 1⟩

/-- Bits [30:30] of SUP_IC_SRC. -/
def SUP.IC_SRC_PLAT (p : Nat) : FieldRef := ⟨SUP.IC_SRC p, 30, 1⟩

/-- Bits [5:4] of SUP_IC_SRC. -/
def SUP.IC_SRC_TARGET (p : Nat) : FieldRef := ⟨SUP.IC_SRC p, 4, 2⟩

/-- Bits [3:0] of SUP_IC_SRC. -/
def SUP.IC_SRC_PRIO (p : Nat) : FieldRef := ⟨SUP.IC_SRC p, 0, 4⟩

/-- SUP_IC_PEND (R561). -/
def SUP.IC_PEND (p : Nat) : Nat := 0x3000B41000 + p * 0x4

/-- Bits [31:0] of SUP_IC_PEND. -/
def SUP.IC_PEND_PEND (p : Nat) : FieldRef := ⟨SUP.IC_PEND p, 0, 32⟩

/-- SUP_DB (R561). -/
def SUP.DB (p : Nat) : Nat := 0x3000B41080 + p * 0x4

/-- Bits [31:0] of SUP_DB. -/
def SUP.DB_DB (p : Nat) : FieldRef := ⟨SUP.DB p, 0, 32⟩

/-- SUP_DBEN (R561). -/
def SUP.DBEN (p : Nat) : Nat := 0x3000B41100 + p * 0x4

/-- Bits [31:0] of SUP_DBEN. -/
def SUP.DBEN_DBEN (p : Nat) : FieldRef := ⟨SUP.DBEN p, 0, 32⟩

/-- SUP_SWI_SET (R561). -/
def SUP.SWI_SET : Nat := 0x3000B41180

/-- Bits [9:0] of SUP_SWI_SET. -/
def SUP.SWI_SET_SRC : FieldRef := ⟨SUP.SWI_SET, 0, 10⟩

/-- SUP_SWI_CLR (R561). -/
def SUP.SWI_CLR : Nat := 0x3000B41184

/-- Bits [9:0] of SUP_SWI_CLR. -/
def SUP.SWI_CLR_SRC : FieldRef := ⟨SUP.SWI_CLR, 0, 10⟩

/-- SUP_IC_INSVC (R561). -/
def SUP.IC_INSVC (p : Nat) (e : Nat) : Nat := 0x3000B42000 + p * 0x100 + e * 0x80

/-- Bits [15:1] of SUP_IC_INSVC. -/
def SUP.IC_INSVC_INSVC (p : Nat) (e : Nat) : FieldRef := ⟨SUP.IC_INSVC p e, 1, 15⟩

/-- SUP_IC_FLOOR (R561). -/
def SUP.IC_FLOOR (p : Nat) (e : Nat) : Nat := 0x3000B42004 + p * 0x100 + e * 0x80

/-- Bits [3:0] of SUP_IC_FLOOR. -/
def SUP.IC_FLOOR_FLOOR (p : Nat) (e : Nat) : FieldRef := ⟨SUP.IC_FLOOR p e, 0, 4⟩

/-- SUP_IC_INS (R561). -/
def SUP.IC_INS (p : Nat) (e : Nat) (i : Nat) : Nat := 0x3000B42044 + p * 0x100 + e * 0x80 + i * 0x4

/-- Bits [31:31] of SUP_IC_INS. -/
def SUP.IC_INS_VALID (p : Nat) (e : Nat) (i : Nat) : FieldRef := ⟨SUP.IC_INS p e i, 31, 1⟩

/-- Bits [9:0] of SUP_IC_INS. -/
def SUP.IC_INS_SRC (p : Nat) (e : Nat) (i : Nat) : FieldRef := ⟨SUP.IC_INS p e i, 0, 10⟩

/-- Rows of the register map of SUP. -/
def regsSup0 : List RegDesc := [
  ⟨"SUP_STATUS", 0x3000B00000, [], 32, [⟨"NVS_ERR", 1, 1, .w1c, 0, .s, []⟩,
    ⟨"NVS_DONE", 0, 0, .w1c, 0, .s, []⟩]⟩,
  ⟨"SUP_NVS_CMD", 0x3000B00010, [], 32, [⟨"INDEX", 21, 20, .wo, 0, .s, []⟩,
    ⟨"OP", 2, 0, .wo, 0, .s, []⟩]⟩,
  ⟨"SUP_NVS_RES", 0x3000B00014, [], 32, [⟨"CODE", 3, 1, .ro, 0, .s, []⟩,
    ⟨"BUSY", 0, 0, .ro, 0, .s, []⟩]⟩,
  ⟨"SUP_NVS_ADDR", 0x3000B00018, [], 32, [⟨"ADDR", 29, 0, .rw, 0, .s, []⟩]⟩,
  ⟨"SUP_NVS_SRC", 0x3000B00020, [], 64, [⟨"SRC", 39, 0, .rw, 0, .s, []⟩]⟩,
  ⟨"SUP_NVS_LEN", 0x3000B00028, [], 32, [⟨"LEN", 30, 0, .rw, 0, .s, [(4096, 1073741824)]⟩]⟩,
  ⟨"SUP_NVS_WEAR", 0x3000B0002C, [], 32, [⟨"PCT", 7, 0, .ro, 0, .s, []⟩]⟩,
  ⟨"SUP_BOOTSVN", 0x3000B00030, [], 32, [⟨"BKD_SET", 19, 16, .ro, 0, .n, []⟩,
    ⟨"SVN", 15, 0, .rw, 0, .n, []⟩]⟩,
  ⟨"SUP_ENABLE", 0x3000B00004, [], 32, [⟨"NVS_ERR", 1, 1, .rw, 0, .s, []⟩,
    ⟨"NVS_DONE", 0, 0, .rw, 0, .s, []⟩]⟩,
  ⟨"SUP_BKD", 0x3000B00100, [(48, 4), (4, 12)], 32, [⟨"DIGEST", 31, 0, .ro, 0, .n, []⟩]⟩,
  ⟨"SUP_IC_SRC", 0x3000B40000, [(4, 1024)], 32, [⟨"EN", 31, 31, .rw, 0, .s, []⟩,
    ⟨"PLAT", 30, 30, .rw, 0, .s, []⟩,
    ⟨"TARGET", 5, 4, .rw, 0, .s, []⟩,
    ⟨"PRIO", 3, 0, .rw, 0, .s, []⟩]⟩,
  ⟨"SUP_IC_PEND", 0x3000B41000, [(4, 32)], 32, [⟨"PEND", 31, 0, .ro, 0, .s, []⟩]⟩]

/-- Rows of the register map of SUP. -/
def regsSup1 : List RegDesc := [
  ⟨"SUP_DB", 0x3000B41080, [(4, 32)], 32, [⟨"DB", 31, 0, .w1c, 0, .s, []⟩]⟩,
  ⟨"SUP_DBEN", 0x3000B41100, [(4, 32)], 32, [⟨"DBEN", 31, 0, .rw, 0, .s, []⟩]⟩,
  ⟨"SUP_SWI_SET", 0x3000B41180, [], 32, [⟨"SRC", 9, 0, .wo, 0, .s, []⟩]⟩,
  ⟨"SUP_SWI_CLR", 0x3000B41184, [], 32, [⟨"SRC", 9, 0, .wo, 0, .s, []⟩]⟩,
  ⟨"SUP_IC_INSVC", 0x3000B42000, [(256, 4), (128, 2)], 32, [⟨"INSVC", 15, 1, .w1c, 0, .s, []⟩]⟩,
  ⟨"SUP_IC_FLOOR", 0x3000B42004, [(256, 4), (128, 2)], 32, [⟨"FLOOR", 3, 0, .rw, 1, .s, [(1, 15)]⟩]⟩,
  ⟨"SUP_IC_INS", 0x3000B42044, [(256, 4), (128, 2), (4, 15)], 32, [⟨"VALID", 31, 31, .ro, 0, .s, []⟩,
    ⟨"SRC", 9, 0, .ro, 0, .s, []⟩]⟩]

/-- The register map of SUP. -/
def regsSup : List RegDesc :=
  regsSup0 ++ regsSup1

end Sys2Proof.Machine
end

