-- ==== Sys2Proof/Machine/RegsSvc.lean ====
section
/-!
DEFINITION. Machine/RegsSvc.lean: the register map of block SVC (R52), from the field tables of its chapter: the address of
every register, the place of every field, and the table that REGISTER_WRITE and the resets read.
-/

namespace Sys2Proof.Machine


/-- SVC_CTL (R343). -/
def SVC.CTL : Nat := 0x3000500000

/-- Bits [0:0] of SVC_CTL. -/
def SVC.CTL_EN : FieldRef := ⟨SVC.CTL, 0, 1⟩

/-- SVC_STATUS (R343). -/
def SVC.STATUS : Nat := 0x3000500004

/-- Bits [12:12] of SVC_STATUS. -/
def SVC.STATUS_DUP : FieldRef := ⟨SVC.STATUS, 12, 1⟩

/-- Bits [11:11] of SVC_STATUS. -/
def SVC.STATUS_SYNC_CHANGE : FieldRef := ⟨SVC.STATUS, 11, 1⟩

/-- Bits [10:10] of SVC_STATUS. -/
def SVC.STATUS_LATE : FieldRef := ⟨SVC.STATUS, 10, 1⟩

/-- Bits [9:9] of SVC_STATUS. -/
def SVC.STATUS_CORRECTION : FieldRef := ⟨SVC.STATUS, 9, 1⟩

/-- Bits [8:8] of SVC_STATUS. -/
def SVC.STATUS_STREAM_LOST : FieldRef := ⟨SVC.STATUS, 8, 1⟩

/-- Bits [7:7] of SVC_STATUS. -/
def SVC.STATUS_FILL : FieldRef := ⟨SVC.STATUS, 7, 1⟩

/-- Bits [6:6] of SVC_STATUS. -/
def SVC.STATUS_MISSING : FieldRef := ⟨SVC.STATUS, 6, 1⟩

/-- Bits [5:5] of SVC_STATUS. -/
def SVC.STATUS_FMT_ERR : FieldRef := ⟨SVC.STATUS, 5, 1⟩

/-- Bits [4:4] of SVC_STATUS. -/
def SVC.STATUS_AUTHFAIL : FieldRef := ⟨SVC.STATUS, 4, 1⟩

/-- Bits [3:3] of SVC_STATUS. -/
def SVC.STATUS_REJECT : FieldRef := ⟨SVC.STATUS, 3, 1⟩

/-- Bits [2:2] of SVC_STATUS. -/
def SVC.STATUS_NOMATCH : FieldRef := ⟨SVC.STATUS, 2, 1⟩

/-- Bits [1:1] of SVC_STATUS. -/
def SVC.STATUS_EPOCH_REFUSED : FieldRef := ⟨SVC.STATUS, 1, 1⟩

/-- Bits [0:0] of SVC_STATUS. -/
def SVC.STATUS_CFG_REFUSED : FieldRef := ⟨SVC.STATUS, 0, 1⟩

/-- SVC_CMD (R343). -/
def SVC.CMD : Nat := 0x300050000C

/-- Bits [1:1] of SVC_CMD. -/
def SVC.CMD_CNT_CLR : FieldRef := ⟨SVC.CMD, 1, 1⟩

/-- Bits [0:0] of SVC_CMD. -/
def SVC.CMD_SUB_FLIP : FieldRef := ⟨SVC.CMD, 0, 1⟩

/-- SVC_EPOCH (R343). -/
def SVC.EPOCH : Nat := 0x3000500010

/-- Bits [0:0] of SVC_EPOCH. -/
def SVC.EPOCH_SUB_ACT : FieldRef := ⟨SVC.EPOCH, 0, 1⟩

/-- SVC_SUB_DRAIN0 (R343). -/
def SVC.SUB_DRAIN0 : Nat := 0x3000500014

/-- Bits [16:0] of SVC_SUB_DRAIN0. -/
def SVC.SUB_DRAIN0_COUNT : FieldRef := ⟨SVC.SUB_DRAIN0, 0, 17⟩

/-- SVC_SUB_DRAIN1 (R343). -/
def SVC.SUB_DRAIN1 : Nat := 0x3000500018

/-- Bits [16:0] of SVC_SUB_DRAIN1. -/
def SVC.SUB_DRAIN1_COUNT : FieldRef := ⟨SVC.SUB_DRAIN1, 0, 17⟩

/-- SVC_LOAD_ASDU (R343). -/
def SVC.LOAD_ASDU : Nat := 0x3000500020

/-- Bits [23:0] of SVC_LOAD_ASDU. -/
def SVC.LOAD_ASDU_SUM : FieldRef := ⟨SVC.LOAD_ASDU, 0, 24⟩

/-- SVC_LOAD_CHS (R343). -/
def SVC.LOAD_CHS : Nat := 0x3000500024

/-- Bits [26:0] of SVC_LOAD_CHS. -/
def SVC.LOAD_CHS_SUM : FieldRef := ⟨SVC.LOAD_CHS, 0, 27⟩

/-- SVC_LOAD_96K (R343). -/
def SVC.LOAD_96K : Nat := 0x3000500028

/-- Bits [6:0] of SVC_LOAD_96K. -/
def SVC.LOAD_96K_COUNT : FieldRef := ⟨SVC.LOAD_96K, 0, 7⟩

/-- SVC_NOMATCH (R343). -/
def SVC.NOMATCH : Nat := 0x3000500030

/-- Bits [31:0] of SVC_NOMATCH. -/
def SVC.NOMATCH_COUNT : FieldRef := ⟨SVC.NOMATCH, 0, 32⟩

/-- SVC_FMTERR (R343). -/
def SVC.FMTERR : Nat := 0x3000500034

/-- Bits [31:0] of SVC_FMTERR. -/
def SVC.FMTERR_COUNT : FieldRef := ⟨SVC.FMTERR, 0, 32⟩

/-- SVC_ENABLE (R343). -/
def SVC.ENABLE : Nat := 0x3000500008

/-- Bits [12:12] of SVC_ENABLE. -/
def SVC.ENABLE_DUP : FieldRef := ⟨SVC.ENABLE, 12, 1⟩

/-- Bits [11:11] of SVC_ENABLE. -/
def SVC.ENABLE_SYNC_CHANGE : FieldRef := ⟨SVC.ENABLE, 11, 1⟩

/-- Bits [10:10] of SVC_ENABLE. -/
def SVC.ENABLE_LATE : FieldRef := ⟨SVC.ENABLE, 10, 1⟩

/-- Bits [9:9] of SVC_ENABLE. -/
def SVC.ENABLE_CORRECTION : FieldRef := ⟨SVC.ENABLE, 9, 1⟩

/-- Bits [8:8] of SVC_ENABLE. -/
def SVC.ENABLE_STREAM_LOST : FieldRef := ⟨SVC.ENABLE, 8, 1⟩

/-- Bits [7:7] of SVC_ENABLE. -/
def SVC.ENABLE_FILL : FieldRef := ⟨SVC.ENABLE, 7, 1⟩

/-- Bits [6:6] of SVC_ENABLE. -/
def SVC.ENABLE_MISSING : FieldRef := ⟨SVC.ENABLE, 6, 1⟩

/-- Bits [5:5] of SVC_ENABLE. -/
def SVC.ENABLE_FMT_ERR : FieldRef := ⟨SVC.ENABLE, 5, 1⟩

/-- Bits [4:4] of SVC_ENABLE. -/
def SVC.ENABLE_AUTHFAIL : FieldRef := ⟨SVC.ENABLE, 4, 1⟩

/-- Bits [3:3] of SVC_ENABLE. -/
def SVC.ENABLE_REJECT : FieldRef := ⟨SVC.ENABLE, 3, 1⟩

/-- Bits [2:2] of SVC_ENABLE. -/
def SVC.ENABLE_NOMATCH : FieldRef := ⟨SVC.ENABLE, 2, 1⟩

/-- Bits [1:1] of SVC_ENABLE. -/
def SVC.ENABLE_EPOCH_REFUSED : FieldRef := ⟨SVC.ENABLE, 1, 1⟩

/-- Bits [0:0] of SVC_ENABLE. -/
def SVC.ENABLE_CFG_REFUSED : FieldRef := ⟨SVC.ENABLE, 0, 1⟩

/-- SVC_STRCFG (R344). -/
def SVC.STRCFG (p : Nat) : Nat := 0x3000520000 + p * 0x40

/-- Bits [31:31] of SVC_STRCFG. -/
def SVC.STRCFG_EN (p : Nat) : FieldRef := ⟨SVC.STRCFG p, 31, 1⟩

/-- Bits [30:28] of SVC_STRCFG. -/
def SVC.STRCFG_RATE (p : Nat) : FieldRef := ⟨SVC.STRCFG p, 28, 3⟩

/-- Bits [27:23] of SVC_STRCFG. -/
def SVC.STRCFG_NCH (p : Nat) : FieldRef := ⟨SVC.STRCFG p, 23, 5⟩

/-- Bits [19:18] of SVC_STRCFG. -/
def SVC.STRCFG_SYNCMODE (p : Nat) : FieldRef := ⟨SVC.STRCFG p, 18, 2⟩

/-- Bits [17:17] of SVC_STRCFG. -/
def SVC.STRCFG_SIM (p : Nat) : FieldRef := ⟨SVC.STRCFG p, 17, 1⟩

/-- Bits [16:16] of SVC_STRCFG. -/
def SVC.STRCFG_FILL_EN (p : Nat) : FieldRef := ⟨SVC.STRCFG p, 16, 1⟩

/-- Bits [15:8] of SVC_STRCFG. -/
def SVC.STRCFG_GMID (p : Nat) : FieldRef := ⟨SVC.STRCFG p, 8, 8⟩

/-- SVC_STRCFG2 (R344). -/
def SVC.STRCFG2 (p : Nat) : Nat := 0x3000520004 + p * 0x40

/-- Bits [30:17] of SVC_STRCFG2. -/
def SVC.STRCFG2_CH0 (p : Nat) : FieldRef := ⟨SVC.STRCFG2 p, 17, 14⟩

/-- Bits [16:0] of SVC_STRCFG2. -/
def SVC.STRCFG2_WRAP (p : Nat) : FieldRef := ⟨SVC.STRCFG2 p, 0, 17⟩

/-- SVC_TIMING (R344). -/
def SVC.TIMING (p : Nat) : Nat := 0x3000520008 + p * 0x40

/-- Bits [31:16] of SVC_TIMING. -/
def SVC.TIMING_LATNOM (p : Nat) : FieldRef := ⟨SVC.TIMING p, 16, 16⟩

/-- Bits [9:0] of SVC_TIMING. -/
def SVC.TIMING_FILLDL (p : Nat) : FieldRef := ⟨SVC.TIMING p, 0, 10⟩

/-- SVC_CONFREV (R344). -/
def SVC.CONFREV (p : Nat) : Nat := 0x300052000C + p * 0x40

/-- Bits [31:0] of SVC_CONFREV. -/
def SVC.CONFREV_CONFREV (p : Nat) : FieldRef := ⟨SVC.CONFREV p, 0, 32⟩

/-- SVC_TOL (R344). -/
def SVC.TOL (p : Nat) : Nat := 0x3000520010 + p * 0x40

/-- Bits [19:16] of SVC_TOL. -/
def SVC.TOL_TOLSH (p : Nat) : FieldRef := ⟨SVC.TOL p, 16, 4⟩

/-- Bits [15:0] of SVC_TOL. -/
def SVC.TOL_TOLMIN (p : Nat) : FieldRef := ⟨SVC.TOL p, 0, 16⟩

/-- SVC_KEY (R344). -/
def SVC.KEY (p : Nat) : Nat := 0x3000520014 + p * 0x40

/-- Bits [31:31] of SVC_KEY. -/
def SVC.KEY_AUTH_EN (p : Nat) : FieldRef := ⟨SVC.KEY p, 31, 1⟩

/-- Bits [12:0] of SVC_KEY. -/
def SVC.KEY_KEYSLOT (p : Nat) : FieldRef := ⟨SVC.KEY p, 0, 13⟩

/-- SVC_SSTATE (R344). -/
def SVC.SSTATE (p : Nat) : Nat := 0x3000520018 + p * 0x40

/-- Bits [31:16] of SVC_SSTATE. -/
def SVC.SSTATE_NEWEST (p : Nat) : FieldRef := ⟨SVC.SSTATE p, 16, 16⟩

/-- Bits [15:8] of SVC_SSTATE. -/
def SVC.SSTATE_SMPSYNCH (p : Nat) : FieldRef := ⟨SVC.SSTATE p, 8, 8⟩

/-- Bits [3:3] of SVC_SSTATE. -/
def SVC.SSTATE_TIMESRC (p : Nat) : FieldRef := ⟨SVC.SSTATE p, 3, 1⟩

/-- Bits [2:0] of SVC_SSTATE. -/
def SVC.SSTATE_STATE (p : Nat) : FieldRef := ⟨SVC.SSTATE p, 0, 3⟩

/-- SVC_LAT (R344). -/
def SVC.LAT (p : Nat) : Nat := 0x300052001C + p * 0x40

/-- Bits [31:16] of SVC_LAT. -/
def SVC.LAT_LATMAX (p : Nat) : FieldRef := ⟨SVC.LAT p, 16, 16⟩

/-- Bits [15:0] of SVC_LAT. -/
def SVC.LAT_LATLAST (p : Nat) : FieldRef := ⟨SVC.LAT p, 0, 16⟩

/-- SVC_MISSING (R344). -/
def SVC.MISSING (p : Nat) : Nat := 0x3000520020 + p * 0x40

/-- Bits [31:0] of SVC_MISSING. -/
def SVC.MISSING_COUNT (p : Nat) : FieldRef := ⟨SVC.MISSING p, 0, 32⟩

/-- SVC_DUP (R344). -/
def SVC.DUP (p : Nat) : Nat := 0x3000520024 + p * 0x40

/-- Bits [31:0] of SVC_DUP. -/
def SVC.DUP_COUNT (p : Nat) : FieldRef := ⟨SVC.DUP p, 0, 32⟩

/-- SVC_LATE (R344). -/
def SVC.LATE (p : Nat) : Nat := 0x3000520028 + p * 0x40

/-- Bits [31:0] of SVC_LATE. -/
def SVC.LATE_COUNT (p : Nat) : FieldRef := ⟨SVC.LATE p, 0, 32⟩

/-- SVC_PRED (R344). -/
def SVC.PRED (p : Nat) : Nat := 0x300052002C + p * 0x40

/-- Bits [31:0] of SVC_PRED. -/
def SVC.PRED_COUNT (p : Nat) : FieldRef := ⟨SVC.PRED p, 0, 32⟩

/-- SVC_CORR (R344). -/
def SVC.CORR (p : Nat) : Nat := 0x3000520030 + p * 0x40

/-- Bits [31:0] of SVC_CORR. -/
def SVC.CORR_COUNT (p : Nat) : FieldRef := ⟨SVC.CORR p, 0, 32⟩

/-- SVC_REJECT (R344). -/
def SVC.REJECT (p : Nat) : Nat := 0x3000520034 + p * 0x40

/-- Bits [31:0] of SVC_REJECT. -/
def SVC.REJECT_COUNT (p : Nat) : FieldRef := ⟨SVC.REJECT p, 0, 32⟩

/-- SVC_AUTHFAIL (R344). -/
def SVC.AUTHFAIL (p : Nat) : Nat := 0x3000520038 + p * 0x40

/-- Bits [31:0] of SVC_AUTHFAIL. -/
def SVC.AUTHFAIL_COUNT (p : Nat) : FieldRef := ⟨SVC.AUTHFAIL p, 0, 32⟩

/-- SVC_SFMTERR (R344). -/
def SVC.SFMTERR (p : Nat) : Nat := 0x300052003C + p * 0x40

/-- Bits [31:0] of SVC_SFMTERR. -/
def SVC.SFMTERR_COUNT (p : Nat) : FieldRef := ⟨SVC.SFMTERR p, 0, 32⟩

/-- SVC_CHCFG (R345). -/
def SVC.CHCFG (p : Nat) : Nat := 0x3000540000 + p * 0x4

/-- Bits [31:31] of SVC_CHCFG. -/
def SVC.CHCFG_QPRES (p : Nat) : FieldRef := ⟨SVC.CHCFG p, 31, 1⟩

/-- Bits [17:16] of SVC_CHCFG. -/
def SVC.CHCFG_KIND (p : Nat) : FieldRef := ⟨SVC.CHCFG p, 16, 2⟩

/-- Bits [7:0] of SVC_CHCFG. -/
def SVC.CHCFG_VOFF (p : Nat) : FieldRef := ⟨SVC.CHCFG p, 0, 8⟩

/-- SVC_CHQ (R345). -/
def SVC.CHQ (p : Nat) : Nat := 0x3000550000 + p * 0x4

/-- Bits [31:0] of SVC_CHQ. -/
def SVC.CHQ_Q (p : Nat) : FieldRef := ⟨SVC.CHQ p, 0, 32⟩

/-- SVC_SUB_W0 (R345). -/
def SVC.SUB_W0 (p : Nat) (e : Nat) : Nat := 0x3000580000 + p * 0x40000 + e * 0x80

/-- Bits [31:0] of SVC_SUB_W0. -/
def SVC.SUB_W0_DA_LO (p : Nat) (e : Nat) : FieldRef := ⟨SVC.SUB_W0 p e, 0, 32⟩

/-- SVC_SUB_W1 (R345). -/
def SVC.SUB_W1 (p : Nat) (e : Nat) : Nat := 0x3000580004 + p * 0x40000 + e * 0x80

/-- Bits [31:16] of SVC_SUB_W1. -/
def SVC.SUB_W1_APPID (p : Nat) (e : Nat) : FieldRef := ⟨SVC.SUB_W1 p e, 16, 16⟩

/-- Bits [15:0] of SVC_SUB_W1. -/
def SVC.SUB_W1_DA_HI (p : Nat) (e : Nat) : FieldRef := ⟨SVC.SUB_W1 p e, 0, 16⟩

/-- SVC_SUB_W2 (R345). -/
def SVC.SUB_W2 (p : Nat) (e : Nat) : Nat := 0x3000580008 + p * 0x40000 + e * 0x80

/-- Bits [31:31] of SVC_SUB_W2. -/
def SVC.SUB_W2_VALID (p : Nat) (e : Nat) : FieldRef := ⟨SVC.SUB_W2 p e, 31, 1⟩

/-- Bits [30:24] of SVC_SUB_W2. -/
def SVC.SUB_W2_SVIDLEN (p : Nat) (e : Nat) : FieldRef := ⟨SVC.SUB_W2 p e, 24, 7⟩

/-- Bits [23:12] of SVC_SUB_W2. -/
def SVC.SUB_W2_VID (p : Nat) (e : Nat) : FieldRef := ⟨SVC.SUB_W2 p e, 12, 12⟩

/-- Bits [11:11] of SVC_SUB_W2. -/
def SVC.SUB_W2_VIDANY (p : Nat) (e : Nat) : FieldRef := ⟨SVC.SUB_W2 p e, 11, 1⟩

/-- Bits [10:0] of SVC_SUB_W2. -/
def SVC.SUB_W2_STREAM (p : Nat) (e : Nat) : FieldRef := ⟨SVC.SUB_W2 p e, 0, 11⟩

/-- SVC_SUB_SVID (R345). -/
def SVC.SUB_SVID (p : Nat) (e : Nat) (i : Nat) : Nat := 0x3000580010 + p * 0x40000 + e * 0x80 + i * 0x4

/-- Bits [31:0] of SVC_SUB_SVID. -/
def SVC.SUB_SVID_SVID (p : Nat) (e : Nat) (i : Nat) : FieldRef := ⟨SVC.SUB_SVID p e i, 0, 32⟩

/-- SVC_SUB_W3 (R345). -/
def SVC.SUB_W3 (p : Nat) (e : Nat) : Nat := 0x300058000C + p * 0x40000 + e * 0x80

/-- SVC_RS_FLAGS (R384). -/
def SVC.RS_FLAGS : Nat := 0x3000500100

/-- Bits [4:4] of SVC_RS_FLAGS. -/
def SVC.RS_FLAGS_TSKIP : FieldRef := ⟨SVC.RS_FLAGS, 4, 1⟩

/-- Bits [3:3] of SVC_RS_FLAGS. -/
def SVC.RS_FLAGS_HISTORY : FieldRef := ⟨SVC.RS_FLAGS, 3, 1⟩

/-- Bits [2:2] of SVC_RS_FLAGS. -/
def SVC.RS_FLAGS_SAT : FieldRef := ⟨SVC.RS_FLAGS, 2, 1⟩

/-- Bits [0:0] of SVC_RS_FLAGS. -/
def SVC.RS_FLAGS_REFUSED : FieldRef := ⟨SVC.RS_FLAGS, 0, 1⟩

/-- SVC_RS_LOAD (R384). -/
def SVC.RS_LOAD : Nat := 0x3000500104

/-- Bits [23:0] of SVC_RS_LOAD. -/
def SVC.RS_LOAD_KMACS : FieldRef := ⟨SVC.RS_LOAD, 0, 24⟩

/-- SVC_COEF_ADDR (R384). -/
def SVC.COEF_ADDR : Nat := 0x3000500110

/-- Bits [31:31] of SVC_COEF_ADDR. -/
def SVC.COEF_ADDR_KIND : FieldRef := ⟨SVC.COEF_ADDR, 31, 1⟩

/-- Bits [27:24] of SVC_COEF_ADDR. -/
def SVC.COEF_ADDR_SET : FieldRef := ⟨SVC.COEF_ADDR, 24, 4⟩

/-- Bits [15:5] of SVC_COEF_ADDR. -/
def SVC.COEF_ADDR_PHASE : FieldRef := ⟨SVC.COEF_ADDR, 5, 11⟩

/-- Bits [4:0] of SVC_COEF_ADDR. -/
def SVC.COEF_ADDR_TAP : FieldRef := ⟨SVC.COEF_ADDR, 0, 5⟩

/-- SVC_COEF_DATA (R384). -/
def SVC.COEF_DATA : Nat := 0x3000500114

/-- Bits [17:0] of SVC_COEF_DATA. -/
def SVC.COEF_DATA_COEF : FieldRef := ⟨SVC.COEF_DATA, 0, 18⟩

/-- SVC_ISET (R384). -/
def SVC.ISET (p : Nat) : Nat := 0x3000500140 + p * 0x4

/-- Bits [2:0] of SVC_ISET. -/
def SVC.ISET_TAPS (p : Nat) : FieldRef := ⟨SVC.ISET p, 0, 3⟩

/-- SVC_DSET (R384). -/
def SVC.DSET (p : Nat) : Nat := 0x3000500180 + p * 0x4

/-- Bits [6:0] of SVC_DSET. -/
def SVC.DSET_LEN (p : Nat) : FieldRef := ⟨SVC.DSET p, 0, 7⟩

/-- SVC_GCFG (R384). -/
def SVC.GCFG (p : Nat) : Nat := 0x3000501000 + p * 0x40

/-- Bits [31:31] of SVC_GCFG. -/
def SVC.GCFG_GEN (p : Nat) : FieldRef := ⟨SVC.GCFG p, 31, 1⟩

/-- Bits [30:30] of SVC_GCFG. -/
def SVC.GCFG_MODE (p : Nat) : FieldRef := ⟨SVC.GCFG p, 30, 1⟩

/-- Bits [3:0] of SVC_GCFG. -/
def SVC.GCFG_NCODE (p : Nat) : FieldRef := ⟨SVC.GCFG p, 0, 4⟩

/-- SVC_GDMIN (R384). -/
def SVC.GDMIN (p : Nat) : Nat := 0x3000501004 + p * 0x40

/-- Bits [24:0] of SVC_GDMIN. -/
def SVC.GDMIN_GDMIN (p : Nat) : FieldRef := ⟨SVC.GDMIN p, 0, 25⟩

/-- SVC_GD (R384). -/
def SVC.GD (p : Nat) : Nat := 0x3000501008 + p * 0x40

/-- Bits [24:0] of SVC_GD. -/
def SVC.GD_GD (p : Nat) : FieldRef := ⟨SVC.GD p, 0, 25⟩

/-- SVC_PERIOD (R384). -/
def SVC.PERIOD (p : Nat) : Nat := 0x300050100C + p * 0x40

/-- Bits [31:0] of SVC_PERIOD. -/
def SVC.PERIOD_PERIOD (p : Nat) : FieldRef := ⟨SVC.PERIOD p, 0, 32⟩

/-- SVC_GBASE (R384). -/
def SVC.GBASE (p : Nat) : Nat := 0x3000501010 + p * 0x40

/-- Bits [63:0] of SVC_GBASE. -/
def SVC.GBASE_BASE (p : Nat) : FieldRef := ⟨SVC.GBASE p, 0, 64⟩

/-- SVC_JLAST (R384). -/
def SVC.JLAST (p : Nat) : Nat := 0x3000501018 + p * 0x40

/-- Bits [31:0] of SVC_JLAST. -/
def SVC.JLAST_JLAST (p : Nat) : FieldRef := ⟨SVC.JLAST p, 0, 32⟩

/-- SVC_GTSKIP (R384). -/
def SVC.GTSKIP (p : Nat) : Nat := 0x300050101C + p * 0x40

/-- Bits [31:0] of SVC_GTSKIP. -/
def SVC.GTSKIP_COUNT (p : Nat) : FieldRef := ⟨SVC.GTSKIP p, 0, 32⟩

/-- SVC_RSCFG (R384). -/
def SVC.RSCFG (p : Nat) : Nat := 0x3000560000 + p * 0x4

/-- Bits [31:31] of SVC_RSCFG. -/
def SVC.RSCFG_MAP (p : Nat) : FieldRef := ⟨SVC.RSCFG p, 31, 1⟩

/-- Bits [27:24] of SVC_RSCFG. -/
def SVC.RSCFG_GRID (p : Nat) : FieldRef := ⟨SVC.RSCFG p, 24, 4⟩

/-- Bits [17:16] of SVC_RSCFG. -/
def SVC.RSCFG_DRATIO (p : Nat) : FieldRef := ⟨SVC.RSCFG p, 16, 2⟩

/-- Bits [11:8] of SVC_RSCFG. -/
def SVC.RSCFG_DSET (p : Nat) : FieldRef := ⟨SVC.RSCFG p, 8, 4⟩

/-- Bits [2:0] of SVC_RSCFG. -/
def SVC.RSCFG_ISET (p : Nat) : FieldRef := ⟨SVC.RSCFG p, 0, 3⟩

/-- SVC_PHDLY (R384). -/
def SVC.PHDLY (p : Nat) : Nat := 0x3000570000 + p * 0x4

/-- Bits [23:0] of SVC_PHDLY. -/
def SVC.PHDLY_DLY (p : Nat) : FieldRef := ⟨SVC.PHDLY p, 0, 24⟩

/-- Rows of the register map of SVC. -/
def regsSvc0 : List RegDesc := [
  ⟨"SVC_CTL", 0x3000500000, [], 32, [⟨"EN", 0, 0, .rw, 0, .s, []⟩]⟩,
  ⟨"SVC_STATUS", 0x3000500004, [], 32, [⟨"DUP", 12, 12, .w1c, 0, .s, []⟩,
    ⟨"SYNC_CHANGE", 11, 11, .w1c, 0, .s, []⟩,
    ⟨"LATE", 10, 10, .w1c, 0, .s, []⟩,
    ⟨"CORRECTION", 9, 9, .w1c, 0, .s, []⟩,
    ⟨"STREAM_LOST", 8, 8, .w1c, 0, .s, []⟩,
    ⟨"FILL", 7, 7, .w1c, 0, .s, []⟩,
    ⟨"MISSING", 6, 6, .w1c, 0, .s, []⟩,
    ⟨"FMT_ERR", 5, 5, .w1c, 0, .s, []⟩,
    ⟨"AUTHFAIL", 4, 4, .w1c, 0, .s, []⟩,
    ⟨"REJECT", 3, 3, .w1c, 0, .s, []⟩,
    ⟨"NOMATCH", 2, 2, .w1c, 0, .s, []⟩,
    ⟨"EPOCH_REFUSED", 1, 1, .w1c, 0, .s, []⟩,
    ⟨"CFG_REFUSED", 0, 0, .w1c, 0, .s, []⟩]⟩,
  ⟨"SVC_CMD", 0x300050000C, [], 32, [⟨"CNT_CLR", 1, 1, .wo, 0, .s, []⟩,
    ⟨"SUB_FLIP", 0, 0, .wo, 0, .s, []⟩]⟩,
  ⟨"SVC_EPOCH", 0x3000500010, [], 32, [⟨"SUB_ACT", 0, 0, .ro, 0, .s, []⟩]⟩,
  ⟨"SVC_SUB_DRAIN0", 0x3000500014, [], 32, [⟨"COUNT", 16, 0, .ro, 0, .s, []⟩]⟩,
  ⟨"SVC_SUB_DRAIN1", 0x3000500018, [], 32, [⟨"COUNT", 16, 0, .ro, 0, .s, []⟩]⟩,
  ⟨"SVC_LOAD_ASDU", 0x3000500020, [], 32, [⟨"SUM", 23, 0, .ro, 0, .s, []⟩]⟩,
  ⟨"SVC_LOAD_CHS", 0x3000500024, [], 32, [⟨"SUM", 26, 0, .ro, 0, .s, []⟩]⟩,
  ⟨"SVC_LOAD_96K", 0x3000500028, [], 32, [⟨"COUNT", 6, 0, .ro, 0, .s, []⟩]⟩,
  ⟨"SVC_NOMATCH", 0x3000500030, [], 32, [⟨"COUNT", 31, 0, .ro, 0, .s, []⟩]⟩,
  ⟨"SVC_FMTERR", 0x3000500034, [], 32, [⟨"COUNT", 31, 0, .ro, 0, .s, []⟩]⟩,
  ⟨"SVC_ENABLE", 0x3000500008, [], 32, [⟨"DUP", 12, 12, .rw, 0, .s, []⟩,
    ⟨"SYNC_CHANGE", 11, 11, .rw, 0, .s, []⟩,
    ⟨"LATE", 10, 10, .rw, 0, .s, []⟩,
    ⟨"CORRECTION", 9, 9, .rw, 0, .s, []⟩,
    ⟨"STREAM_LOST", 8, 8, .rw, 0, .s, []⟩,
    ⟨"FILL", 7, 7, .rw, 0, .s, []⟩,
    ⟨"MISSING", 6, 6, .rw, 0, .s, []⟩,
    ⟨"FMT_ERR", 5, 5, .rw, 0, .s, []⟩,
    ⟨"AUTHFAIL", 4, 4, .rw, 0, .s, []⟩,
    ⟨"REJECT", 3, 3, .rw, 0, .s, []⟩,
    ⟨"NOMATCH", 2, 2, .rw, 0, .s, []⟩,
    ⟨"EPOCH_REFUSED", 1, 1, .rw, 0, .s, []⟩,
    ⟨"CFG_REFUSED", 0, 0, .rw, 0, .s, []⟩]⟩]

/-- Rows of the register map of SVC. -/
def regsSvc1 : List RegDesc := [
  ⟨"SVC_STRCFG", 0x3000520000, [(64, 2048)], 32, [⟨"EN", 31, 31, .rw, 0, .s, []⟩,
    ⟨"RATE", 30, 28, .rw, 1, .s, [(0, 5)]⟩,
    ⟨"NCH", 27, 23, .rw, 8, .s, []⟩,
    ⟨"SYNCMODE", 19, 18, .rw, 1, .s, [(0, 2)]⟩,
    ⟨"SIM", 17, 17, .rw, 0, .s, []⟩,
    ⟨"FILL_EN", 16, 16, .rw, 1, .s, []⟩,
    ⟨"GMID", 15, 8, .rw, 2, .s, []⟩]⟩,
  ⟨"SVC_STRCFG2", 0x3000520004, [(64, 2048)], 32, [⟨"CH0", 30, 17, .rw, 0, .s, []⟩,
    ⟨"WRAP", 16, 0, .rw, 4800, .s, [(1, 65536)]⟩]⟩,
  ⟨"SVC_TIMING", 0x3000520008, [(64, 2048)], 32, [⟨"LATNOM", 31, 16, .rw, 0, .s, []⟩,
    ⟨"FILLDL", 9, 0, .rw, 60, .s, [(10, 1000)]⟩]⟩,
  ⟨"SVC_CONFREV", 0x300052000C, [(64, 2048)], 32, [⟨"CONFREV", 31, 0, .rw, 1, .s, []⟩]⟩,
  ⟨"SVC_TOL", 0x3000520010, [(64, 2048)], 32, [⟨"TOLSH", 19, 16, .rw, 5, .s, []⟩,
    ⟨"TOLMIN", 15, 0, .rw, 16, .s, []⟩]⟩,
  ⟨"SVC_KEY", 0x3000520014, [(64, 2048)], 32, [⟨"AUTH_EN", 31, 31, .rw, 0, .s, []⟩,
    ⟨"KEYSLOT", 12, 0, .rw, 0, .s, []⟩]⟩,
  ⟨"SVC_SSTATE", 0x3000520018, [(64, 2048)], 32, [⟨"NEWEST", 31, 16, .ro, 0, .s, []⟩,
    ⟨"SMPSYNCH", 15, 8, .ro, 0, .s, []⟩,
    ⟨"TIMESRC", 3, 3, .ro, 0, .s, []⟩,
    ⟨"STATE", 2, 0, .ro, 0, .s, []⟩]⟩,
  ⟨"SVC_LAT", 0x300052001C, [(64, 2048)], 32, [⟨"LATMAX", 31, 16, .ro, 0, .s, []⟩,
    ⟨"LATLAST", 15, 0, .ro, 0, .s, []⟩]⟩,
  ⟨"SVC_MISSING", 0x3000520020, [(64, 2048)], 32, [⟨"COUNT", 31, 0, .ro, 0, .s, []⟩]⟩,
  ⟨"SVC_DUP", 0x3000520024, [(64, 2048)], 32, [⟨"COUNT", 31, 0, .ro, 0, .s, []⟩]⟩,
  ⟨"SVC_LATE", 0x3000520028, [(64, 2048)], 32, [⟨"COUNT", 31, 0, .ro, 0, .s, []⟩]⟩,
  ⟨"SVC_PRED", 0x300052002C, [(64, 2048)], 32, [⟨"COUNT", 31, 0, .ro, 0, .s, []⟩]⟩]

/-- Rows of the register map of SVC. -/
def regsSvc2 : List RegDesc := [
  ⟨"SVC_CORR", 0x3000520030, [(64, 2048)], 32, [⟨"COUNT", 31, 0, .ro, 0, .s, []⟩]⟩,
  ⟨"SVC_REJECT", 0x3000520034, [(64, 2048)], 32, [⟨"COUNT", 31, 0, .ro, 0, .s, []⟩]⟩,
  ⟨"SVC_AUTHFAIL", 0x3000520038, [(64, 2048)], 32, [⟨"COUNT", 31, 0, .ro, 0, .s, []⟩]⟩,
  ⟨"SVC_SFMTERR", 0x300052003C, [(64, 2048)], 32, [⟨"COUNT", 31, 0, .ro, 0, .s, []⟩]⟩,
  ⟨"SVC_CHCFG", 0x3000540000, [(4, 16384)], 32, [⟨"QPRES", 31, 31, .rw, 1, .s, []⟩,
    ⟨"KIND", 17, 16, .rw, 0, .s, [(0, 2)]⟩,
    ⟨"VOFF", 7, 0, .rw, 0, .s, []⟩]⟩,
  ⟨"SVC_CHQ", 0x3000550000, [(4, 16384)], 32, [⟨"Q", 31, 0, .ro, 0, .s, []⟩]⟩,
  ⟨"SVC_SUB_W0", 0x3000580000, [(262144, 2), (128, 2048)], 32, [⟨"DA_LO", 31, 0, .rw, 0, .s, []⟩]⟩,
  ⟨"SVC_SUB_W1", 0x3000580004, [(262144, 2), (128, 2048)], 32, [⟨"APPID", 31, 16, .rw, 0, .s, []⟩,
    ⟨"DA_HI", 15, 0, .rw, 0, .s, []⟩]⟩,
  ⟨"SVC_SUB_W2", 0x3000580008, [(262144, 2), (128, 2048)], 32, [⟨"VALID", 31, 31, .rw, 0, .s, []⟩,
    ⟨"SVIDLEN", 30, 24, .rw, 0, .s, [(1, 64)]⟩,
    ⟨"VID", 23, 12, .rw, 0, .s, []⟩,
    ⟨"VIDANY", 11, 11, .rw, 0, .s, []⟩,
    ⟨"STREAM", 10, 0, .rw, 0, .s, []⟩]⟩,
  ⟨"SVC_SUB_SVID", 0x3000580010, [(262144, 2), (128, 2048), (4, 16)], 32, [⟨"SVID", 31, 0, .rw, 0, .s, []⟩]⟩,
  ⟨"SVC_SUB_W3", 0x300058000C, [(262144, 2), (128, 2048)], 32, []⟩,
  ⟨"SVC_RS_FLAGS", 0x3000500100, [], 32, [⟨"TSKIP", 4, 4, .w1c, 0, .s, []⟩,
    ⟨"HISTORY", 3, 3, .w1c, 0, .s, []⟩,
    ⟨"SAT", 2, 2, .w1c, 0, .s, []⟩,
    ⟨"REFUSED", 0, 0, .w1c, 0, .s, []⟩]⟩]

/-- Rows of the register map of SVC. -/
def regsSvc3 : List RegDesc := [
  ⟨"SVC_RS_LOAD", 0x3000500104, [], 32, [⟨"KMACS", 23, 0, .ro, 0, .s, []⟩]⟩,
  ⟨"SVC_COEF_ADDR", 0x3000500110, [], 32, [⟨"KIND", 31, 31, .rw, 0, .s, []⟩,
    ⟨"SET", 27, 24, .rw, 0, .s, []⟩,
    ⟨"PHASE", 15, 5, .rw, 0, .s, []⟩,
    ⟨"TAP", 4, 0, .rw, 0, .s, []⟩]⟩,
  ⟨"SVC_COEF_DATA", 0x3000500114, [], 32, [⟨"COEF", 17, 0, .rw, 0, .s, []⟩]⟩,
  ⟨"SVC_ISET", 0x3000500140, [(4, 8)], 32, [⟨"TAPS", 2, 0, .rw, 0, .s, [(0, 4)]⟩]⟩,
  ⟨"SVC_DSET", 0x3000500180, [(4, 16)], 32, [⟨"LEN", 6, 0, .rw, 0, .s, [(0, 64)]⟩]⟩,
  ⟨"SVC_GCFG", 0x3000501000, [(64, 16)], 32, [⟨"GEN", 31, 31, .rw, 0, .s, []⟩,
    ⟨"MODE", 30, 30, .rw, 0, .s, []⟩,
    ⟨"NCODE", 3, 0, .rw, 0, .s, [(0, 8)]⟩]⟩,
  ⟨"SVC_GDMIN", 0x3000501004, [(64, 16)], 32, [⟨"GDMIN", 24, 0, .rw, 0, .s, []⟩]⟩,
  ⟨"SVC_GD", 0x3000501008, [(64, 16)], 32, [⟨"GD", 24, 0, .ro, 0, .s, []⟩]⟩,
  ⟨"SVC_PERIOD", 0x300050100C, [(64, 16)], 32, [⟨"PERIOD", 31, 0, .rw, 25000000, .s, []⟩]⟩,
  ⟨"SVC_GBASE", 0x3000501010, [(64, 16)], 64, [⟨"BASE", 63, 0, .rw, 0, .s, []⟩]⟩,
  ⟨"SVC_JLAST", 0x3000501018, [(64, 16)], 32, [⟨"JLAST", 31, 0, .ro, 0, .s, []⟩]⟩,
  ⟨"SVC_GTSKIP", 0x300050101C, [(64, 16)], 32, [⟨"COUNT", 31, 0, .ro, 0, .s, []⟩]⟩]

/-- Rows of the register map of SVC. -/
def regsSvc4 : List RegDesc := [
  ⟨"SVC_RSCFG", 0x3000560000, [(4, 2048)], 32, [⟨"MAP", 31, 31, .rw, 0, .s, []⟩,
    ⟨"GRID", 27, 24, .rw, 0, .s, []⟩,
    ⟨"DRATIO", 17, 16, .rw, 0, .s, [(0, 2)]⟩,
    ⟨"DSET", 11, 8, .rw, 0, .s, []⟩,
    ⟨"ISET", 2, 0, .rw, 0, .s, []⟩]⟩,
  ⟨"SVC_PHDLY", 0x3000570000, [(4, 16384)], 32, [⟨"DLY", 23, 0, .rw, 0, .s, []⟩]⟩]

/-- The register map of SVC. -/
def regsSvc : List RegDesc :=
  regsSvc0 ++ regsSvc1 ++ regsSvc2 ++ regsSvc3 ++ regsSvc4

end Sys2Proof.Machine
end

