-- ==== Sys2Proof/Machine/RegsSwc.lean ====
section
/-!
DEFINITION. Machine/RegsSwc.lean: the register map of block SWC (R52), from the field tables of its chapter: the address of
every register, the place of every field, and the table that REGISTER_WRITE and the resets read.
-/

namespace Sys2Proof.Machine


/-- SWC_CFG (R240). -/
def SWC.CFG : Nat := 0x3000300000

/-- Bits [9:0] of SWC_CFG. -/
def SWC.CFG_AGELIM : FieldRef := ⟨SWC.CFG, 0, 10⟩

/-- SWC_STATUS (R240). -/
def SWC.STATUS : Nat := 0x3000300004

/-- Bits [7:7] of SWC_STATUS. -/
def SWC.STATUS_LEN_DROP : FieldRef := ⟨SWC.STATUS, 7, 1⟩

/-- Bits [6:6] of SWC_STATUS. -/
def SWC.STATUS_EPOCH_REFUSED : FieldRef := ⟨SWC.STATUS, 6, 1⟩

/-- Bits [5:5] of SWC_STATUS. -/
def SWC.STATUS_CFG_REFUSED : FieldRef := ⟨SWC.STATUS, 5, 1⟩

/-- Bits [4:4] of SWC_STATUS. -/
def SWC.STATUS_LOOKUP_ERR : FieldRef := ⟨SWC.STATUS, 4, 1⟩

/-- Bits [3:3] of SWC_STATUS. -/
def SWC.STATUS_RESEQ : FieldRef := ⟨SWC.STATUS, 3, 1⟩

/-- Bits [2:2] of SWC_STATUS. -/
def SWC.STATUS_STOMP : FieldRef := ⟨SWC.STATUS, 2, 1⟩

/-- Bits [1:1] of SWC_STATUS. -/
def SWC.STATUS_AGE_DROP : FieldRef := ⟨SWC.STATUS, 1, 1⟩

/-- Bits [0:0] of SWC_STATUS. -/
def SWC.STATUS_THR_DROP : FieldRef := ⟨SWC.STATUS, 0, 1⟩

/-- SWC_EPOCH (R240). -/
def SWC.EPOCH : Nat := 0x3000300010

/-- Bits [5:5] of SWC_EPOCH. -/
def SWC.EPOCH_CLS_FLIP : FieldRef := ⟨SWC.EPOCH, 5, 1⟩

/-- Bits [4:4] of SWC_EPOCH. -/
def SWC.EPOCH_FDB_FLIP : FieldRef := ⟨SWC.EPOCH, 4, 1⟩

/-- Bits [1:1] of SWC_EPOCH. -/
def SWC.EPOCH_CLS_ACT : FieldRef := ⟨SWC.EPOCH, 1, 1⟩

/-- Bits [0:0] of SWC_EPOCH. -/
def SWC.EPOCH_FDB_ACT : FieldRef := ⟨SWC.EPOCH, 0, 1⟩

/-- SWC_MIR_CFG (R240). -/
def SWC.MIR_CFG : Nat := 0x3000300030

/-- Bits [31:31] of SWC_MIR_CFG. -/
def SWC.MIR_CFG_EN : FieldRef := ⟨SWC.MIR_CFG, 31, 1⟩

/-- Bits [30:28] of SWC_MIR_CFG. -/
def SWC.MIR_CFG_MIR_TC : FieldRef := ⟨SWC.MIR_CFG, 28, 3⟩

/-- Bits [27:24] of SWC_MIR_CFG. -/
def SWC.MIR_CFG_APORT : FieldRef := ⟨SWC.MIR_CFG, 24, 4⟩

/-- Bits [11:0] of SWC_MIR_CFG. -/
def SWC.MIR_CFG_INGMASK : FieldRef := ⟨SWC.MIR_CFG, 0, 12⟩

/-- SWC_ENABLE (R240). -/
def SWC.ENABLE : Nat := 0x3000300008

/-- Bits [7:7] of SWC_ENABLE. -/
def SWC.ENABLE_LEN_DROP : FieldRef := ⟨SWC.ENABLE, 7, 1⟩

/-- Bits [6:6] of SWC_ENABLE. -/
def SWC.ENABLE_EPOCH_REFUSED : FieldRef := ⟨SWC.ENABLE, 6, 1⟩

/-- Bits [5:5] of SWC_ENABLE. -/
def SWC.ENABLE_CFG_REFUSED : FieldRef := ⟨SWC.ENABLE, 5, 1⟩

/-- Bits [4:4] of SWC_ENABLE. -/
def SWC.ENABLE_LOOKUP_ERR : FieldRef := ⟨SWC.ENABLE, 4, 1⟩

/-- Bits [3:3] of SWC_ENABLE. -/
def SWC.ENABLE_RESEQ : FieldRef := ⟨SWC.ENABLE, 3, 1⟩

/-- Bits [2:2] of SWC_ENABLE. -/
def SWC.ENABLE_STOMP : FieldRef := ⟨SWC.ENABLE, 2, 1⟩

/-- Bits [1:1] of SWC_ENABLE. -/
def SWC.ENABLE_AGE_DROP : FieldRef := ⟨SWC.ENABLE, 1, 1⟩

/-- Bits [0:0] of SWC_ENABLE. -/
def SWC.ENABLE_THR_DROP : FieldRef := ⟨SWC.ENABLE, 0, 1⟩

/-- SWC_FDB_DRAIN0 (R241). -/
def SWC.FDB_DRAIN0 : Nat := 0x3000300014

/-- Bits [16:0] of SWC_FDB_DRAIN0. -/
def SWC.FDB_DRAIN0_COUNT : FieldRef := ⟨SWC.FDB_DRAIN0, 0, 17⟩

/-- SWC_FDB_DRAIN1 (R241). -/
def SWC.FDB_DRAIN1 : Nat := 0x3000300018

/-- Bits [16:0] of SWC_FDB_DRAIN1. -/
def SWC.FDB_DRAIN1_COUNT : FieldRef := ⟨SWC.FDB_DRAIN1, 0, 17⟩

/-- SWC_CLS_DRAIN0 (R241). -/
def SWC.CLS_DRAIN0 : Nat := 0x300030001C

/-- Bits [16:0] of SWC_CLS_DRAIN0. -/
def SWC.CLS_DRAIN0_COUNT : FieldRef := ⟨SWC.CLS_DRAIN0, 0, 17⟩

/-- SWC_CLS_DRAIN1 (R241). -/
def SWC.CLS_DRAIN1 : Nat := 0x3000300020

/-- Bits [16:0] of SWC_CLS_DRAIN1. -/
def SWC.CLS_DRAIN1_COUNT : FieldRef := ⟨SWC.CLS_DRAIN1, 0, 17⟩

/-- SWC_FREE (R241). -/
def SWC.FREE : Nat := 0x3000300024

/-- Bits [16:0] of SWC_FREE. -/
def SWC.FREE_FREE : FieldRef := ⟨SWC.FREE, 0, 17⟩

/-- SWC_LOOKUP_ERR (R241). -/
def SWC.LOOKUP_ERR : Nat := 0x3000300028

/-- Bits [31:0] of SWC_LOOKUP_ERR. -/
def SWC.LOOKUP_ERR_COUNT : FieldRef := ⟨SWC.LOOKUP_ERR, 0, 32⟩

/-- SWC_MIR_EG (R241). -/
def SWC.MIR_EG : Nat := 0x3000300034

/-- Bits [11:0] of SWC_MIR_EG. -/
def SWC.MIR_EG_EGMASK : FieldRef := ⟨SWC.MIR_EG, 0, 12⟩

/-- SWC_FDB_CMD (R242). -/
def SWC.FDB_CMD : Nat := 0x3000300040

/-- Bits [31:16] of SWC_FDB_CMD. -/
def SWC.FDB_CMD_INDEX : FieldRef := ⟨SWC.FDB_CMD, 16, 16⟩

/-- Bits [4:4] of SWC_FDB_CMD. -/
def SWC.FDB_CMD_EPOCH : FieldRef := ⟨SWC.FDB_CMD, 4, 1⟩

/-- Bits [2:0] of SWC_FDB_CMD. -/
def SWC.FDB_CMD_OP : FieldRef := ⟨SWC.FDB_CMD, 0, 3⟩

/-- SWC_FDB_RES (R242). -/
def SWC.FDB_RES : Nat := 0x3000300044

/-- Bits [31:16] of SWC_FDB_RES. -/
def SWC.FDB_RES_INDEX : FieldRef := ⟨SWC.FDB_RES, 16, 16⟩

/-- Bits [2:1] of SWC_FDB_RES. -/
def SWC.FDB_RES_CODE : FieldRef := ⟨SWC.FDB_RES, 1, 2⟩

/-- Bits [0:0] of SWC_FDB_RES. -/
def SWC.FDB_RES_BUSY : FieldRef := ⟨SWC.FDB_RES, 0, 1⟩

/-- SWC_FDB_D0 (R242). -/
def SWC.FDB_D0 : Nat := 0x3000300048

/-- Bits [31:0] of SWC_FDB_D0. -/
def SWC.FDB_D0_MAC_LO : FieldRef := ⟨SWC.FDB_D0, 0, 32⟩

/-- SWC_FDB_D1 (R242). -/
def SWC.FDB_D1 : Nat := 0x300030004C

/-- Bits [31:31] of SWC_FDB_D1. -/
def SWC.FDB_D1_VALID : FieldRef := ⟨SWC.FDB_D1, 31, 1⟩

/-- Bits [27:16] of SWC_FDB_D1. -/
def SWC.FDB_D1_VID : FieldRef := ⟨SWC.FDB_D1, 16, 12⟩

/-- Bits [15:0] of SWC_FDB_D1. -/
def SWC.FDB_D1_MAC_HI : FieldRef := ⟨SWC.FDB_D1, 0, 16⟩

/-- SWC_FDB_D2 (R242). -/
def SWC.FDB_D2 : Nat := 0x3000300050

/-- Bits [15:15] of SWC_FDB_D2. -/
def SWC.FDB_D2_TCOV_EN : FieldRef := ⟨SWC.FDB_D2, 15, 1⟩

/-- Bits [14:12] of SWC_FDB_D2. -/
def SWC.FDB_D2_TC : FieldRef := ⟨SWC.FDB_D2, 12, 3⟩

/-- Bits [11:0] of SWC_FDB_D2. -/
def SWC.FDB_D2_PORTS : FieldRef := ⟨SWC.FDB_D2, 0, 12⟩

/-- SWC_PCFG (R241). -/
def SWC.PCFG (p : Nat) : Nat := 0x3000301000 + p * 0x40

/-- Bits [0:0] of SWC_PCFG. -/
def SWC.PCFG_CT_EN (p : Nat) : FieldRef := ⟨SWC.PCFG p, 0, 1⟩

/-- SWC_PNODEST (R241). -/
def SWC.PNODEST (p : Nat) : Nat := 0x3000301004 + p * 0x40

/-- Bits [31:0] of SWC_PNODEST. -/
def SWC.PNODEST_COUNT (p : Nat) : FieldRef := ⟨SWC.PNODEST p, 0, 32⟩

/-- SWC_PRESEQ_TMO (R241). -/
def SWC.PRESEQ_TMO (p : Nat) : Nat := 0x3000301008 + p * 0x40

/-- Bits [31:0] of SWC_PRESEQ_TMO. -/
def SWC.PRESEQ_TMO_COUNT (p : Nat) : FieldRef := ⟨SWC.PRESEQ_TMO p, 0, 32⟩

/-- SWC_PRESEQ_LATE (R241). -/
def SWC.PRESEQ_LATE (p : Nat) : Nat := 0x300030100C + p * 0x40

/-- Bits [31:0] of SWC_PRESEQ_LATE. -/
def SWC.PRESEQ_LATE_COUNT (p : Nat) : FieldRef := ⟨SWC.PRESEQ_LATE p, 0, 32⟩

/-- SWC_PSTOMP (R241). -/
def SWC.PSTOMP (p : Nat) : Nat := 0x3000301010 + p * 0x40

/-- Bits [31:0] of SWC_PSTOMP. -/
def SWC.PSTOMP_COUNT (p : Nat) : FieldRef := ⟨SWC.PSTOMP p, 0, 32⟩

/-- SWC_PAGE_DROP (R241). -/
def SWC.PAGE_DROP (p : Nat) : Nat := 0x3000301014 + p * 0x40

/-- Bits [31:0] of SWC_PAGE_DROP. -/
def SWC.PAGE_DROP_COUNT (p : Nat) : FieldRef := ⟨SWC.PAGE_DROP p, 0, 32⟩

/-- SWC_PDOWN_DROP (R241). -/
def SWC.PDOWN_DROP (p : Nat) : Nat := 0x3000301018 + p * 0x40

/-- Bits [31:0] of SWC_PDOWN_DROP. -/
def SWC.PDOWN_DROP_COUNT (p : Nat) : FieldRef := ⟨SWC.PDOWN_DROP p, 0, 32⟩

/-- SWC_PLEN_DROP (R241). -/
def SWC.PLEN_DROP (p : Nat) : Nat := 0x300030101C + p * 0x40

/-- Bits [31:0] of SWC_PLEN_DROP. -/
def SWC.PLEN_DROP_COUNT (p : Nat) : FieldRef := ⟨SWC.PLEN_DROP p, 0, 32⟩

/-- SWC_QTHR (R241). -/
def SWC.QTHR (p : Nat) (e : Nat) : Nat := 0x3000304000 + p * 0x80 + e * 0x10

/-- Bits [19:16] of SWC_QTHR. -/
def SWC.QTHR_K (p : Nat) (e : Nat) : FieldRef := ⟨SWC.QTHR p e, 16, 4⟩

/-- Bits [12:0] of SWC_QTHR. -/
def SWC.QTHR_MIN (p : Nat) (e : Nat) : FieldRef := ⟨SWC.QTHR p e, 0, 13⟩

/-- SWC_QUSED (R241). -/
def SWC.QUSED (p : Nat) (e : Nat) : Nat := 0x3000304004 + p * 0x80 + e * 0x10

/-- Bits [16:0] of SWC_QUSED. -/
def SWC.QUSED_USED (p : Nat) (e : Nat) : FieldRef := ⟨SWC.QUSED p e, 0, 17⟩

/-- SWC_QDROP (R241). -/
def SWC.QDROP (p : Nat) (e : Nat) : Nat := 0x3000304008 + p * 0x80 + e * 0x10

/-- Bits [31:0] of SWC_QDROP. -/
def SWC.QDROP_COUNT (p : Nat) (e : Nat) : FieldRef := ⟨SWC.QDROP p e, 0, 32⟩

/-- SWC_VLAN (R243). -/
def SWC.VLAN (p : Nat) (e : Nat) : Nat := 0x3000310000 + p * 0x8000 + e * 0x8

/-- Bits [43:32] of SWC_VLAN. -/
def SWC.VLAN_UMFLOOD (p : Nat) (e : Nat) : FieldRef := ⟨SWC.VLAN p e, 32, 12⟩

/-- Bits [27:16] of SWC_VLAN. -/
def SWC.VLAN_UUFLOOD (p : Nat) (e : Nat) : FieldRef := ⟨SWC.VLAN p e, 16, 12⟩

/-- Bits [11:0] of SWC_VLAN. -/
def SWC.VLAN_MEMBER (p : Nat) (e : Nat) : FieldRef := ⟨SWC.VLAN p e, 0, 12⟩

/-- SWC_CLS_W0 (R243). -/
def SWC.CLS_W0 (p : Nat) (e : Nat) : Nat := 0x3000320000 + p * 0x2000 + e * 0x20

/-- Bits [31:0] of SWC_CLS_W0. -/
def SWC.CLS_W0_DA_LO (p : Nat) (e : Nat) : FieldRef := ⟨SWC.CLS_W0 p e, 0, 32⟩

/-- SWC_CLS_W1 (R243). -/
def SWC.CLS_W1 (p : Nat) (e : Nat) : Nat := 0x3000320004 + p * 0x2000 + e * 0x20

/-- Bits [31:16] of SWC_CLS_W1. -/
def SWC.CLS_W1_ETYPE (p : Nat) (e : Nat) : FieldRef := ⟨SWC.CLS_W1 p e, 16, 16⟩

/-- Bits [15:0] of SWC_CLS_W1. -/
def SWC.CLS_W1_DA_HI (p : Nat) (e : Nat) : FieldRef := ⟨SWC.CLS_W1 p e, 0, 16⟩

/-- SWC_CLS_W2 (R243). -/
def SWC.CLS_W2 (p : Nat) (e : Nat) : Nat := 0x3000320008 + p * 0x2000 + e * 0x20

/-- Bits [31:0] of SWC_CLS_W2. -/
def SWC.CLS_W2_DAMASK_LO (p : Nat) (e : Nat) : FieldRef := ⟨SWC.CLS_W2 p e, 0, 32⟩

/-- SWC_CLS_W3 (R243). -/
def SWC.CLS_W3 (p : Nat) (e : Nat) : Nat := 0x300032000C + p * 0x2000 + e * 0x20

/-- Bits [31:16] of SWC_CLS_W3. -/
def SWC.CLS_W3_APPID (p : Nat) (e : Nat) : FieldRef := ⟨SWC.CLS_W3 p e, 16, 16⟩

/-- Bits [15:0] of SWC_CLS_W3. -/
def SWC.CLS_W3_DAMASK_HI (p : Nat) (e : Nat) : FieldRef := ⟨SWC.CLS_W3 p e, 0, 16⟩

/-- SWC_CLS_W4 (R243). -/
def SWC.CLS_W4 (p : Nat) (e : Nat) : Nat := 0x3000320010 + p * 0x2000 + e * 0x20

/-- Bits [31:31] of SWC_CLS_W4. -/
def SWC.CLS_W4_C_PCP (p : Nat) (e : Nat) : FieldRef := ⟨SWC.CLS_W4 p e, 31, 1⟩

/-- Bits [30:30] of SWC_CLS_W4. -/
def SWC.CLS_W4_C_VID (p : Nat) (e : Nat) : FieldRef := ⟨SWC.CLS_W4 p e, 30, 1⟩

/-- Bits [29:29] of SWC_CLS_W4. -/
def SWC.CLS_W4_C_APPID (p : Nat) (e : Nat) : FieldRef := ⟨SWC.CLS_W4 p e, 29, 1⟩

/-- Bits [28:28] of SWC_CLS_W4. -/
def SWC.CLS_W4_C_ETYPE (p : Nat) (e : Nat) : FieldRef := ⟨SWC.CLS_W4 p e, 28, 1⟩

/-- Bits [27:16] of SWC_CLS_W4. -/
def SWC.CLS_W4_INPORTS (p : Nat) (e : Nat) : FieldRef := ⟨SWC.CLS_W4 p e, 16, 12⟩

/-- Bits [14:12] of SWC_CLS_W4. -/
def SWC.CLS_W4_PCP (p : Nat) (e : Nat) : FieldRef := ⟨SWC.CLS_W4 p e, 12, 3⟩

/-- Bits [11:0] of SWC_CLS_W4. -/
def SWC.CLS_W4_VID (p : Nat) (e : Nat) : FieldRef := ⟨SWC.CLS_W4 p e, 0, 12⟩

/-- SWC_CLS_W5 (R243). -/
def SWC.CLS_W5 (p : Nat) (e : Nat) : Nat := 0x3000320014 + p * 0x2000 + e * 0x20

/-- Bits [31:31] of SWC_CLS_W5. -/
def SWC.CLS_W5_EN (p : Nat) (e : Nat) : FieldRef := ⟨SWC.CLS_W5 p e, 31, 1⟩

/-- Bits [30:30] of SWC_CLS_W5. -/
def SWC.CLS_W5_MIRROR (p : Nat) (e : Nat) : FieldRef := ⟨SWC.CLS_W5 p e, 30, 1⟩

/-- Bits [29:28] of SWC_CLS_W5. -/
def SWC.CLS_W5_ACTION (p : Nat) (e : Nat) : FieldRef := ⟨SWC.CLS_W5 p e, 28, 2⟩

/-- Bits [27:27] of SWC_CLS_W5. -/
def SWC.CLS_W5_TC_EN (p : Nat) (e : Nat) : FieldRef := ⟨SWC.CLS_W5 p e, 27, 1⟩

/-- Bits [26:24] of SWC_CLS_W5. -/
def SWC.CLS_W5_TC (p : Nat) (e : Nat) : FieldRef := ⟨SWC.CLS_W5 p e, 24, 3⟩

/-- Bits [11:0] of SWC_CLS_W5. -/
def SWC.CLS_W5_REDIR (p : Nat) (e : Nat) : FieldRef := ⟨SWC.CLS_W5 p e, 0, 12⟩

/-- Rows of the register map of SWC. -/
def regsSwc0 : List RegDesc := [
  ⟨"SWC_CFG", 0x3000300000, [], 32, [⟨"AGELIM", 9, 0, .rw, 250, .s, []⟩]⟩,
  ⟨"SWC_STATUS", 0x3000300004, [], 32, [⟨"LEN_DROP", 7, 7, .w1c, 0, .s, []⟩,
    ⟨"EPOCH_REFUSED", 6, 6, .w1c, 0, .s, []⟩,
    ⟨"CFG_REFUSED", 5, 5, .w1c, 0, .s, []⟩,
    ⟨"LOOKUP_ERR", 4, 4, .w1c, 0, .s, []⟩,
    ⟨"RESEQ", 3, 3, .w1c, 0, .s, []⟩,
    ⟨"STOMP", 2, 2, .w1c, 0, .s, []⟩,
    ⟨"AGE_DROP", 1, 1, .w1c, 0, .s, []⟩,
    ⟨"THR_DROP", 0, 0, .w1c, 0, .s, []⟩]⟩,
  ⟨"SWC_EPOCH", 0x3000300010, [], 32, [⟨"CLS_FLIP", 5, 5, .wo, 0, .s, []⟩,
    ⟨"FDB_FLIP", 4, 4, .wo, 0, .s, []⟩,
    ⟨"CLS_ACT", 1, 1, .ro, 0, .s, []⟩,
    ⟨"FDB_ACT", 0, 0, .ro, 0, .s, []⟩]⟩,
  ⟨"SWC_MIR_CFG", 0x3000300030, [], 32, [⟨"EN", 31, 31, .rw, 0, .s, []⟩,
    ⟨"MIR_TC", 30, 28, .rw, 0, .s, []⟩,
    ⟨"APORT", 27, 24, .rw, 0, .s, [(0, 9), (11, 11)]⟩,
    ⟨"INGMASK", 11, 0, .rw, 0, .s, []⟩]⟩,
  ⟨"SWC_ENABLE", 0x3000300008, [], 32, [⟨"LEN_DROP", 7, 7, .rw, 0, .s, []⟩,
    ⟨"EPOCH_REFUSED", 6, 6, .rw, 0, .s, []⟩,
    ⟨"CFG_REFUSED", 5, 5, .rw, 0, .s, []⟩,
    ⟨"LOOKUP_ERR", 4, 4, .rw, 0, .s, []⟩,
    ⟨"RESEQ", 3, 3, .rw, 0, .s, []⟩,
    ⟨"STOMP", 2, 2, .rw, 0, .s, []⟩,
    ⟨"AGE_DROP", 1, 1, .rw, 0, .s, []⟩,
    ⟨"THR_DROP", 0, 0, .rw, 0, .s, []⟩]⟩,
  ⟨"SWC_FDB_DRAIN0", 0x3000300014, [], 32, [⟨"COUNT", 16, 0, .ro, 0, .s, []⟩]⟩,
  ⟨"SWC_FDB_DRAIN1", 0x3000300018, [], 32, [⟨"COUNT", 16, 0, .ro, 0, .s, []⟩]⟩,
  ⟨"SWC_CLS_DRAIN0", 0x300030001C, [], 32, [⟨"COUNT", 16, 0, .ro, 0, .s, []⟩]⟩,
  ⟨"SWC_CLS_DRAIN1", 0x3000300020, [], 32, [⟨"COUNT", 16, 0, .ro, 0, .s, []⟩]⟩,
  ⟨"SWC_FREE", 0x3000300024, [], 32, [⟨"FREE", 16, 0, .ro, 64000, .s, []⟩]⟩,
  ⟨"SWC_LOOKUP_ERR", 0x3000300028, [], 32, [⟨"COUNT", 31, 0, .ro, 0, .s, []⟩]⟩,
  ⟨"SWC_MIR_EG", 0x3000300034, [], 32, [⟨"EGMASK", 11, 0, .rw, 0, .s, []⟩]⟩]

/-- Rows of the register map of SWC. -/
def regsSwc1 : List RegDesc := [
  ⟨"SWC_FDB_CMD", 0x3000300040, [], 32, [⟨"INDEX", 31, 16, .rw, 0, .s, []⟩,
    ⟨"EPOCH", 4, 4, .rw, 0, .s, []⟩,
    ⟨"OP", 2, 0, .rw, 0, .s, []⟩]⟩,
  ⟨"SWC_FDB_RES", 0x3000300044, [], 32, [⟨"INDEX", 31, 16, .ro, 0, .s, []⟩,
    ⟨"CODE", 2, 1, .ro, 0, .s, []⟩,
    ⟨"BUSY", 0, 0, .ro, 0, .s, []⟩]⟩,
  ⟨"SWC_FDB_D0", 0x3000300048, [], 32, [⟨"MAC_LO", 31, 0, .rw, 0, .s, []⟩]⟩,
  ⟨"SWC_FDB_D1", 0x300030004C, [], 32, [⟨"VALID", 31, 31, .rw, 0, .s, []⟩,
    ⟨"VID", 27, 16, .rw, 0, .s, []⟩,
    ⟨"MAC_HI", 15, 0, .rw, 0, .s, []⟩]⟩,
  ⟨"SWC_FDB_D2", 0x3000300050, [], 32, [⟨"TCOV_EN", 15, 15, .rw, 0, .s, []⟩,
    ⟨"TC", 14, 12, .rw, 0, .s, []⟩,
    ⟨"PORTS", 11, 0, .rw, 0, .s, []⟩]⟩,
  ⟨"SWC_PCFG", 0x3000301000, [(64, 12)], 32, [⟨"CT_EN", 0, 0, .rw, 1, .s, []⟩]⟩,
  ⟨"SWC_PNODEST", 0x3000301004, [(64, 12)], 32, [⟨"COUNT", 31, 0, .ro, 0, .l, []⟩]⟩,
  ⟨"SWC_PRESEQ_TMO", 0x3000301008, [(64, 12)], 32, [⟨"COUNT", 31, 0, .ro, 0, .l, []⟩]⟩,
  ⟨"SWC_PRESEQ_LATE", 0x300030100C, [(64, 12)], 32, [⟨"COUNT", 31, 0, .ro, 0, .l, []⟩]⟩,
  ⟨"SWC_PSTOMP", 0x3000301010, [(64, 12)], 32, [⟨"COUNT", 31, 0, .ro, 0, .l, []⟩]⟩,
  ⟨"SWC_PAGE_DROP", 0x3000301014, [(64, 12)], 32, [⟨"COUNT", 31, 0, .ro, 0, .l, []⟩]⟩,
  ⟨"SWC_PDOWN_DROP", 0x3000301018, [(64, 12)], 32, [⟨"COUNT", 31, 0, .ro, 0, .l, []⟩]⟩]

/-- Rows of the register map of SWC. -/
def regsSwc2 : List RegDesc := [
  ⟨"SWC_PLEN_DROP", 0x300030101C, [(64, 12)], 32, [⟨"COUNT", 31, 0, .ro, 0, .l, []⟩]⟩,
  ⟨"SWC_QTHR", 0x3000304000, [(128, 12), (16, 8)], 32, [⟨"K", 19, 16, .rw, 0, .s, [(0, 3), (12, 15)]⟩,
    ⟨"MIN", 12, 0, .rw, 16, .s, [(1, 4096)]⟩]⟩,
  ⟨"SWC_QUSED", 0x3000304004, [(128, 12), (16, 8)], 32, [⟨"USED", 16, 0, .ro, 0, .l, []⟩]⟩,
  ⟨"SWC_QDROP", 0x3000304008, [(128, 12), (16, 8)], 32, [⟨"COUNT", 31, 0, .ro, 0, .l, []⟩]⟩,
  ⟨"SWC_VLAN", 0x3000310000, [(32768, 2), (8, 4096)], 64, [⟨"UMFLOOD", 43, 32, .rw, 0, .s, []⟩,
    ⟨"UUFLOOD", 27, 16, .rw, 0, .s, []⟩,
    ⟨"MEMBER", 11, 0, .rw, 0, .s, []⟩]⟩,
  ⟨"SWC_CLS_W0", 0x3000320000, [(8192, 2), (32, 256)], 32, [⟨"DA_LO", 31, 0, .rw, 0, .s, []⟩]⟩,
  ⟨"SWC_CLS_W1", 0x3000320004, [(8192, 2), (32, 256)], 32, [⟨"ETYPE", 31, 16, .rw, 0, .s, []⟩,
    ⟨"DA_HI", 15, 0, .rw, 0, .s, []⟩]⟩,
  ⟨"SWC_CLS_W2", 0x3000320008, [(8192, 2), (32, 256)], 32, [⟨"DAMASK_LO", 31, 0, .rw, 0, .s, []⟩]⟩,
  ⟨"SWC_CLS_W3", 0x300032000C, [(8192, 2), (32, 256)], 32, [⟨"APPID", 31, 16, .rw, 0, .s, []⟩,
    ⟨"DAMASK_HI", 15, 0, .rw, 0, .s, []⟩]⟩,
  ⟨"SWC_CLS_W4", 0x3000320010, [(8192, 2), (32, 256)], 32, [⟨"C_PCP", 31, 31, .rw, 0, .s, []⟩,
    ⟨"C_VID", 30, 30, .rw, 0, .s, []⟩,
    ⟨"C_APPID", 29, 29, .rw, 0, .s, []⟩,
    ⟨"C_ETYPE", 28, 28, .rw, 0, .s, []⟩,
    ⟨"INPORTS", 27, 16, .rw, 0, .s, []⟩,
    ⟨"PCP", 14, 12, .rw, 0, .s, []⟩,
    ⟨"VID", 11, 0, .rw, 0, .s, []⟩]⟩,
  ⟨"SWC_CLS_W5", 0x3000320014, [(8192, 2), (32, 256)], 32, [⟨"EN", 31, 31, .rw, 0, .s, []⟩,
    ⟨"MIRROR", 30, 30, .rw, 0, .s, []⟩,
    ⟨"ACTION", 29, 28, .rw, 0, .s, [(0, 2)]⟩,
    ⟨"TC_EN", 27, 27, .rw, 0, .s, []⟩,
    ⟨"TC", 26, 24, .rw, 0, .s, []⟩,
    ⟨"REDIR", 11, 0, .rw, 0, .s, []⟩]⟩]

/-- The register map of SWC. -/
def regsSwc : List RegDesc :=
  regsSwc0 ++ regsSwc1 ++ regsSwc2

end Sys2Proof.Machine
end

