-- ==== Sys2Proof/Machine/RegsSys.lean ====
section
/-!
DEFINITION. Machine/RegsSys.lean: the register map of block SYS (R52), from the field tables of its chapter: the address of
every register, the place of every field, and the table that REGISTER_WRITE and the resets read.
-/

namespace Sys2Proof.Machine


/-- SYS_DEVID (R7). -/
def SYS.DEVID : Nat := 0x3000000000

/-- Bits [31:28] of SYS_DEVID. -/
def SYS.DEVID_REV : FieldRef := ⟨SYS.DEVID, 28, 4⟩

/-- Bits [27:24] of SYS_DEVID. -/
def SYS.DEVID_STEP : FieldRef := ⟨SYS.DEVID, 24, 4⟩

/-- Bits [23:8] of SYS_DEVID. -/
def SYS.DEVID_PART : FieldRef := ⟨SYS.DEVID, 8, 16⟩

/-- Bits [7:0] of SYS_DEVID. -/
def SYS.DEVID_VENDOR : FieldRef := ⟨SYS.DEVID, 0, 8⟩

/-- SYS_SERIAL (R7). -/
def SYS.SERIAL : Nat := 0x3000000008

/-- Bits [63:24] of SYS_SERIAL. -/
def SYS.SERIAL_LOT : FieldRef := ⟨SYS.SERIAL, 24, 40⟩

/-- Bits [23:16] of SYS_SERIAL. -/
def SYS.SERIAL_WAFER : FieldRef := ⟨SYS.SERIAL, 16, 8⟩

/-- Bits [15:8] of SYS_SERIAL. -/
def SYS.SERIAL_DIE_X : FieldRef := ⟨SYS.SERIAL, 8, 8⟩

/-- Bits [7:0] of SYS_SERIAL. -/
def SYS.SERIAL_DIE_Y : FieldRef := ⟨SYS.SERIAL, 0, 8⟩

/-- SYS_STATUS (R756). -/
def SYS.STATUS : Nat := 0x3000000010

/-- Bits [3:3] of SYS_STATUS. -/
def SYS.STATUS_LEVEL_REFUSED : FieldRef := ⟨SYS.STATUS, 3, 1⟩

/-- Bits [2:2] of SYS_STATUS. -/
def SYS.STATUS_PWR_REFUSED : FieldRef := ⟨SYS.STATUS, 2, 1⟩

/-- Bits [1:1] of SYS_STATUS. -/
def SYS.STATUS_WDT_HALF : FieldRef := ⟨SYS.STATUS, 1, 1⟩

/-- Bits [0:0] of SYS_STATUS. -/
def SYS.STATUS_UNMAP : FieldRef := ⟨SYS.STATUS, 0, 1⟩

/-- SYS_RST_CMD (R756). -/
def SYS.RST_CMD : Nat := 0x3000000018

/-- Bits [31:16] of SYS_RST_CMD. -/
def SYS.RST_CMD_KEY : FieldRef := ⟨SYS.RST_CMD, 16, 16⟩

/-- Bits [1:0] of SYS_RST_CMD. -/
def SYS.RST_CMD_OP : FieldRef := ⟨SYS.RST_CMD, 0, 2⟩

/-- SYS_RST_CAUSE (R756). -/
def SYS.RST_CAUSE : Nat := 0x300000001C

/-- Bits [6:0] of SYS_RST_CAUSE. -/
def SYS.RST_CAUSE_CAUSE : FieldRef := ⟨SYS.RST_CAUSE, 0, 7⟩

/-- SYS_PWR_CMD (R756). -/
def SYS.PWR_CMD : Nat := 0x3000000020

/-- Bits [31:16] of SYS_PWR_CMD. -/
def SYS.PWR_CMD_KEY : FieldRef := ⟨SYS.PWR_CMD, 16, 16⟩

/-- Bits [1:0] of SYS_PWR_CMD. -/
def SYS.PWR_CMD_OP : FieldRef := ⟨SYS.PWR_CMD, 0, 2⟩

/-- SYS_PWR_STATE (R756). -/
def SYS.PWR_STATE : Nat := 0x3000000024

/-- Bits [1:0] of SYS_PWR_STATE. -/
def SYS.PWR_STATE_STATE : FieldRef := ⟨SYS.PWR_STATE, 0, 2⟩

/-- SYS_WAKE_CFG (R756). -/
def SYS.WAKE_CFG : Nat := 0x3000000028

/-- Bits [2:2] of SYS_WAKE_CFG. -/
def SYS.WAKE_CFG_TIMER_EN : FieldRef := ⟨SYS.WAKE_CFG, 2, 1⟩

/-- Bits [1:0] of SYS_WAKE_CFG. -/
def SYS.WAKE_CFG_GPIO0 : FieldRef := ⟨SYS.WAKE_CFG, 0, 2⟩

/-- SYS_WAKE_SEC (R756). -/
def SYS.WAKE_SEC : Nat := 0x3000000030

/-- Bits [47:0] of SYS_WAKE_SEC. -/
def SYS.WAKE_SEC_SEC : FieldRef := ⟨SYS.WAKE_SEC, 0, 48⟩

/-- SYS_WDT_CFG (R756). -/
def SYS.WDT_CFG : Nat := 0x3000000038

/-- Bits [31:31] of SYS_WDT_CFG. -/
def SYS.WDT_CFG_EN : FieldRef := ⟨SYS.WDT_CFG, 31, 1⟩

/-- Bits [15:0] of SYS_WDT_CFG. -/
def SYS.WDT_CFG_TIMEOUT : FieldRef := ⟨SYS.WDT_CFG, 0, 16⟩

/-- SYS_WDT_KICK (R756). -/
def SYS.WDT_KICK : Nat := 0x300000003C

/-- Bits [15:0] of SYS_WDT_KICK. -/
def SYS.WDT_KICK_KEY : FieldRef := ⟨SYS.WDT_KICK, 0, 16⟩

/-- SYS_WDT_LEFT (R756). -/
def SYS.WDT_LEFT : Nat := 0x3000000040

/-- Bits [15:0] of SYS_WDT_LEFT. -/
def SYS.WDT_LEFT_MS : FieldRef := ⟨SYS.WDT_LEFT, 0, 16⟩

/-- SYS_UNMAP_ADDR (R756). -/
def SYS.UNMAP_ADDR : Nat := 0x3000000048

/-- Bits [39:0] of SYS_UNMAP_ADDR. -/
def SYS.UNMAP_ADDR_ADDR : FieldRef := ⟨SYS.UNMAP_ADDR, 0, 40⟩

/-- SYS_UNMAP_INFO (R756). -/
def SYS.UNMAP_INFO : Nat := 0x3000000050

/-- Bits [31:31] of SYS_UNMAP_INFO. -/
def SYS.UNMAP_INFO_VALID : FieldRef := ⟨SYS.UNMAP_INFO, 31, 1⟩

/-- Bits [8:8] of SYS_UNMAP_INFO. -/
def SYS.UNMAP_INFO_WRITE : FieldRef := ⟨SYS.UNMAP_INFO, 8, 1⟩

/-- Bits [6:0] of SYS_UNMAP_INFO. -/
def SYS.UNMAP_INFO_PORT : FieldRef := ⟨SYS.UNMAP_INFO, 0, 7⟩

/-- SYS_BOOT (R756). -/
def SYS.BOOT : Nat := 0x3000000054

/-- Bits [31:16] of SYS_BOOT. -/
def SYS.BOOT_SVN : FieldRef := ⟨SYS.BOOT, 16, 16⟩

/-- Bits [9:8] of SYS_BOOT. -/
def SYS.BOOT_COPY : FieldRef := ⟨SYS.BOOT, 8, 2⟩

/-- Bits [3:0] of SYS_BOOT. -/
def SYS.BOOT_RESULT : FieldRef := ⟨SYS.BOOT, 0, 4⟩

/-- SYS_CORE_REL (R756). -/
def SYS.CORE_REL : Nat := 0x3000000058

/-- Bits [3:1] of SYS_CORE_REL. -/
def SYS.CORE_REL_REL : FieldRef := ⟨SYS.CORE_REL, 1, 3⟩

/-- SYS_ENABLE (R756). -/
def SYS.ENABLE : Nat := 0x3000000014

/-- Bits [3:3] of SYS_ENABLE. -/
def SYS.ENABLE_LEVEL_REFUSED : FieldRef := ⟨SYS.ENABLE, 3, 1⟩

/-- Bits [2:2] of SYS_ENABLE. -/
def SYS.ENABLE_PWR_REFUSED : FieldRef := ⟨SYS.ENABLE, 2, 1⟩

/-- Bits [1:1] of SYS_ENABLE. -/
def SYS.ENABLE_WDT_HALF : FieldRef := ⟨SYS.ENABLE, 1, 1⟩

/-- Bits [0:0] of SYS_ENABLE. -/
def SYS.ENABLE_UNMAP : FieldRef := ⟨SYS.ENABLE, 0, 1⟩

/-- SYS_SCRATCH (R756). -/
def SYS.SCRATCH (p : Nat) : Nat := 0x3000000060 + p * 0x4

/-- Bits [31:0] of SYS_SCRATCH. -/
def SYS.SCRATCH_DATA (p : Nat) : FieldRef := ⟨SYS.SCRATCH p, 0, 32⟩

/-- Rows of the register map of SYS. -/
def regsSys0 : List RegDesc := [
  ⟨"SYS_DEVID", 0x3000000000, [], 32, [⟨"REV", 31, 28, .ro, 0, .p, []⟩,
    ⟨"STEP", 27, 24, .ro, 0, .p, []⟩,
    ⟨"PART", 23, 8, .ro, 17424, .p, []⟩,
    ⟨"VENDOR", 7, 0, .ro, 92, .p, []⟩]⟩,
  ⟨"SYS_SERIAL", 0x3000000008, [], 64, [⟨"LOT", 63, 24, .ro, 0, .p, []⟩,
    ⟨"WAFER", 23, 16, .ro, 0, .p, []⟩,
    ⟨"DIE_X", 15, 8, .ro, 0, .p, []⟩,
    ⟨"DIE_Y", 7, 0, .ro, 0, .p, []⟩]⟩,
  ⟨"SYS_STATUS", 0x3000000010, [], 32, [⟨"LEVEL_REFUSED", 3, 3, .w1c, 0, .s, []⟩,
    ⟨"PWR_REFUSED", 2, 2, .w1c, 0, .s, []⟩,
    ⟨"WDT_HALF", 1, 1, .w1c, 0, .s, []⟩,
    ⟨"UNMAP", 0, 0, .w1c, 0, .s, []⟩]⟩,
  ⟨"SYS_RST_CMD", 0x3000000018, [], 32, [⟨"KEY", 31, 16, .wo, 0, .s, []⟩,
    ⟨"OP", 1, 0, .wo, 0, .s, []⟩]⟩,
  ⟨"SYS_RST_CAUSE", 0x300000001C, [], 32, [⟨"CAUSE", 6, 0, .w1c, 1, .p, []⟩]⟩,
  ⟨"SYS_PWR_CMD", 0x3000000020, [], 32, [⟨"KEY", 31, 16, .wo, 0, .s, []⟩,
    ⟨"OP", 1, 0, .wo, 0, .s, []⟩]⟩,
  ⟨"SYS_PWR_STATE", 0x3000000024, [], 32, [⟨"STATE", 1, 0, .ro, 0, .s, []⟩]⟩,
  ⟨"SYS_WAKE_CFG", 0x3000000028, [], 32, [⟨"TIMER_EN", 2, 2, .rw, 0, .p, []⟩,
    ⟨"GPIO0", 1, 0, .rw, 0, .p, []⟩]⟩,
  ⟨"SYS_WAKE_SEC", 0x3000000030, [], 64, [⟨"SEC", 47, 0, .rw, 0, .p, []⟩]⟩,
  ⟨"SYS_WDT_CFG", 0x3000000038, [], 32, [⟨"EN", 31, 31, .w1s, 0, .s, []⟩,
    ⟨"TIMEOUT", 15, 0, .rw, 2000, .s, [(10, 65535)]⟩]⟩,
  ⟨"SYS_WDT_KICK", 0x300000003C, [], 32, [⟨"KEY", 15, 0, .wo, 0, .s, []⟩]⟩,
  ⟨"SYS_WDT_LEFT", 0x3000000040, [], 32, [⟨"MS", 15, 0, .ro, 0, .s, []⟩]⟩]

/-- Rows of the register map of SYS. -/
def regsSys1 : List RegDesc := [
  ⟨"SYS_UNMAP_ADDR", 0x3000000048, [], 64, [⟨"ADDR", 39, 0, .ro, 0, .s, []⟩]⟩,
  ⟨"SYS_UNMAP_INFO", 0x3000000050, [], 32, [⟨"VALID", 31, 31, .ro, 0, .s, []⟩,
    ⟨"WRITE", 8, 8, .ro, 0, .s, []⟩,
    ⟨"PORT", 6, 0, .ro, 0, .s, []⟩]⟩,
  ⟨"SYS_BOOT", 0x3000000054, [], 32, [⟨"SVN", 31, 16, .rw, 0, .s, []⟩,
    ⟨"COPY", 9, 8, .rw, 0, .s, [(0, 2)]⟩,
    ⟨"RESULT", 3, 0, .rw, 0, .s, [(0, 3)]⟩]⟩,
  ⟨"SYS_CORE_REL", 0x3000000058, [], 32, [⟨"REL", 3, 1, .w1s, 0, .s, []⟩]⟩,
  ⟨"SYS_ENABLE", 0x3000000014, [], 32, [⟨"LEVEL_REFUSED", 3, 3, .rw, 0, .s, []⟩,
    ⟨"PWR_REFUSED", 2, 2, .rw, 0, .s, []⟩,
    ⟨"WDT_HALF", 1, 1, .rw, 0, .s, []⟩,
    ⟨"UNMAP", 0, 0, .rw, 0, .s, []⟩]⟩,
  ⟨"SYS_SCRATCH", 0x3000000060, [(4, 4)], 32, [⟨"DATA", 31, 0, .rw, 0, .p, []⟩]⟩]

/-- The register map of SYS. -/
def regsSys : List RegDesc :=
  regsSys0 ++ regsSys1

end Sys2Proof.Machine
end

