-- ==== Sys2Proof/Machine/RegsTab.lean ====
section
/-!
DEFINITION. Machine/RegsTab.lean: the register map of block TAB (R52), from the field tables of its chapter: the address of
every register, the place of every field, and the table that REGISTER_WRITE and the resets read.
-/

namespace Sys2Proof.Machine


/-- TAB_CTL (R117). -/
def TAB.CTL : Nat := 0x3000100000

/-- Bits [11:10] of TAB_CTL. -/
def TAB.CTL_PPSOUT_MODE : FieldRef := ⟨TAB.CTL, 10, 2⟩

/-- Bits [9:7] of TAB_CTL. -/
def TAB.CTL_TICKDIV : FieldRef := ⟨TAB.CTL, 7, 3⟩

/-- Bits [6:6] of TAB_CTL. -/
def TAB.CTL_ANGLE_SRC : FieldRef := ⟨TAB.CTL, 6, 1⟩

/-- Bits [5:5] of TAB_CTL. -/
def TAB.CTL_NOMF : FieldRef := ⟨TAB.CTL, 5, 1⟩

/-- Bits [4:4] of TAB_CTL. -/
def TAB.CTL_WS_EN : FieldRef := ⟨TAB.CTL, 4, 1⟩

/-- Bits [3:3] of TAB_CTL. -/
def TAB.CTL_REF10M : FieldRef := ⟨TAB.CTL, 3, 1⟩

/-- Bits [2:1] of TAB_CTL. -/
def TAB.CTL_SRC : FieldRef := ⟨TAB.CTL, 1, 2⟩

/-- Bits [0:0] of TAB_CTL. -/
def TAB.CTL_SERVO_EN : FieldRef := ⟨TAB.CTL, 0, 1⟩

/-- TAB_STATUS (R118). -/
def TAB.STATUS : Nat := 0x3000100004

/-- Bits [14:14] of TAB_STATUS. -/
def TAB.STATUS_CMP_ANY : FieldRef := ⟨TAB.STATUS, 14, 1⟩

/-- Bits [13:13] of TAB_STATUS. -/
def TAB.STATUS_CMP_LATE : FieldRef := ⟨TAB.STATUS, 13, 1⟩

/-- Bits [12:12] of TAB_STATUS. -/
def TAB.STATUS_PARTNER_REFUSED : FieldRef := ⟨TAB.STATUS, 12, 1⟩

/-- Bits [11:11] of TAB_STATUS. -/
def TAB.STATUS_WS_PHJUMP : FieldRef := ⟨TAB.STATUS, 11, 1⟩

/-- Bits [10:10] of TAB_STATUS. -/
def TAB.STATUS_WS_FALLBACK : FieldRef := ⟨TAB.STATUS, 10, 1⟩

/-- Bits [9:9] of TAB_STATUS. -/
def TAB.STATUS_WS_UNLOCK : FieldRef := ⟨TAB.STATUS, 9, 1⟩

/-- Bits [8:8] of TAB_STATUS. -/
def TAB.STATUS_WS_LOCK : FieldRef := ⟨TAB.STATUS, 8, 1⟩

/-- Bits [7:7] of TAB_STATUS. -/
def TAB.STATUS_FU_DROP : FieldRef := ⟨TAB.STATUS, 7, 1⟩

/-- Bits [6:6] of TAB_STATUS. -/
def TAB.STATUS_EVQ_OVF : FieldRef := ⟨TAB.STATUS, 6, 1⟩

/-- Bits [5:5] of TAB_STATUS. -/
def TAB.STATUS_REF10M_LOSS : FieldRef := ⟨TAB.STATUS, 5, 1⟩

/-- Bits [4:4] of TAB_STATUS. -/
def TAB.STATUS_PPSIN_MISS : FieldRef := ⟨TAB.STATUS, 4, 1⟩

/-- Bits [3:3] of TAB_STATUS. -/
def TAB.STATUS_HO_EXPIRED : FieldRef := ⟨TAB.STATUS, 3, 1⟩

/-- Bits [2:2] of TAB_STATUS. -/
def TAB.STATUS_HO_ENTER : FieldRef := ⟨TAB.STATUS, 2, 1⟩

/-- Bits [1:1] of TAB_STATUS. -/
def TAB.STATUS_LOCK : FieldRef := ⟨TAB.STATUS, 1, 1⟩

/-- Bits [0:0] of TAB_STATUS. -/
def TAB.STATUS_TS_STEP : FieldRef := ⟨TAB.STATUS, 0, 1⟩

/-- TAB_STATE (R119). -/
def TAB.STATE : Nat := 0x300010000C

/-- Bits [7:7] of TAB_STATE. -/
def TAB.STATE_REF10M_ACT : FieldRef := ⟨TAB.STATE, 7, 1⟩

/-- Bits [6:4] of TAB_STATE. -/
def TAB.STATE_WS : FieldRef := ⟨TAB.STATE, 4, 3⟩

/-- Bits [3:3] of TAB_STATE. -/
def TAB.STATE_TOD_VALID : FieldRef := ⟨TAB.STATE, 3, 1⟩

/-- Bits [2:0] of TAB_STATE. -/
def TAB.STATE_SYNC : FieldRef := ⟨TAB.STATE, 0, 3⟩

/-- TAB_CMD (R120). -/
def TAB.CMD : Nat := 0x3000100010

/-- Bits [2:2] of TAB_CMD. -/
def TAB.CMD_EVQ_FLUSH : FieldRef := ⟨TAB.CMD, 2, 1⟩

/-- Bits [1:1] of TAB_CMD. -/
def TAB.CMD_LOAD : FieldRef := ⟨TAB.CMD, 1, 1⟩

/-- Bits [0:0] of TAB_CMD. -/
def TAB.CMD_SNAP : FieldRef := ⟨TAB.CMD, 0, 1⟩

/-- TAB_ENABLE (R118). -/
def TAB.ENABLE : Nat := 0x3000100008

/-- Bits [14:14] of TAB_ENABLE. -/
def TAB.ENABLE_CMP_ANY : FieldRef := ⟨TAB.ENABLE, 14, 1⟩

/-- Bits [13:13] of TAB_ENABLE. -/
def TAB.ENABLE_CMP_LATE : FieldRef := ⟨TAB.ENABLE, 13, 1⟩

/-- Bits [12:12] of TAB_ENABLE. -/
def TAB.ENABLE_PARTNER_REFUSED : FieldRef := ⟨TAB.ENABLE, 12, 1⟩

/-- Bits [11:11] of TAB_ENABLE. -/
def TAB.ENABLE_WS_PHJUMP : FieldRef := ⟨TAB.ENABLE, 11, 1⟩

/-- Bits [10:10] of TAB_ENABLE. -/
def TAB.ENABLE_WS_FALLBACK : FieldRef := ⟨TAB.ENABLE, 10, 1⟩

/-- Bits [9:9] of TAB_ENABLE. -/
def TAB.ENABLE_WS_UNLOCK : FieldRef := ⟨TAB.ENABLE, 9, 1⟩

/-- Bits [8:8] of TAB_ENABLE. -/
def TAB.ENABLE_WS_LOCK : FieldRef := ⟨TAB.ENABLE, 8, 1⟩

/-- Bits [7:7] of TAB_ENABLE. -/
def TAB.ENABLE_FU_DROP : FieldRef := ⟨TAB.ENABLE, 7, 1⟩

/-- Bits [6:6] of TAB_ENABLE. -/
def TAB.ENABLE_EVQ_OVF : FieldRef := ⟨TAB.ENABLE, 6, 1⟩

/-- Bits [5:5] of TAB_ENABLE. -/
def TAB.ENABLE_REF10M_LOSS : FieldRef := ⟨TAB.ENABLE, 5, 1⟩

/-- Bits [4:4] of TAB_ENABLE. -/
def TAB.ENABLE_PPSIN_MISS : FieldRef := ⟨TAB.ENABLE, 4, 1⟩

/-- Bits [3:3] of TAB_ENABLE. -/
def TAB.ENABLE_HO_EXPIRED : FieldRef := ⟨TAB.ENABLE, 3, 1⟩

/-- Bits [2:2] of TAB_ENABLE. -/
def TAB.ENABLE_HO_ENTER : FieldRef := ⟨TAB.ENABLE, 2, 1⟩

/-- Bits [1:1] of TAB_ENABLE. -/
def TAB.ENABLE_LOCK : FieldRef := ⟨TAB.ENABLE, 1, 1⟩

/-- Bits [0:0] of TAB_ENABLE. -/
def TAB.ENABLE_TS_STEP : FieldRef := ⟨TAB.ENABLE, 0, 1⟩

/-- TAB_SNAP_SEC (R125). -/
def TAB.SNAP_SEC : Nat := 0x3000100018

/-- TAB_SNAP_NS (R125). -/
def TAB.SNAP_NS : Nat := 0x3000100020

/-- TAB_SNAP_ANGLE (R125). -/
def TAB.SNAP_ANGLE : Nat := 0x3000100028

/-- TAB_TODSET_SEC (R125). -/
def TAB.TODSET_SEC : Nat := 0x3000100030

/-- TAB_TODSET_NS (R125). -/
def TAB.TODSET_NS : Nat := 0x3000100038

/-- TAB_STEP (R125). -/
def TAB.STEP : Nat := 0x3000100040

/-- TAB_SRV_OFFSET (R125). -/
def TAB.SRV_OFFSET : Nat := 0x3000100048

/-- TAB_SRV_RATE (R125). -/
def TAB.SRV_RATE : Nat := 0x3000100054

/-- TAB_SRV_STEPTHR (R125). -/
def TAB.SRV_STEPTHR : Nat := 0x3000100058

/-- TAB_HO_DRIFT (R125). -/
def TAB.HO_DRIFT : Nat := 0x3000100060

/-- TAB_HO_ELAPSED (R125). -/
def TAB.HO_ELAPSED : Nat := 0x3000100064

/-- TAB_PPSIN_TS (R125). -/
def TAB.PPSIN_TS : Nat := 0x3000100068

/-- TAB_PPSOUT_WIDTH (R125). -/
def TAB.PPSOUT_WIDTH : Nat := 0x3000100070

/-- TAB_HO_LIMIT (R125). -/
def TAB.HO_LIMIT : Nat := 0x3000100074

/-- TAB_WS_MINAMP (R125). -/
def TAB.WS_MINAMP : Nat := 0x3000100090

/-- TAB_WS_OFFSET (R125). -/
def TAB.WS_OFFSET : Nat := 0x3000100094

/-- TAB_WS_FREQ (R125). -/
def TAB.WS_FREQ : Nat := 0x3000100098

/-- TAB_WS_FW (R125). -/
def TAB.WS_FW : Nat := 0x300010009C

/-- TAB_WS_PHERR (R125). -/
def TAB.WS_PHERR : Nat := 0x30001000A0

/-- TAB_ANGLE (R125). -/
def TAB.ANGLE : Nat := 0x30001000A8

/-- TAB_TICKNUM (R125). -/
def TAB.TICKNUM : Nat := 0x30001000B0

/-- TAB_TICKTOD (R125). -/
def TAB.TICKTOD : Nat := 0x30001000B8

/-- TAB_TC_RATIO (R125). -/
def TAB.TC_RATIO : Nat := 0x30001000D8

/-- TAB_TC_INACC (R125). -/
def TAB.TC_INACC : Nat := 0x30001000DC

/-- TAB_SRV_GAIN (R121). -/
def TAB.SRV_GAIN : Nat := 0x3000100050

/-- Bits [12:8] of TAB_SRV_GAIN. -/
def TAB.SRV_GAIN_KI_SH : FieldRef := ⟨TAB.SRV_GAIN, 8, 5⟩

/-- Bits [4:0] of TAB_SRV_GAIN. -/
def TAB.SRV_GAIN_KP_SH : FieldRef := ⟨TAB.SRV_GAIN, 0, 5⟩

/-- TAB_SRV_LOCK (R121). -/
def TAB.SRV_LOCK : Nat := 0x300010005C

/-- Bits [31:24] of TAB_SRV_LOCK. -/
def TAB.SRV_LOCK_HO_TIMEOUT : FieldRef := ⟨TAB.SRV_LOCK, 24, 8⟩

/-- Bits [23:16] of TAB_SRV_LOCK. -/
def TAB.SRV_LOCK_LOCKCNT : FieldRef := ⟨TAB.SRV_LOCK, 16, 8⟩

/-- Bits [15:0] of TAB_SRV_LOCK. -/
def TAB.SRV_LOCK_LOCKTHR : FieldRef := ⟨TAB.SRV_LOCK, 0, 16⟩

/-- TAB_EVQ_CNT (R121). -/
def TAB.EVQ_CNT : Nat := 0x30001000D0

/-- Bits [31:16] of TAB_EVQ_CNT. -/
def TAB.EVQ_CNT_LOST : FieldRef := ⟨TAB.EVQ_CNT, 16, 16⟩

/-- Bits [8:0] of TAB_EVQ_CNT. -/
def TAB.EVQ_CNT_LEVEL : FieldRef := ⟨TAB.EVQ_CNT, 0, 9⟩

/-- TAB_WS_REFA (R122). -/
def TAB.WS_REFA : Nat := 0x3000100080

/-- Bits [31:31] of TAB_WS_REFA. -/
def TAB.WS_REFA_POSSEQ : FieldRef := ⟨TAB.WS_REFA, 31, 1⟩

/-- Bits [13:0] of TAB_WS_REFA. -/
def TAB.WS_REFA_CH_A : FieldRef := ⟨TAB.WS_REFA, 0, 14⟩

/-- TAB_WS_REFBC (R122). -/
def TAB.WS_REFBC : Nat := 0x3000100084

/-- Bits [29:16] of TAB_WS_REFBC. -/
def TAB.WS_REFBC_CH_C : FieldRef := ⟨TAB.WS_REFBC, 16, 14⟩

/-- Bits [13:0] of TAB_WS_REFBC. -/
def TAB.WS_REFBC_CH_B : FieldRef := ⟨TAB.WS_REFBC, 0, 14⟩

/-- TAB_WS_CFG (R122). -/
def TAB.WS_CFG : Nat := 0x3000100088

/-- Bits [31:24] of TAB_WS_CFG. -/
def TAB.WS_CFG_HOLDTICKS : FieldRef := ⟨TAB.WS_CFG, 24, 8⟩

/-- Bits [23:16] of TAB_WS_CFG. -/
def TAB.WS_CFG_MAXDF : FieldRef := ⟨TAB.WS_CFG, 16, 8⟩

/-- Bits [15:8] of TAB_WS_CFG. -/
def TAB.WS_CFG_PULL : FieldRef := ⟨TAB.WS_CFG, 8, 8⟩

/-- Bits [2:0] of TAB_WS_CFG. -/
def TAB.WS_CFG_FG : FieldRef := ⟨TAB.WS_CFG, 0, 3⟩

/-- TAB_WS_CFG2 (R122). -/
def TAB.WS_CFG2 : Nat := 0x300010008C

/-- Bits [31:25] of TAB_WS_CFG2. -/
def TAB.WS_CFG2_JUMPF : FieldRef := ⟨TAB.WS_CFG2, 25, 7⟩

/-- Bits [24:24] of TAB_WS_CFG2. -/
def TAB.WS_CFG2_TESTOK : FieldRef := ⟨TAB.WS_CFG2, 24, 1⟩

/-- Bits [23:16] of TAB_WS_CFG2. -/
def TAB.WS_CFG2_REACQ : FieldRef := ⟨TAB.WS_CFG2, 16, 8⟩

/-- Bits [15:0] of TAB_WS_CFG2. -/
def TAB.WS_CFG2_LOCKTHR : FieldRef := ⟨TAB.WS_CFG2, 0, 16⟩

/-- TAB_EVQ_W0 (R123). -/
def TAB.EVQ_W0 : Nat := 0x30001000C0

/-- Bits [31:16] of TAB_EVQ_W0. -/
def TAB.EVQ_W0_SEQID : FieldRef := ⟨TAB.EVQ_W0, 16, 16⟩

/-- Bits [15:8] of TAB_EVQ_W0. -/
def TAB.EVQ_W0_DOMAIN : FieldRef := ⟨TAB.EVQ_W0, 8, 8⟩

/-- Bits [7:4] of TAB_EVQ_W0. -/
def TAB.EVQ_W0_MSGTYPE : FieldRef := ⟨TAB.EVQ_W0, 4, 4⟩

/-- Bits [3:0] of TAB_EVQ_W0. -/
def TAB.EVQ_W0_PORT : FieldRef := ⟨TAB.EVQ_W0, 0, 4⟩

/-- TAB_EVQ_W1 (R123). -/
def TAB.EVQ_W1 : Nat := 0x30001000C4

/-- Bits [31:31] of TAB_EVQ_W1. -/
def TAB.EVQ_W1_VALID : FieldRef := ⟨TAB.EVQ_W1, 31, 1⟩

/-- Bits [30:30] of TAB_EVQ_W1. -/
def TAB.EVQ_W1_DIR : FieldRef := ⟨TAB.EVQ_W1, 30, 1⟩

/-- Bits [15:0] of TAB_EVQ_W1. -/
def TAB.EVQ_W1_SEC_HI : FieldRef := ⟨TAB.EVQ_W1, 0, 16⟩

/-- TAB_EVQ_W2 (R123). -/
def TAB.EVQ_W2 : Nat := 0x30001000C8

/-- Bits [31:0] of TAB_EVQ_W2. -/
def TAB.EVQ_W2_SEC_LO : FieldRef := ⟨TAB.EVQ_W2, 0, 32⟩

/-- TAB_EVQ_W3 (R123). -/
def TAB.EVQ_W3 : Nat := 0x30001000CC

/-- Bits [29:0] of TAB_EVQ_W3. -/
def TAB.EVQ_W3_NS : FieldRef := ⟨TAB.EVQ_W3, 0, 30⟩

/-- TAB_PTP_CFG (R124). -/
def TAB.PTP_CFG : Nat := 0x30001000D4

/-- Bits [11:11] of TAB_PTP_CFG. -/
def TAB.PTP_CFG_TC_TLV : FieldRef := ⟨TAB.PTP_CFG, 11, 1⟩

/-- Bits [10:10] of TAB_PTP_CFG. -/
def TAB.PTP_CFG_ONESTEP_TX : FieldRef := ⟨TAB.PTP_CFG, 10, 1⟩

/-- Bits [9:8] of TAB_PTP_CFG. -/
def TAB.PTP_CFG_ROLE : FieldRef := ⟨TAB.PTP_CFG, 8, 2⟩

/-- Bits [7:0] of TAB_PTP_CFG. -/
def TAB.PTP_CFG_DOMAIN : FieldRef := ⟨TAB.PTP_CFG, 0, 8⟩

/-- TAB_PORT (R124). -/
def TAB.PORT (p : Nat) : Nat := 0x3000100100 + p * 0x10

/-- Bits [2:2] of TAB_PORT. -/
def TAB.PORT_PDELAY_EN (p : Nat) : FieldRef := ⟨TAB.PORT p, 2, 1⟩

/-- Bits [1:0] of TAB_PORT. -/
def TAB.PORT_STATE (p : Nat) : FieldRef := ⟨TAB.PORT p, 0, 2⟩

/-- TAB_PDELAY (R125). -/
def TAB.PDELAY (p : Nat) : Nat := 0x3000100104 + p * 0x10

/-- TAB_ASYM (R125). -/
def TAB.ASYM (p : Nat) : Nat := 0x3000100108 + p * 0x10

/-- TAB_FUDROP (R125). -/
def TAB.FUDROP (p : Nat) : Nat := 0x300010010C + p * 0x10

/-- TAB_CMPST (R125). -/
def TAB.CMPST (p : Nat) : Nat := 0x3000100200 + p * 0x4

/-- TAB_CMPEN (R125). -/
def TAB.CMPEN (p : Nat) : Nat := 0x3000100220 + p * 0x4

/-- TAB_TARGET (R125). -/
def TAB.TARGET (p : Nat) : Nat := 0x3000101000 + p * 0x20

/-- TAB_CCFG (R124). -/
def TAB.CCFG (p : Nat) : Nat := 0x3000101008 + p * 0x20

/-- Bits [19:8] of TAB_CCFG. -/
def TAB.CCFG_INDEX (p : Nat) : FieldRef := ⟨TAB.CCFG p, 8, 12⟩

/-- Bits [6:6] of TAB_CCFG. -/
def TAB.CCFG_ARMED (p : Nat) : FieldRef := ⟨TAB.CCFG p, 6, 1⟩

/-- Bits [5:5] of TAB_CCFG. -/
def TAB.CCFG_LATE (p : Nat) : FieldRef := ⟨TAB.CCFG p, 5, 1⟩

/-- Bits [4:2] of TAB_CCFG. -/
def TAB.CCFG_DEST (p : Nat) : FieldRef := ⟨TAB.CCFG p, 2, 3⟩

/-- Bits [1:0] of TAB_CCFG. -/
def TAB.CCFG_MODE (p : Nat) : FieldRef := ⟨TAB.CCFG p, 0, 2⟩

/-- TAB_EVTS (R125). -/
def TAB.EVTS (p : Nat) : Nat := 0x3000101010 + p * 0x20

/-- Rows of the register map of TAB. -/
def regsTab0 : List RegDesc := [
  ⟨"TAB_CTL", 0x3000100000, [], 32, [⟨"PPSOUT_MODE", 11, 10, .rw, 0, .s, [(0, 2)]⟩,
    ⟨"TICKDIV", 9, 7, .rw, 2, .s, [(0, 4)]⟩,
    ⟨"ANGLE_SRC", 6, 6, .rw, 0, .s, []⟩,
    ⟨"NOMF", 5, 5, .rw, 0, .s, []⟩,
    ⟨"WS_EN", 4, 4, .rw, 0, .s, []⟩,
    ⟨"REF10M", 3, 3, .rw, 0, .s, []⟩,
    ⟨"SRC", 2, 1, .rw, 0, .s, [(0, 2)]⟩,
    ⟨"SERVO_EN", 0, 0, .rw, 0, .s, []⟩]⟩,
  ⟨"TAB_STATUS", 0x3000100004, [], 32, [⟨"CMP_ANY", 14, 14, .ro, 0, .s, []⟩,
    ⟨"CMP_LATE", 13, 13, .w1c, 0, .s, []⟩,
    ⟨"PARTNER_REFUSED", 12, 12, .w1c, 0, .s, []⟩,
    ⟨"WS_PHJUMP", 11, 11, .w1c, 0, .s, []⟩,
    ⟨"WS_FALLBACK", 10, 10, .w1c, 0, .s, []⟩,
    ⟨"WS_UNLOCK", 9, 9, .w1c, 0, .s, []⟩,
    ⟨"WS_LOCK", 8, 8, .w1c, 0, .s, []⟩,
    ⟨"FU_DROP", 7, 7, .w1c, 0, .s, []⟩,
    ⟨"EVQ_OVF", 6, 6, .w1c, 0, .s, []⟩,
    ⟨"REF10M_LOSS", 5, 5, .w1c, 0, .s, []⟩,
    ⟨"PPSIN_MISS", 4, 4, .w1c, 0, .s, []⟩,
    ⟨"HO_EXPIRED", 3, 3, .w1c, 0, .s, []⟩,
    ⟨"HO_ENTER", 2, 2, .w1c, 0, .s, []⟩,
    ⟨"LOCK", 1, 1, .w1c, 0, .s, []⟩,
    ⟨"TS_STEP", 0, 0, .w1c, 0, .s, []⟩]⟩,
  ⟨"TAB_STATE", 0x300010000C, [], 32, [⟨"REF10M_ACT", 7, 7, .ro, 0, .s, []⟩,
    ⟨"WS", 6, 4, .ro, 0, .s, []⟩,
    ⟨"TOD_VALID", 3, 3, .ro, 0, .p, []⟩,
    ⟨"SYNC", 2, 0, .ro, 0, .s, []⟩]⟩,
  ⟨"TAB_CMD", 0x3000100010, [], 32, [⟨"EVQ_FLUSH", 2, 2, .wo, 0, .s, []⟩,
    ⟨"LOAD", 1, 1, .wo, 0, .s, []⟩,
    ⟨"SNAP", 0, 0, .wo, 0, .s, []⟩]⟩,
  ⟨"TAB_ENABLE", 0x3000100008, [], 32, [⟨"CMP_ANY", 14, 14, .rw, 0, .s, []⟩,
    ⟨"CMP_LATE", 13, 13, .rw, 0, .s, []⟩,
    ⟨"PARTNER_REFUSED", 12, 12, .rw, 0, .s, []⟩,
    ⟨"WS_PHJUMP", 11, 11, .rw, 0, .s, []⟩,
    ⟨"WS_FALLBACK", 10, 10, .rw, 0, .s, []⟩,
    ⟨"WS_UNLOCK", 9, 9, .rw, 0, .s, []⟩,
    ⟨"WS_LOCK", 8, 8, .rw, 0, .s, []⟩,
    ⟨"FU_DROP", 7, 7, .rw, 0, .s, []⟩,
    ⟨"EVQ_OVF", 6, 6, .rw, 0, .s, []⟩,
    ⟨"REF10M_LOSS", 5, 5, .rw, 0, .s, []⟩,
    ⟨"PPSIN_MISS", 4, 4, .rw, 0, .s, []⟩,
    ⟨"HO_EXPIRED", 3, 3, .rw, 0, .s, []⟩,
    ⟨"HO_ENTER", 2, 2, .rw, 0, .s, []⟩,
    ⟨"LOCK", 1, 1, .rw, 0, .s, []⟩,
    ⟨"TS_STEP", 0, 0, .rw, 0, .s, []⟩]⟩,
  ⟨"TAB_SNAP_SEC", 0x3000100018, [], 64, [⟨"SNAP_SEC", 47, 0, .ro, 0, .s, []⟩]⟩,
  ⟨"TAB_SNAP_NS", 0x3000100020, [], 32, [⟨"SNAP_NS", 29, 0, .ro, 0, .s, []⟩]⟩,
  ⟨"TAB_SNAP_ANGLE", 0x3000100028, [], 64, [⟨"SNAP_ANGLE", 47, 0, .ro, 0, .s, []⟩]⟩,
  ⟨"TAB_TODSET_SEC", 0x3000100030, [], 64, [⟨"TODSET_SEC", 47, 0, .rw, 0, .s, []⟩]⟩,
  ⟨"TAB_TODSET_NS", 0x3000100038, [], 32, [⟨"TODSET_NS", 29, 0, .rw, 0, .s, [(0, 999999999)]⟩]⟩,
  ⟨"TAB_STEP", 0x3000100040, [], 64, [⟨"STEP", 63, 0, .wo, 0, .s, []⟩]⟩,
  ⟨"TAB_SRV_OFFSET", 0x3000100048, [], 64, [⟨"SRV_OFFSET", 63, 0, .wo, 0, .s, []⟩]⟩]

/-- Rows of the register map of TAB. -/
def regsTab1 : List RegDesc := [
  ⟨"TAB_SRV_RATE", 0x3000100054, [], 32, [⟨"SRV_RATE", 31, 0, .rw, 0, .p, []⟩]⟩,
  ⟨"TAB_SRV_STEPTHR", 0x3000100058, [], 32, [⟨"SRV_STEPTHR", 31, 0, .rw, 100000, .s, []⟩]⟩,
  ⟨"TAB_HO_DRIFT", 0x3000100060, [], 32, [⟨"HO_DRIFT", 31, 0, .ro, 0, .p, []⟩]⟩,
  ⟨"TAB_HO_ELAPSED", 0x3000100064, [], 32, [⟨"HO_ELAPSED", 31, 0, .ro, 0, .p, []⟩]⟩,
  ⟨"TAB_PPSIN_TS", 0x3000100068, [], 64, [⟨"PPSIN_TS", 63, 0, .ro, 0, .s, []⟩]⟩,
  ⟨"TAB_PPSOUT_WIDTH", 0x3000100070, [], 32, [⟨"PPSOUT_WIDTH", 18, 0, .rw, 100, .s, [(1, 500000)]⟩]⟩,
  ⟨"TAB_HO_LIMIT", 0x3000100074, [], 32, [⟨"HO_LIMIT", 31, 0, .rw, 60, .s, []⟩]⟩,
  ⟨"TAB_WS_MINAMP", 0x3000100090, [], 32, [⟨"WS_MINAMP", 31, 0, .rw, 0, .s, []⟩]⟩,
  ⟨"TAB_WS_OFFSET", 0x3000100094, [], 32, [⟨"WS_OFFSET", 15, 0, .rw, 0, .s, []⟩]⟩,
  ⟨"TAB_WS_FREQ", 0x3000100098, [], 32, [⟨"WS_FREQ", 31, 0, .ro, 3276800, .s, []⟩]⟩,
  ⟨"TAB_WS_FW", 0x300010009C, [], 32, [⟨"WS_FW", 31, 0, .ro, 56294995, .s, []⟩]⟩,
  ⟨"TAB_WS_PHERR", 0x30001000A0, [], 32, [⟨"WS_PHERR", 15, 0, .ro, 0, .s, []⟩]⟩]

/-- Rows of the register map of TAB. -/
def regsTab2 : List RegDesc := [
  ⟨"TAB_ANGLE", 0x30001000A8, [], 64, [⟨"ANGLE", 47, 0, .ro, 0, .s, []⟩]⟩,
  ⟨"TAB_TICKNUM", 0x30001000B0, [], 32, [⟨"TICKNUM", 31, 0, .ro, 0, .s, []⟩]⟩,
  ⟨"TAB_TICKTOD", 0x30001000B8, [], 64, [⟨"TICKTOD", 63, 0, .ro, 0, .s, []⟩]⟩,
  ⟨"TAB_TC_RATIO", 0x30001000D8, [], 32, [⟨"TC_RATIO", 31, 0, .rw, 0, .s, []⟩]⟩,
  ⟨"TAB_TC_INACC", 0x30001000DC, [], 32, [⟨"TC_INACC", 31, 0, .rw, 0, .s, []⟩]⟩,
  ⟨"TAB_SRV_GAIN", 0x3000100050, [], 32, [⟨"KI_SH", 12, 8, .rw, 4, .s, []⟩,
    ⟨"KP_SH", 4, 0, .rw, 1, .s, []⟩]⟩,
  ⟨"TAB_SRV_LOCK", 0x300010005C, [], 32, [⟨"HO_TIMEOUT", 31, 24, .rw, 24, .s, []⟩,
    ⟨"LOCKCNT", 23, 16, .rw, 16, .s, []⟩,
    ⟨"LOCKTHR", 15, 0, .rw, 100, .s, []⟩]⟩,
  ⟨"TAB_EVQ_CNT", 0x30001000D0, [], 32, [⟨"LOST", 31, 16, .ro, 0, .s, []⟩,
    ⟨"LEVEL", 8, 0, .ro, 0, .s, []⟩]⟩,
  ⟨"TAB_WS_REFA", 0x3000100080, [], 32, [⟨"POSSEQ", 31, 31, .rw, 0, .s, []⟩,
    ⟨"CH_A", 13, 0, .rw, 0, .s, []⟩]⟩,
  ⟨"TAB_WS_REFBC", 0x3000100084, [], 32, [⟨"CH_C", 29, 16, .rw, 0, .s, []⟩,
    ⟨"CH_B", 13, 0, .rw, 0, .s, []⟩]⟩,
  ⟨"TAB_WS_CFG", 0x3000100088, [], 32, [⟨"HOLDTICKS", 31, 24, .rw, 16, .s, [(1, 255)]⟩,
    ⟨"MAXDF", 23, 16, .rw, 50, .s, [(5, 200)]⟩,
    ⟨"PULL", 15, 8, .rw, 10, .s, [(1, 255)]⟩,
    ⟨"FG", 2, 0, .rw, 3, .s, []⟩]⟩,
  ⟨"TAB_WS_CFG2", 0x300010008C, [], 32, [⟨"JUMPF", 31, 25, .rw, 10, .s, [(1, 127)]⟩,
    ⟨"TESTOK", 24, 24, .rw, 0, .s, []⟩,
    ⟨"REACQ", 23, 16, .rw, 8, .s, [(1, 255)]⟩,
    ⟨"LOCKTHR", 15, 0, .rw, 182, .s, []⟩]⟩]

/-- Rows of the register map of TAB. -/
def regsTab3 : List RegDesc := [
  ⟨"TAB_EVQ_W0", 0x30001000C0, [], 32, [⟨"SEQID", 31, 16, .ro, 0, .s, []⟩,
    ⟨"DOMAIN", 15, 8, .ro, 0, .s, []⟩,
    ⟨"MSGTYPE", 7, 4, .ro, 0, .s, []⟩,
    ⟨"PORT", 3, 0, .ro, 0, .s, []⟩]⟩,
  ⟨"TAB_EVQ_W1", 0x30001000C4, [], 32, [⟨"VALID", 31, 31, .ro, 0, .s, []⟩,
    ⟨"DIR", 30, 30, .ro, 0, .s, []⟩,
    ⟨"SEC_HI", 15, 0, .ro, 0, .s, []⟩]⟩,
  ⟨"TAB_EVQ_W2", 0x30001000C8, [], 32, [⟨"SEC_LO", 31, 0, .ro, 0, .s, []⟩]⟩,
  ⟨"TAB_EVQ_W3", 0x30001000CC, [], 32, [⟨"NS", 29, 0, .ro, 0, .s, []⟩]⟩,
  ⟨"TAB_PTP_CFG", 0x30001000D4, [], 32, [⟨"TC_TLV", 11, 11, .rw, 1, .s, []⟩,
    ⟨"ONESTEP_TX", 10, 10, .rw, 0, .s, []⟩,
    ⟨"ROLE", 9, 8, .rw, 0, .s, [(0, 2)]⟩,
    ⟨"DOMAIN", 7, 0, .rw, 0, .s, []⟩]⟩,
  ⟨"TAB_PORT", 0x3000100100, [(16, 10)], 32, [⟨"PDELAY_EN", 2, 2, .rw, 0, .l, []⟩,
    ⟨"STATE", 1, 0, .rw, 0, .l, []⟩]⟩,
  ⟨"TAB_PDELAY", 0x3000100104, [(16, 10)], 32, [⟨"p_PDELAY", 31, 0, .rw, 0, .l, []⟩]⟩,
  ⟨"TAB_ASYM", 0x3000100108, [(16, 10)], 32, [⟨"p_ASYM", 31, 0, .rw, 0, .l, []⟩]⟩,
  ⟨"TAB_FUDROP", 0x300010010C, [(16, 10)], 32, [⟨"p_FUDROP", 31, 0, .ro, 0, .l, []⟩]⟩,
  ⟨"TAB_CMPST", 0x3000100200, [(4, 8)], 32, [⟨"CMPST_i", 31, 0, .w1c, 0, .s, []⟩]⟩,
  ⟨"TAB_CMPEN", 0x3000100220, [(4, 8)], 32, [⟨"CMPEN_i", 31, 0, .rw, 0, .s, []⟩]⟩,
  ⟨"TAB_TARGET", 0x3000101000, [(32, 256)], 64, [⟨"c_TARGET", 47, 0, .rw, 0, .s, []⟩]⟩]

/-- Rows of the register map of TAB. -/
def regsTab4 : List RegDesc := [
  ⟨"TAB_CCFG", 0x3000101008, [(32, 256)], 32, [⟨"INDEX", 19, 8, .rw, 0, .s, []⟩,
    ⟨"ARMED", 6, 6, .ro, 0, .s, []⟩,
    ⟨"LATE", 5, 5, .ro, 0, .s, []⟩,
    ⟨"DEST", 4, 2, .rw, 0, .s, [(0, 4)]⟩,
    ⟨"MODE", 1, 0, .rw, 0, .s, []⟩]⟩,
  ⟨"TAB_EVTS", 0x3000101010, [(32, 256)], 64, [⟨"c_EVTS", 63, 0, .ro, 0, .s, []⟩]⟩]

/-- The register map of TAB. -/
def regsTab : List RegDesc :=
  regsTab0 ++ regsTab1 ++ regsTab2 ++ regsTab3 ++ regsTab4

end Sys2Proof.Machine
end

