-- ==== Sys2Proof/Machine/SMap.lean ====
section
/-!
DEFINITION. Machine/SMap.lean: sparse data by number, kept in one canonical form: keys strictly rising, and no entry
equal to what an unlisted key reads as. Equal contents are equal lists.
-/

namespace Sys2Proof.Machine

/-- Sparse data by number. -/
abbrev SMap (V : Type) := List (Nat × V)

/-- The value at a key; an unlisted key reads as the default `d` gives it. -/
def smapGet {V : Type} (d : Nat → V) : SMap V → Nat → V
  | [], k => d k
  | (a, v) :: m, k => if a = k then v else smapGet d m k

/-- The entry of a value that is not the default; nothing for the default. -/
def smapCell {V : Type} [DecidableEq V] (d : Nat → V) (k : Nat) (v : V) : SMap V :=
  if v = d k then [] else [(k, v)]

/-- The entries of the other keys. -/
def smapDrop {V : Type} : SMap V → Nat → SMap V
  | [], _ => []
  | (a, x) :: m, k => if a = k then smapDrop m k else (a, x) :: smapDrop m k

/-- Replace the value at a key, keeping the canonical form. -/
def smapSet {V : Type} [DecidableEq V] (d : Nat → V) : SMap V → Nat → V → SMap V
  | [], k, v => smapCell d k v
  | (a, x) :: m, k, v =>
    if a < k then (a, x) :: smapSet d m k v
    else if a = k then smapCell d k v ++ smapDrop m k
    else smapCell d k v ++ (a, x) :: smapDrop m k

/-- Keys strictly rising from at least `lo`, and no entry equal to its default. -/
def smapWfFrom {V : Type} [DecidableEq V] (d : Nat → V) : Nat → SMap V → Bool
  | _, [] => true
  | lo, (a, v) :: m => decide (lo ≤ a) && decide (v ≠ d a) && smapWfFrom d (a + 1) m

/-- The canonical form. -/
def smapWf {V : Type} [DecidableEq V] (d : Nat → V) (m : SMap V) : Bool := smapWfFrom d 0 m

/-- Change every listed value by its key, keeping the canonical form. -/
def smapMap {V : Type} [DecidableEq V] (d : Nat → V) (f : Nat → V → V) : SMap V → SMap V
  | [] => []
  | (a, v) :: m => smapCell d a (f a v) ++ smapMap d f m

/-- Change the value at one key. -/
def smapUpd {V : Type} [DecidableEq V] (d : Nat → V) (m : SMap V) (k : Nat) (f : V → V) : SMap V :=
  smapSet d m k (f (smapGet d m k))

end Sys2Proof.Machine
end

