-- ==== Sys2Proof/Machine/RegMap.lean ====
section
/-!
DEFINITION. Machine/RegMap.lean: which register an address names (R47, R52), what a register holds at reset (R30), and which
of its bits a reset of a class returns to that value.
-/

namespace Sys2Proof.Machine

/-- The first address of the register space (R47). -/
def regSpace : Nat := 0x3000000000

/-- An address lies in the 16 MiB register space (R47). -/
def inRegSpace (a : Nat) : Bool := decide (regSpace ≤ a ∧ a < regSpace + 0x1000000)

/-- The registers of a slot of the register space (R52); slots 14 and 15 are unmapped. -/
def slotRegs : Nat → List RegDesc
  | 0 => regsSys | 1 => regsTab | 2 => regsPcx | 3 => regsSwc | 4 => regsRde | 5 => regsSvc | 6 => regsCyc
  | 7 => regsPub | 8 => regsCap | 9 => regsDmv | 10 => regsMem | 11 => regsSup | 12 => regsSec | 13 => regsDbg
  | _ => []

/-- The index list of an offset in an array of registers, outer index first, when the offset is exactly one element. -/
def dimIndex : List (Nat × Nat) → Nat → Option (List Nat)
  | [], off => if off = 0 then some [] else none
  | (stride, count) :: ds, off =>
    if off / stride < count then (dimIndex ds (off % stride)).map fun is => off / stride :: is else none

/-- The register of a table whose first byte is at an address, with its indexes. -/
def regIn : List RegDesc → Nat → Option (RegDesc × List Nat)
  | [], _ => none
  | r :: rs, a =>
    if a < r.base then regIn rs a
    else match dimIndex r.dims (a - r.base) with
      | some is => some (r, is)
      | none => regIn rs a

/-- The register whose first byte is at an address. -/
def regAt (a : Nat) : Option (RegDesc × List Nat) :=
  if inRegSpace a then regIn (slotRegs ((a - regSpace) / 0x100000)) a else none

/-- The word that fields make of their reset values. -/
def fieldsReset : List FieldDesc → Nat
  | [] => 0
  | f :: fs => (f.reset % 2 ^ (f.hi + 1 - f.lo)) * 2 ^ f.lo + fieldsReset fs

/-- REQ_r_CFG at reset by requester port (R652). -/
def reqCfgReset (r : Nat) : Nat :=
  let w (age bmax base : Nat) := bmax * 2 ^ 20 + base * 2 ^ 16 + age
  if r < 80 then w 0 64 8
  else if r < 84 then w 0 8 14
  else if r < 88 then w 0 16 5
  else if r < 90 then w 0 48 14
  else if r < 92 then w 0 48 13
  else if r < 96 then w 1 2 10
  else w 0 1 2

/-- What a register holds at reset: the value its field table gives; the fused constants are Config's (R30, R31). -/
def resetOf (r : RegDesc) (is : List Nat) : Nat :=
  if r.base = MEM.REQ_CFG 0 then reqCfgReset (64 + is.headD 0)
  else if r.base = SYS.SERIAL then Config.serial
  else if r.base = PCX.LATCAL 0 then Config.latcal (is.headD 0) 0
  else fieldsReset r.fields

/-- What an address of the register store reads as while nothing else was stored there. -/
def regDefault (a : Nat) : DWord :=
  match regAt a with
  | some (r, is) => BitVec.ofNat 64 (resetOf r is)
  | none => 0

/-- The bits of a word whose fields a predicate picks. -/
def fieldsMask (p : FieldDesc → Bool) : List FieldDesc → Nat
  | [] => 0
  | f :: fs => (if p f then (2 ^ (f.hi + 1 - f.lo) - 1) * 2 ^ f.lo else 0) + fieldsMask p fs

/-- A word with the bits of a mask taken from another word. -/
def mixBits (mask old new : Nat) : Nat := (old &&& (2 ^ 64 - 1 - mask % 2 ^ 64)) ||| (new &&& mask)

/-- A stored word after its picked fields return to their reset values. -/
def resetWord (pick : RegDesc → List Nat → FieldDesc → Bool) (a : Nat) (v : DWord) : DWord :=
  match regAt a with
  | some (r, is) => BitVec.ofNat 64 (mixBits (fieldsMask (pick r is) r.fields) v.toNat (resetOf r is))
  | none => v

/-- What one field holds after software writes a word (R24, R26, R27); a field marked WO stores nothing. -/
def fieldAfter (old v : Nat) (f : FieldDesc) : Nat :=
  let o := bits old f.hi f.lo
  let n := bits v f.hi f.lo
  match f.acc with
  | .rw | .rwl => if f.legal.isEmpty || f.legal.any (fun r => decide (r.1 ≤ n ∧ n ≤ r.2)) then n else o
  | .ro => o
  | .w1c => o - (o &&& n)
  | .w1s => o ||| n
  | .wo => 0

/-- What a register holds after software writes a word with nothing but its field table acting (R23, R24, R26). -/
def fieldsAfter (old v : Nat) : List FieldDesc → Nat
  | [] => 0
  | f :: fs => fieldAfter old v f * 2 ^ f.lo + fieldsAfter old v fs

/-- A field is of one of the classes that an event resets (R30). -/
def classIn (cs : List RClass) (f : FieldDesc) : Bool := decide (f.cls ∈ cs)

end Sys2Proof.Machine
end

