-- ==== Sys2Proof/Machine/StCap.lean ====
section
/-!
DEFINITION. Machine/StCap.lean: what a record unit holds beside its registers and its ring (chapter 13).
-/

namespace Sys2Proof.Machine

/-- One analog input of an output sample: value, invalid, still predicted. -/
structure CapVal where
  v : Int
  inv : Bool
  pred : Bool
  deriving DecidableEq, Repr

/-- One output sample as a unit reads it (R609, R611): number, evaluation instant in ns, analog inputs, and for each binary input
its value and the changes since the sample before, oldest first. -/
structure CapSamp where
  j : Nat
  tau : Int
  vals : List CapVal
  bins : List Bool
  chg : List (List (Int × Bool))
  /-- A binary value was no longer held (R610). -/
  lost : Bool
  deriving DecidableEq, Repr

/-- One trigger term as it runs (R616 to R619). -/
structure TermRun where
  /-- At or below L − HYST since the last rising crossing; at or above L + HYST since the last falling one (R617). -/
  low : Bool := false
  high : Bool := false
  /-- Start of the pulse under way, and whether its width reached WA already. -/
  pulse : Option Int := none
  hit : Bool := false
  /-- Runts under way upwards and downwards. -/
  runtUp : Bool := false
  runtDn : Bool := false
  /-- A slew comparison may report. -/
  slew : Bool := true
  /-- What a timeout counts from. -/
  base : Int := 0
  /-- The state, and the instant at which it returns to 0 (R619). -/
  on : Bool := false
  until_ : Int := 0
  deriving DecidableEq, Repr

/-- One row in the ring: pointer, instant, and whether a value in it is predicted, missing or lost. -/
structure CapRow where
  ptr : Nat
  t : Int
  pred : Bool
  inv : Bool
  lost : Bool
  deriving DecidableEq, Repr

/-- A trigger: instant, term (0xFE comparator, 0xFF software) and q of R618. -/
structure CapTrig where
  t : Int
  term : Nat
  frac : Nat
  deriving DecidableEq, Repr

/-- One record unit. -/
structure CapUnit where
  /-- The last output samples, newest first. -/
  hist : List CapSamp := []
  /-- Samples of the averaged row under way, newest first (R613). -/
  group : List CapSamp := []
  terms : List TermRun := []
  /-- The output of the trigger logic at the last sample (R620). -/
  lut : Bool := false
  /-- Rows since the unit entered ARMED that the ring holds, oldest first; how many were written, and the instant of the first
  (R614). -/
  rows : List CapRow := []
  count : Nat := 0
  first : Option Int := none
  /-- The instant of the newest row that left the ring (R627). -/
  dropped : Option Int := none
  /-- Triggers of comparators and software that wait for a build (R621). -/
  ext : List CapTrig := []
  /-- The record under way. -/
  trig : Option CapTrig := none
  retrig : Nat := 0
  shortPre : Bool := false
  trunc : Bool := false
  /-- τ of the first sample examined in ARMED, and of the last row of the record before (R626). -/
  exam : Option Int := none
  lastRow : Option Int := none
  seq : Nat := 0
  deriving DecidableEq, Repr

/-- CAP beside its registers. -/
structure CapState where
  units : SMap CapUnit
  deriving DecidableEq, Repr

/-- CAP right after reset. -/
def CapState.reset : CapState := { units := [] }

end Sys2Proof.Machine
end

