-- ==== Sys2Proof/Machine/StCore.lean ====
section
/-!
DEFINITION. Machine/StCore.lean: what an Amihel core holds: registers (R473), caches (R436, R478, R554), and the supervisory
core's own state (R544 to R553).
-/

namespace Sys2Proof.Machine

/-- The registers a program sees (R473). g0 and p0 are constants, so nothing is listed for them. -/
structure Regs where
  g : SMap DWord := []
  v : SMap (BitVec 128) := []
  p : BitVec 8 := 1
  pc : DWord := 0
  deriving DecidableEq, Repr

/-- One cache line: its number (physical address / 64), its bytes, and what the cache knows of it. -/
structure CLine where
  line : Nat
  bytes : List Byte
  dirty : Bool
  /-- The tenants that locked it (R437). -/
  locks : List Nat
  /-- Filled through a CODE window (R481). -/
  code : Bool
  /-- Filled through a SAMPLE window (R478). -/
  sample : Bool
  /-- The burgee it is charged to (R392, R512). -/
  burgee : Nat
  deriving DecidableEq, Repr

/-- A line is locked (R437). -/
def CLine.locked (x : CLine) : Bool := !x.locks.isEmpty

/-- One cycle core: the tenant it runs and its caches, most recently used line first (R436). -/
structure CycCore where
  run : Option Nat := none
  dl : List CLine := []
  il : List CLine := []
  /-- Tick boundaries since a dispatch started or ended while one was pending (R449). -/
  stall : Nat := 0
  /-- The next candidate whose warm range was pre-rolled last (R438). -/
  pre : Option Nat := none
  deriving DecidableEq, Repr

/-- The privilege levels (R544). -/
inductive Level where
  | app | kernel | platform
  deriving DecidableEq, Repr

/-- The number of a level, as MODE shows it. -/
def Level.num : Level → Nat
  | .app => 0 | .kernel => 1 | .platform => 2

/-- The level of a number. -/
def Level.ofNum : Nat → Level
  | 0 => .app | 1 => .kernel | _ => .platform

/-- One level's trap bank (R545). -/
structure TrapBank where
  vtab : DWord := 0
  rpc : DWord := 0
  why : DWord := 0
  wher : DWord := 0
  prior : DWord := 0
  spare0 : DWord := 0
  spare1 : DWord := 0
  deriving DecidableEq, Repr

/-- One cached translation (R551, R553): page number of its start, its size in bits, and the leaf entry. -/
structure TlbEntry where
  stag : Nat
  va : Nat
  size : Nat
  leaf : Nat
  deriving DecidableEq, Repr

/-- One supervisory core (R544, R545). -/
structure SupCore where
  regs : Regs := { pc := 0x3FFFF00000 }
  lvl : Level := .platform
  gateK : Bool := false
  gateP : Bool := false
  bankK : TrapBank := {}
  bankP : TrapBank := {}
  xroot : DWord := 0
  xen : Bool := false
  tlb : List TlbEntry := []
  il : List CLine := []
  idle : Bool := false
  /-- An error found after its access: cause and address (R549, R648). -/
  late : Option (Nat × Nat) := none
  /-- Released from reset (R749). -/
  running : Bool := false
  /-- TICKS as it was last read or written (R545). -/
  ticks : DWord := 0
  deriving DecidableEq, Repr

end Sys2Proof.Machine
end

