-- ==== Sys2Proof/Machine/StCyc.lean ====
section
/-!
DEFINITION. Machine/StCyc.lean: tenants, guards, dispatches, forces and exchanges beside their registers (chapters 08, 09).
-/

namespace Sys2Proof.Machine

/-- One entry of an event queue (R401). -/
structure EvEntry where
  w0 : Nat
  w1 : Nat
  w2 : Nat
  w3 : Nat
  deriving DecidableEq, Repr

/-- One message of a supervisory queue (R406). -/
structure OsqEntry where
  code : Nat
  data0 : Nat
  data1 : Nat
  tick : Nat
  deriving DecidableEq, Repr

/-- The kinds of dispatch (R428), numbered as special register DISP shows them (R474). -/
inductive DispKind where
  | init | tick | event
  deriving DecidableEq, Repr

/-- The number of a kind of dispatch (R474). -/
def DispKind.num : DispKind → Nat
  | .init => 0 | .tick => 1 | .event => 2

/-- What an output instruction passed to PUB at issue, as the digest takes it (R284, R538). -/
structure OutOp where
  fn : Nat
  pub : Nat
  data : Nat
  deriving DecidableEq, Repr

/-- A dispatch that runs or is preempted (R434). -/
structure Disp where
  kind : DispKind
  desc : DWord
  regs : Regs
  budget : Nat
  left : Nat
  /-- When it became ready (R432). -/
  readyAt : Int
  /-- The first dispatch under the active image since START, TNR or exchange (R474). -/
  first : Bool
  preempted : Bool
  /-- Publications marked written and not committed yet, in order of first mark (R535, R538). -/
  staged : List Nat
  /-- Trips, ARMs and STAND-DOWNs in issue order. -/
  ops : List OutOp
  /-- Bank accesses so far (R442, R479). -/
  misses : Nat
  /-- The guard a GACQ waits for, and the register it writes (R505). -/
  wait : Option (Nat × Nat)
  deriving DecidableEq, Repr

/-- What a tenant's dispatches of one tick gave for its digest (R284, R285): the publications it wrote with their staged bytes,
the trips, ARMs and STAND-DOWNs in issue order, and a self-check fault. -/
structure Dig where
  tick : Nat := 0
  dispatched : Bool := false
  pubs : List (Nat × List Byte) := []
  ops : List OutOp := []
  fault : Bool := false
  deriving DecidableEq, Repr

/-- What a tenant holds beside its registers. -/
structure Tenant where
  evq : List EvEntry := []
  /-- An entry was lost since the last one that entered (R404). -/
  gap : Bool := false
  osq : List OsqEntry := []
  /-- The INIT dispatch waits for the next tick boundary (R388, R428). -/
  initDue : Bool := false
  /-- Ready instants of the pending dispatches; a tick dispatch with its descriptor. -/
  initAt : Option Int := none
  tickAt : Option (Int × DWord) := none
  eventAt : Option Int := none
  disp : Option Disp := none
  stopReq : Bool := false
  /-- RESTART of the reset under way, or the automatic one (R388). -/
  restart : Bool := false
  /-- The target core of a move, and the number of the state that follows it: the one before MOVING, or what a fault of the dispatch
  that still ran makes of it (R388, R421). -/
  move : Option (Nat × Nat) := none
  /-- The descriptor of the latest tick declared ready (R474). -/
  latest : DWord := 0
  fresh : Bool := true
  /-- The locked ranges are to be loaded at the next dispatch (R437). -/
  needLock : Bool := true
  /-- The subscription sets lately in effect, newest first: from which tick boundary, CYC_t_SUB and the streams (R399). -/
  sets : List (Nat × Nat × List Nat) := []
  held : List Nat := []
  /-- An error found after its access retired: the cause and the line address (R512). -/
  late : Option (Nat × Nat) := none
  /-- Points substituted under R465, and whether the tick dispatch that carries them has begun. -/
  subst : List Nat := []
  substOn : Bool := false
  /-- What its dispatches of the latest tick did, for the digest of R284. -/
  dig : Dig := {}
  /-- The exchange was armed with this target tick (R460). -/
  xtarget : Nat := 0
  deriving DecidableEq, Repr

/-- One force (R452, R453, R457). -/
structure Force where
  point : Nat
  value : Nat
  qv : Nat
  orphan : Bool
  deriving DecidableEq, Repr

/-- Where the cluster watchdog's kick pair stands (R448). -/
inductive KickState where
  | idle | first
  deriving DecidableEq, Repr

/-- The cycle cluster beside its registers. A window, force or tenant command is complete within its row, so none is ever in
progress between two commands. -/
structure CycState where
  cores : SMap CycCore
  tenants : SMap Tenant
  /-- Waiters of each guard, earliest first (R413). -/
  waiters : SMap (List Nat)
  /-- The force table by entry, and the forces in effect since the last tick boundary by point (R455). -/
  forces : SMap (Option Force)
  inForce : SMap (Option Force)
  /-- POINT, VALUE and QV of entries written with VALID = 0 (R469). -/
  idleForce : SMap (Nat × Nat × Nat)
  /-- A force command left a valid entry, and no tick boundary has found none since (R455). -/
  forceLit : Bool
  kick : KickState
  /-- What is left of the kick timer, in 2^-48 ns, and since when it runs; none: stopped (R448, R770). -/
  kickLeft : Nat
  kickSince : Option Int
  /-- The cluster watchdog halted the cluster (R450, R451). -/
  wdHalt : Bool
  /-- Phasor coefficients by set × 512 + index: real and imaginary patterns (R524). -/
  phx : SMap (Nat × Nat)
  /-- Posting registers by requester: D0, D1, D2, RES (R405). -/
  posts : SMap (Nat × Nat × Nat × Nat)
  deriving DecidableEq, Repr

/-- CYC right after reset. -/
def CycState.reset : CycState :=
  { cores := [], tenants := [], waiters := [], forces := [], inForce := [], idleForce := [], forceLit := false, kick := .idle, kickLeft := 0, kickSince := none,
    wdHalt := false, phx := [],
    posts := [] }

end Sys2Proof.Machine
end

