-- ==== Sys2Proof/Machine/StDbg.lean ====
section
/-!
DEFINITION. Machine/StDbg.lean: what the debug port holds beside its registers (chapter 18).
-/

namespace Sys2Proof.Machine

/-- One access of DBGACC (R765, R766): what it asks for. -/
structure DbgAcc where
  write : Bool
  wide : Bool
  addr : Nat
  data : Nat
  deriving DecidableEq, Repr

/-- The status of DBGACC (R765). -/
inductive DbgStatus where
  | ok | busy | error | locked
  deriving DecidableEq, Repr

/-- The debug port. -/
structure DbgState where
  /-- Cores, by debug index, whose HALT waits for their next interrupt point (R768). -/
  want : List Nat
  /-- Cores, by debug index, that execute one instruction and halt again (R768). -/
  step : List Nat
  /-- Cores that were resumed or stepped and pass the breakpoint they stand at. -/
  pass : List Nat
  /-- The challenge that DBGCHAL formed last, and the second after a failed submission (R764). -/
  chal : Option Nat
  holdoff : Bool
  /-- The access that runs, and what the last one left to shift out (R765, R766). -/
  run : Option DbgAcc
  status : DbgStatus
  data : Nat
  deriving DecidableEq, Repr

/-- The debug port right after POR. -/
def DbgState.reset : DbgState := 
  { want := [], step := [], pass := [], chal := none, holdoff := false, run := none, status := .ok, data := 0 }

end Sys2Proof.Machine
end

