-- ==== Sys2Proof/Machine/StNet.lean ====
section
/-!
DEFINITION. Machine/StNet.lean: frames and the state of the port complex, the switch core and the redundancy engine beside
their registers (chapters 03, 04, 05).
-/

namespace Sys2Proof.Machine

/-- What the checksum stage reports for one layer (R144). -/
inductive CsumRes where
  | none | good | bad | absent
  deriving DecidableEq, Repr

/-- The redundancy data RDE takes off a received frame (R252, R266). -/
structure RedInfo where
  src : Nat
  seq : Nat
  lanB : Bool
  deriving DecidableEq, Repr

/-- The metadata that travels with a frame inside the module (R144, R148, R151, R154, R252). -/
structure FrameInfo where
  /-- Switch ingress port (R193). -/
  inPort : Nat := 11
  /-- Receive timestamp, whole ns from the PTP epoch (R151). -/
  rxNs : Nat := 0
  /-- The receive instant on the scale that no step of TOD moves, in 2^-48 ns (R89). -/
  rxMono : Int := 0
  vid : Nat := 0
  pcp : Nat := 0
  tc : Nat := 0
  ipSum : CsumRes := .none
  l4Sum : CsumRes := .none
  red : Option RedInfo := Option.none
  /-- The request for a transmit timestamp (R154). -/
  tsReq : Bool := false
  /-- The request for checksum insertion (R145). -/
  csumIns : Bool := false
  /-- The number a pair publication's frame takes (R279). -/
  pairSeq : Option Nat := Option.none
  /-- A pair publication whose PCNT is 0: RDE numbers none of its frames (R299). -/
  unnumbered : Bool := false
  /-- The producer's error mark (R227). -/
  errMark : Bool := false
  deriving DecidableEq, Repr

/-- A frame inside the module: its bytes from the destination address to the last byte before the FCS. -/
structure Frame where
  bytes : List Byte
  info : FrameInfo
  deriving DecidableEq, Repr

/-- The link states of R132. -/
inductive LinkState where
  | disabled | noSignal | syncWait | an | refused | up | rfault
  deriving DecidableEq, Repr

/-- One entry of a transmit timestamp queue (R155). -/
structure TsqEntry where
  tag : Nat
  stomp : Bool
  ns : Nat
  deriving DecidableEq, Repr

/-- A port's gate control list as it runs (R168 to R179). -/
structure GclRun where
  act : Nat := 0
  pending : Bool := false
  /-- The entry whose gates stand; none: waiting for the first cycle start, with the last entry's gates. -/
  cur : Option Nat := Option.none
  /-- TOD in ns at which the current entry began. -/
  since : Nat := 0
  /-- The last entry's TIME has run out and its gates hold until the next cycle start. -/
  ended : Bool := false
  /-- A TOD load or step holds the current entry's gates (R173). -/
  hold : Bool := false
  /-- TOD in ns of the anchor's last two firings, newest first (R175). -/
  fires : List Nat := []
  deriving DecidableEq, Repr

/-- A frame in transmission (R176, R182): its class, its last byte's end on the scale of `rxMono`, what went out and whether it is
stomped, and whether its gate's closing was counted. -/
structure Sending where
  cls : Nat
  endAt : Int
  bytes : List Byte
  bad : Bool
  late : Bool
  deriving DecidableEq, Repr

/-- One lane with its MAC, stages and queues. -/
structure PortState where
  link : LinkState := .disabled
  signal : Bool := false
  sync : Bool := false
  fecLock : Bool := false
  rfRx : Bool := false
  txOn : Bool := false
  /-- Admitted frames in arrival order, each with the bytes it holds of the FIFO (R160, R161). -/
  rxFifo : List (Nat × Frame) := []
  /-- A PAUSE frame was sent and the level has not fallen to the low watermark (R162). -/
  pausing : Bool := false
  /-- A received PAUSE holds the transmitter (R164). -/
  paused : Bool := false
  tsq : List TsqEntry := []
  tsqLost : Nat := 0
  nextTag : Nat := 0
  gcl : GclRun := {}
  /-- The frame in transmission. -/
  sending : Option Sending := Option.none
  /-- A PAUSE frame's quanta that waits until the lane may start a frame (R133, R163). -/
  pauseDue : Option Nat := Option.none
  deriving DecidableEq, Repr

/-- The Ethernet ports and Halyard lanes. -/
structure PcxState where
  ports : SMap PortState
  pllLock : Bool
  deriving DecidableEq, Repr

/-- PCX right after POR: every lane DISABLED, the SerDes PLL in lock. -/
def PcxState.reset : PcxState := { ports := [], pllLock := true }

/-- A frame between its pipeline and its resequencers (R207, R234). -/
structure Lookup where
  fid : Nat
  frame : Frame
  seq : Nat
  fdbEp : Nat
  clsEp : Nat
  proxyEp : Nat
  deriving DecidableEq, Repr

/-- A frame's copy in an egress queue (R212). -/
structure QEntry where
  fid : Nat
  frame : Frame
  cells : Nat
  ct : Bool
  /-- Its transmission has begun by cut-through: it has left its queue (R223, R224). -/
  begun : Bool
  bad : Bool
  mirror : Bool
  fdbEp : Nat
  clsEp : Nat
  proxyEp : Nat
  /-- The redundancy sequence number the frame carries (R249). -/
  red : Option Nat
  /-- The REQTAG of its timestamp request (R154). -/
  reqTag : Option Nat
  deriving DecidableEq, Repr

/-- A lookup result held by the resequencers (R208, R209): its destination ports and class. -/
structure Report where
  look : Lookup
  dests : Nat
  tc : Nat
  /-- The queue, port × 8 + class, that the frame's mirrored copy goes to (R231, R232). -/
  copy : Option Nat
  /-- RDE has numbered and checked the frame (R249, R256). -/
  checked : Bool
  red : Option Nat
  deriving DecidableEq, Repr

/-- The resequencers of one ingress port: the expected number of each of the 96 queues, and the results held. -/
structure ReseqPort where
  exps : List Nat
  held : List Report
  deriving DecidableEq, Repr

/-- The switch core. -/
structure SwcState where
  /-- Frames on their way from the ports and HOST to the pipelines, in order. -/
  toSwitch : List Frame
  seqNext : SMap Nat
  looking : List Lookup
  reseq : SMap ReseqPort
  queues : SMap (List QEntry)
  fdbAct : Nat
  clsAct : Nat
  /-- Address table entries by epoch × 65,536 + index: D0, D1, D2 (R199, R242). -/
  fdb : SMap (Nat × Nat × Nat)
  nextFid : Nat
  /-- Frames handed to INGEST, in order (R196). -/
  ingest : List Frame
  deriving DecidableEq, Repr

/-- The resequencers of a port before any frame. -/
def ReseqPort.fresh : ReseqPort := { exps := List.replicate 96 0, held := [] }

/-- SWC right after reset (R238). -/
def SwcState.reset : SwcState :=
  { toSwitch := [], seqNext := [], looking := [], reseq := [], queues := [], fdbAct := 0, clsAct := 0, fdb := [],
    nextFid := 0, ingest := [] }

/-- A duplicate window (R257): the highest number and the map of it and the 63 below; empty at first. -/
abbrev DupWindow := Option (Nat × Nat)

/-- One tracked source (R255). -/
structure Source where
  mac : Nat
  deliver : DupWindow
  fwdA : DupWindow
  fwdB : DupWindow
  deriving DecidableEq, Repr

/-- A forwarded ring frame at its egress (R268, R269); a bad one began by cut-through before its tail arrived (R270). -/
structure RingEntry where
  frame : Frame
  bad : Bool
  deriving DecidableEq, Repr

/-- The pair states of R282. -/
inductive PairState where
  | off | seek | alone | transfer | shadow | paired
  deriving DecidableEq, Repr

/-- The tenant pair states of R290. -/
inductive TenPair where
  | wait | shadow | active | silent
  deriving DecidableEq, Repr

/-- The state of one publication as PUBSTATE carries it (R273, R291): stNum, sqNum, curve position and last values. -/
structure PubSnap where
  pub : Nat
  stNum : Nat
  sqNum : Nat
  curve : Nat
  values : List Nat
  deriving DecidableEq, Repr

/-- The messages of R273. -/
inductive HalMsg where
  | heartbeat (state : PairState) (leader : Bool) (serial : Nat) (tick : Nat)
  | tick (tick : Nat) (todNs : Nat) (fw : Nat) (base : Nat) (blk : Nat)
  | digest (tick : Nat) (items : List (Nat × Nat × Bool))
  | pageList (tenant : Nat) (count : Nat) (crcs : List Nat)
  | page (tenant : Nat) (target : Nat) (index : Nat) (quarter : Nat) (data : List Byte)
  | pubState (tenant : Nat) (target : Nat) (pubs : List PubSnap)
  | xferEnd (tenant : Nat) (target : Nat) (frames : Nat) (reply : Option Bool)
  deriving DecidableEq, Repr

/-- A pair tenant's digests and transfer on this module. -/
structure TenRde where
  st : TenPair := .wait
  /-- Matching ticks in a row (R289, R290). -/
  matches_ : Nat := 0
  /-- The tick compared last (R286). -/
  lastTick : Option Nat := Option.none
  /-- This module's digests that were not compared yet, oldest first: tick, digest, fault bit. -/
  mine : List (Nat × Nat × Bool) := []
  /-- The partner's digests that were not compared yet, oldest first. -/
  theirs : List (Nat × Nat × Bool) := []
  /-- It became ACTIVE in this tick: its publications are sent from the next one (R290). -/
  hold : Bool := false
  /-- Target tick of a transfer under way (R291). -/
  target : Option Nat := Option.none
  /-- The checksums of the joiner's PAGELIST frames that arrived of a list that is not whole yet (R273). -/
  listPart : List Nat := []
  /-- The joiner's page checksums as the donor holds them. -/
  joinList : Option (List Nat) := Option.none
  /-- Messages taken by the joiner and not installed yet. -/
  pages : List (Nat × Nat × List Byte) := []
  pubs : List PubSnap := []
  got : Nat := 0
  deriving DecidableEq, Repr

/-- The redundancy engine. -/
structure RdeState where
  sources : SMap (Option Source)
  /-- The source address of the frames that take the module's own counter (R250). -/
  stationMac : Option Nat
  ownSeq : Nat
  proxySeq : SMap Nat
  proxyAct : Nat
  /-- Ring-forward buffers by egress port × 8 + class, in order (R268). -/
  ring : SMap (List RingEntry)
  pair : PairState
  leader : Bool
  partner : PairState
  seen : Bool
  missed : Nat
  halTx : Nat
  halRx : DupWindow
  /-- The reference (t_r, B_r) of R278. -/
  ref : Option (Nat × Nat)
  angleRefused : Bool
  tens : SMap TenRde
  deriving DecidableEq, Repr

/-- RDE right after reset. -/
def RdeState.reset : RdeState :=
  { sources := [], stationMac := none, ownSeq := 0, proxySeq := [], proxyAct := 0, ring := [], pair := .off,
    leader := false, partner := .off, seen := false, missed := 0, halTx := 0, halRx := none, ref := none,
    angleRefused := false, tens := [] }

end Sys2Proof.Machine
end

