-- ==== Sys2Proof/Machine/StDmv.lean ====
section
/-!
DEFINITION. Machine/StDmv.lean: what the data movers hold beside their registers and rings (chapter 15).
-/

namespace Sys2Proof.Machine

/-- A copy descriptor that was executed and not completed yet (R682): its error code and the bytes written. -/
structure CopyJob where
  err : Nat
  moved : Nat
  deriving DecidableEq, Repr

/-- One mover: its descriptor in progress, and the HOST frames on their way into its ring, in order (R684, R688). -/
structure Mover where
  job : Option CopyJob := none
  rx : List Frame := []
  deriving DecidableEq, Repr

/-- DMV beside its registers. -/
structure DmvState where
  movers : SMap Mover
  /-- Beats of frame data that failed by parity at the switch-host ports, and whether they were written (R646, R648, R687). -/
  failed : List (Bool × Nat)
  deriving DecidableEq, Repr

/-- DMV right after reset. -/
def DmvState.reset : DmvState := { movers := [], failed := [] }

end Sys2Proof.Machine
end

