-- ==== Sys2Proof/Machine/StMem.lean ====
section
/-!
DEFINITION. Machine/StMem.lean: what the memory controller and the arbiters hold beside their registers (chapter 14).
-/

namespace Sys2Proof.Machine

/-- How a burst ended: its port, the cycle of its first beat, what it read, and whether its requester received an error. -/
structure Served where
  port : Nat
  first : Nat
  data : List Byte
  error : Bool
  deriving DecidableEq, Repr

/-- MEM beside its registers. -/
structure MemCtl where
  /-- Words, by address / 8, stored with check bits inverted: how many (R651). -/
  bad : SMap Nat
  /-- The armed injection: its word and KIND (R651). -/
  inj : Option (Nat × Nat)
  /-- SRAM and DRAM were zeroed since POR or Calm exit (R640, R644). -/
  sramInit : Bool
  dramInit : Bool
  /-- Training failed since POR or Calm exit (R644). -/
  trainFailed : Bool
  /-- By bank: the port granted last (R656). -/
  last : SMap Nat
  /-- Requests to memory that does not answer yet, in order (R640, R644). -/
  waiting : List (List Burst)
  /-- The bursts of the last request as they were served. -/
  served : List Served
  /-- The DRAM devices are in self-refresh (R642, R740). -/
  selfRefresh : Bool
  deriving DecidableEq, Repr

/-- MEM right after POR. -/
def MemCtl.reset : MemCtl :=
  { bad := [], inj := none, sramInit := false, dramInit := false, trainFailed := false, last := [], waiting := [], served := [], selfRefresh := false }

/-- Who makes a memory access: its port (R652), tenant-valid bit and burgee (R392). -/
structure MemWho where
  port : Nat
  tv : Bool
  burgee : Nat
  deriving DecidableEq, Repr

end Sys2Proof.Machine
end

