-- ==== Sys2Proof/Machine/StPub.lean ====
section
/-!
DEFINITION. Machine/StPub.lean: publications and subscriptions beside their registers (chapter 12).
-/

namespace Sys2Proof.Machine

/-- One attribute as it was last sent (R579, R591): value, quality word, and whether it was the declared safe value. -/
structure SentVal where
  value : Nat
  quality : Nat
  safe : Bool
  deriving DecidableEq, Repr

/-- A trip that waits for its verdict (R584). -/
structure HeldTrip where
  data : Nat
  tick : Nat
  deriving DecidableEq, Repr

/-- One publication's state; stNum, sqNum, ARMED, PEND and the like stand in its registers (R571, R607). -/
structure Pub where
  /-- Values from commits and TRIPs with their qualities, unmarked, by attribute (R591 step 3). -/
  base : SMap (Option (Nat × Nat)) := []
  /-- The pending values came with PROV = 1 and carry the mark of R586. -/
  mark : Bool := false
  /-- What was sent last, by attribute. -/
  sent : List SentVal := []
  /-- A state was sent since EN was written 1 (R579). -/
  started : Bool := false
  /-- t of the state (R578). -/
  t : List Byte := []
  /-- Ticks that had a state change lately, newest first (R580). -/
  ticks : List Nat := []
  /-- PROV and TICK of the dispatch of the merged change, when it came from one (R580, R587). -/
  merged : Option (Bool × Nat) := none
  /-- The values that wait for the next tick boundary (R580). -/
  waiting : List SentVal := []
  /-- The interval to the next repeat in ms, the sum D of the intervals up to it, and when it falls due (R581, R582). -/
  ival : Nat := 0
  sumD : Nat := 0
  due : Int := 0
  held : Option HeldTrip := none
  /-- The last provisional state change: stNum and tick, and whether the verdict on that tick was CORRECTED (R587, R588). -/
  prov : Option (Nat × Nat) := none
  provCorrected : Bool := false
  /-- The ticks that took slot numbers lately, newest first: each with the k that its next frame takes (R279). -/
  slots : List (Nat × Nat) := []
  /-- The repeats that wait for their tick, in order: timeAllowedtoLive and the tick (R280). -/
  deferred : List (Nat × Nat) := []
  /-- The safe values wait for the first commit or TRIP (R592). -/
  safe : Bool := false
  /-- SV: commits since EN was written 1, and the ASDUs waiting for their frame: number and channels (R593, R594). -/
  commits : Nat := 0
  asdus : List (Nat × List SentVal) := []
  deriving DecidableEq, Repr

/-- One entry of the correction log (R588). -/
structure CorrEntry where
  pub : Nat
  pst : Nat
  cst : Nat
  tick : Nat
  deriving DecidableEq, Repr

/-- One subscription's supervision (R598, R599): stNum and sqNum of the last accepted frame, and when its timeAllowedtoLive ends. -/
structure RxSub where
  last : Option (Nat × Nat) := none
  lives : Int := 0
  expired : Bool := false
  deriving DecidableEq, Repr

/-- PUB beside its registers. -/
structure PubBlock where
  act : Nat
  pubs : SMap Pub
  subs : SMap RxSub
  clog : List CorrEntry
  clogLost : Nat
  /-- GOOSE frames delivered on HOST and not examined yet (R596). -/
  inbox : List Frame
  /-- The level of ALIVE (R602). -/
  alive : Bool
  /-- The last changes of each binary point that CAP can record, newest first: TOD in ns and value after it (R610). -/
  points : SMap (List (Nat × Bool))
  deriving DecidableEq, Repr

/-- PUB right after reset. -/
def PubBlock.reset : PubBlock :=
  { act := 0, pubs := [], subs := [], clog := [], clogLost := 0, inbox := [], alive := false, points := [] }

end Sys2Proof.Machine
end

