-- ==== Sys2Proof/Machine/StSec.lean ====
section
/-!
DEFINITION. Machine/StSec.lean: the key store, the engine, life cycle, measurements and Ensign beside their registers
(chapter 16).
-/

namespace Sys2Proof.Machine

/-- One key slot (R693). Byte `i` of the key is byte `i` of the number, lowest first (R695). -/
structure KeySlot where
  key : Nat := 0
  alg : Nat := 0
  usage : Nat := 0
  owned : Bool := false
  owner : Nat := 0
  expiry : Nat := 0
  keyId : Nat := 0
  nextEn : Bool := false
  next : Nat := 0
  valid : Bool := false
  expired : Bool := false
  deriving DecidableEq, Repr

/-- A key command on its way into NVS (R697): the slot and its new contents. -/
structure KeyRun where
  slot : Nat
  new : KeySlot
  deriving DecidableEq, Repr

/-- An engine operation that runs (R707, R708): its code and the words it writes to X_D0 on. -/
structure EngRun where
  code : Nat
  words : List Nat
  deriving DecidableEq, Repr

/-- The life-cycle operations (R726). -/
inductive LcOp where
  | provision | field | rma | scrap | relock | ownerRoot | challenge
  deriving DecidableEq, Repr

/-- A life-cycle command that was accepted and has not completed (R712): with the owner root it writes, for OWNER_ROOT. -/
structure LcRun where
  op : LcOp
  value : Nat
  deriving DecidableEq, Repr

/-- The statement under way (R722): the bytes before the signature, with the monotonic counter already increased. -/
structure EnsRun where
  body : List Byte
  mono : Nat
  /-- The snapshot's private key (R716). -/
  key : Nat
  deriving DecidableEq, Repr

/-- SEC beside its registers. -/
structure SecState where
  slots : SMap KeySlot
  ownerRoot : Nat
  fieldRoot : Nat
  /-- SEC_KEY_D0 to D7 (R695): write-only, so the register file shows none of it. -/
  keyD : SMap Nat
  keyRun : Option KeyRun
  eng : Option EngRun
  /-- The supervisory HMAC that runs: its key and the bytes fed so far. -/
  hmac : Option (List Byte × List Byte)
  lcRun : Option LcRun
  /-- A transition into RMA completed: the boot ROM zeroes SRAM and DRAM (R749). -/
  rmaZero : Bool
  challenge : Option Nat
  zeroising : Bool
  /-- Image digests by tenant × 2 + slot, as big-endian numbers (R720). -/
  tdig : SMap Nat
  ens : Option EnsRun
  deriving DecidableEq, Repr

/-- SEC in a module as it leaves the factory. -/
def SecState.reset : SecState :=
  { slots := [], ownerRoot := 0, fieldRoot := 0, keyD := [], keyRun := none, eng := none, hmac := none, lcRun := none, rmaZero := false,
    challenge := none, zeroising := false, tdig := [], ens := none }

end Sys2Proof.Machine
end

