-- ==== Sys2Proof/Machine/StSup.lean ====
section
/-!
DEFINITION. Machine/StSup.lean: the supervisory cores, their coherent data caches and the interrupt controller beside its
registers (chapter 11).
-/

namespace Sys2Proof.Machine

/-- SUP beside its registers. -/
structure SupState where
  cores : SMap SupCore
  /-- The coherent D-caches of S0 to S3 as one (R554). -/
  dl : List CLine
  /-- Pending software sources (R559). -/
  swi : List Nat
  deriving DecidableEq, Repr

/-- SUP after POR: only S0 runs (R749). -/
def SupState.reset : SupState := { cores := [(0, { running := true })], dl := [], swi := [] }

end Sys2Proof.Machine
end

