-- ==== Sys2Proof/Machine/StSvc.lean ====
section
/-!
DEFINITION. Machine/StSvc.lean: the sampled-value side beside its registers: histories of streams, output samples and grids
(chapters 06, 07).
-/

namespace Sys2Proof.Machine

/-- One channel's value in a sample with its quality (R315, R338). Validity: 0 good, 1 invalid, 3 questionable. -/
structure ChVal where
  v : Int
  validity : Nat
  test : Bool
  /-- The largest magnitude among the samples a prediction came from (R332). -/
  peak : Nat
  deriving DecidableEq, Repr

/-- How a sample came into a history (R322, R326). -/
inductive SampSt where
  | received | predicted | missing
  deriving DecidableEq, Repr

/-- One sample of a stream: its place in the history, its raw instant in ns of TOD with the shift TOD had then, and its
channels. -/
structure Samp where
  idx : Int
  st : SampSt
  /-- Its horizon has passed (R332). -/
  frozen : Bool
  /-- A replacement differed by more than its tolerance (R334). -/
  corrected : Bool
  t : Rat
  shift : Int
  /-- Loads and steps of TOD before it was timed (R376). -/
  steps : Nat
  ch : List ChVal
  deriving DecidableEq, Repr

/-- A grid instant (R352, R353): whole ns of TOD, its place on the scale that no step moves, and the shift between the two. -/
structure GridAt where
  t : Int
  mono : Int
  shift : Int
  deriving DecidableEq, Repr

/-- One output sample written to the windows (R354, R360): its grid instant, what it read, and what still stands open about it. -/
structure OutRec where
  j : Nat
  at_ : GridAt
  tick : Nat
  lo : Int
  hi : Int
  /-- Decimator outputs it read that are still predicted. -/
  preds : List Int
  /-- Predicted samples contributed when it was first written. -/
  wasPred : Bool
  corrected : Bool
  invalid : Bool
  quest : Bool
  dirty : Bool
  deriving DecidableEq, Repr

/-- One stream's context. -/
structure Stream where
  /-- Input samples and decimator outputs, newest first (R322, R348). -/
  inp : List Samp := []
  out : List Samp := []
  /-- The raw instant of sample 0 of the wraps lately, newest first, with the shift TOD had then: its v_0 (R360). -/
  v0s : List (Int × Rat × Int) := []
  /-- The last frame that brought a sample: its noASDU, the place of its last ASDU, and its arrival in ns (R319, R326). -/
  frameM : Nat := 1
  frameEnd : Int := 0
  frameAt : Nat := 0
  /-- smpCnt of the last ASDU matched since the state was entered (R324). -/
  prev : Option Nat := none
  /-- Its newest sample when START was last entered (R91). -/
  startIdx : Int := 0
  jNext : Option Nat := none
  outs : List OutRec := []
  /-- Ticks whose deadline passed with a fill (R336). -/
  lateTicks : List Nat := []
  deriving DecidableEq, Repr

/-- One grid's progress (R353, R377). -/
structure Grid where
  /-- The first point after the grid was enabled (R353). -/
  first : Nat := 0
  /-- The last point that any of its streams produced. -/
  last : Option Nat := none
  /-- Loads and steps of TOD, newest first: the point that came next, the one the grid resumed at, and the shift before. -/
  skips : List (Nat × Nat × Int) := []
  deriving DecidableEq, Repr

/-- What a tenant's readiness knows (R334, R336): the tick declared ready last, whether it was provisional then. -/
structure ReadyRec where
  tick : Nat
  prov : Bool
  deriving DecidableEq, Repr

/-- SVC beside its registers. -/
structure SvcState where
  subAct : Nat
  streams : SMap Stream
  grids : SMap Grid
  /-- Coefficients by address: KIND, SET, PHASE and TAP as SVC_RS_COEF_ADDR places them. -/
  coef : SMap Nat
  ready : SMap (Option ReadyRec)
  deriving DecidableEq, Repr

/-- SVC right after reset. -/
def SvcState.reset : SvcState := { subAct := 0, streams := [], grids := [], coef := [], ready := [] }

end Sys2Proof.Machine
end

