-- ==== Sys2Proof/Machine/StSys.lean ====
section
/-!
DEFINITION. Machine/StSys.lean: resets, power states, the global watchdog and the NVS controller beside their registers
(chapter 17), and the supply rails and pins of chapter 19.
-/

namespace Sys2Proof.Machine

/-- What the module as a whole does (R737, R728): it runs, it is in Lull, it sleeps in Calm, or a reset of class S holds it. -/
inductive Power where
  | run | lull | calm | held
  deriving DecidableEq, Repr

/-- The commands of the NVS controller (R758). -/
inductive NvsOp where
  | write | erase | bkd (index : Nat)
  deriving DecidableEq, Repr

/-- An NVS command in progress (R758). -/
structure NvsRun where
  op : NvsOp
  addr : Nat
  len : Nat
  src : Nat
  deriving DecidableEq, Repr

/-- What the test access port has selected (R760, R761). -/
inductive TapInstr where
  | idcode | sample | extest | clamp | highz | bypass | acc | chal | resp
  deriving DecidableEq, Repr

/-- Resets and power. -/
structure SysState where
  power : Power
  /-- The hold is POR's (R728, R734). -/
  porHeld : Bool
  /-- Calm entry is under way (R738), and a wake event arrived during it (R737). -/
  entering : Bool
  wake : Bool
  /-- Register writes to gated blocks, in issue order: they take effect when the domain's clock resumes (R46). -/
  gated : List (Nat × Nat)
  /-- What is left of the global watchdog in 2^-48 ns, since when it runs, and where its kick pair stands (R754). -/
  wdLeft : Nat
  wdSince : Option Int
  wdKick : KickState
  nvs : Option NvsRun
  /-- Bytes that NVS commands and refreshes have written since manufacture (R796). -/
  nvsWritten : Nat
  /-- A rail left its range while PWR_GOOD stayed high: how many transitions ALIVE may still make (R788). -/
  railOut : Option Nat
  /-- VDD_AON is above its threshold (R785, R788). -/
  aonGood : Bool
  tap : TapInstr
  /-- The boundary scan cells that hold 1 as last loaded, and as last captured, by cell (R762, R782). -/
  scan : List Nat
  captured : List Nat
  deriving DecidableEq, Repr

/-- After POR is released. -/
def SysState.reset : SysState :=
  { power := .run, porHeld := false, entering := false, wake := false, gated := [], wdLeft := 0, wdSince := none,
    wdKick := .idle, nvs := none, nvsWritten := 0, railOut := none, aonGood := true, tap := .idcode, scan := [], captured := [] }

end Sys2Proof.Machine
end

