-- ==== Sys2Proof/Machine/StTab.lean ====
section
/-!
DEFINITION. Machine/StTab.lean: the time and angle base's own state beside its registers (chapter 02).
-/

namespace Sys2Proof.Machine

/-- The sync states of R76. -/
inductive SyncState where
  | free | acquire | locked | holdover
  deriving DecidableEq, Repr

/-- The Windsock states of R94. -/
inductive WsState where
  | fallback | acquire | locked | partner
  deriving DecidableEq, Repr

/-- The number of a Windsock state (R119). -/
def WsState.num : WsState → Nat
  | .fallback => 0 | .acquire => 1 | .locked => 2 | .partner => 3

/-- Where the CK_PTP PLL stands towards SYNC10M_IN (R81). -/
inductive RefState where
  | idle | watching | taken | lost
  deriving DecidableEq, Repr

/-- One record of the PTP event queue (R85, R123). -/
structure PtpRecord where
  seqId : Nat
  domain : Nat
  msgType : Nat
  port : Nat
  tx : Bool
  sec : Nat
  ns : Nat
  deriving DecidableEq, Repr

/-- A pending two-step Sync at an egress port (R86): what the matching Follow_Up takes, in 2^-16 ns. -/
structure TcPending where
  seqId : Nat
  source : Nat
  corr : Int
  deriving DecidableEq, Repr

/-- From one instant on, the angle counter stood at `angle` and advanced by `fw` per CK_PTP cycle, and TOD by `inc` (R65, R93). -/
structure AngleSeg where
  mono : Int
  angle : Nat
  fw : Nat
  inc : Nat
  deriving DecidableEq, Repr

/-- One requester's snapshot registers (R67). -/
structure Snap where
  sec : Nat
  ns : Nat
  angle : Nat
  deriving DecidableEq, Repr

/-- One pulse on PPS_OUT (R82): its rising edge on the scale that no load or step of TOD moves, and its length in ns. -/
structure Pulse where
  rise : Int
  ns : Rat
  deriving DecidableEq, Repr

/-- The partner's latest TICK message (R97, R273). -/
structure PartnerTick where
  tick : Nat
  todNs : Nat
  fw : Nat
  deriving DecidableEq, Repr

/-- One tick as it was raised (R103, R354): its index, TAB_TICKTOD in whole ns, the instant on the scale that no load or step
of TOD moves, and the angle of its boundary. -/
structure TickRec where
  idx : Nat
  ns : Nat
  mono : Int
  angle : Nat
  deriving DecidableEq, Repr

/-- The state of TAB beside its registers. -/
structure TabState where
  /-- TOD in units of 2^-48 ns from the PTP epoch (R64, R65). -/
  tod : Nat
  /-- The sum of every load and step of TOD, in the same unit: `tod - todShift` never jumps (R89). -/
  todShift : Int
  /-- The loads and steps of TOD lately, newest first: where `tod - todShift` stood, and the shift before it (R376). -/
  stepLog : List (Int × Int)
  /-- How many loads and steps there were (R376). -/
  stepCnt : Nat
  /-- The ticks raised lately, newest first (R354). -/
  ticks : List TickRec
  /-- The Windsock state each of those ticks carries (R96): tick index and state number. -/
  tickWs : List (Nat × Nat)
  todValid : Bool
  /-- The angle counter in units of 2^-32 au, modulo 2^80 (R99). -/
  angle : Nat
  /-- The index of the last tick boundary whose tick was raised (R103). -/
  raised : Nat
  /-- Log2 of the tick division in effect (R101, R104). -/
  divEff : Nat
  /-- NOMF in effect (R117). -/
  nomfEff : Bool
  sync : SyncState
  lockCnt : Nat
  /-- The servo's integrator in ppb (R74). -/
  integ : Rat
  /-- The per-second samples of SRV_RATE held, newest first (R77). -/
  heldRates : List Int
  /-- SRV_RATE at the last whole second of REFCLK (R77). -/
  lastRate : Int
  hoCounting : Bool
  /-- CK_PTP cycles of the ms that HO_ELAPSED counts now (R78). -/
  hoSub : Nat
  hoRaised : Bool
  ppsMissRaised : Bool
  ref10m : RefState
  ppsOut : Option Pulse
  evq : List PtpRecord
  evqLost : Nat
  /-- Pending two-step entries by egress port, oldest first (R86). -/
  tcPend : SMap (List TcPending)
  ws : WsState
  fCur : Rat
  fEst : Rat
  errPrev : Option Int
  bad : Nat
  lockRun : Nat
  reacqRun : Nat
  /-- Whether the reference was valid at the last tick boundary (R91, R94). -/
  refValid : Bool
  partnerTick : Option PartnerTick
  /-- Whether a tenant was dispatched since release from the last reset of class S (R97). -/
  dispatched : Bool
  /-- Whether Windsock has entered PARTNER since then: only the first entry loads the angle (R97). -/
  partnerMet : Bool
  /-- How the angle counter moved lately, newest first (R89). -/
  segs : List AngleSeg
  snaps : SMap Snap
  /-- By comparator, one more than the cycle or tick in which it last fired or was passed when armed (R105, R108). -/
  cmpMark : SMap Nat
  deriving DecidableEq, Repr

/-- TAB right after POR (R72, R79, R94). -/
def TabState.reset : TabState :=
  { tod := 0, todShift := 0, stepLog := [], stepCnt := 0, ticks := [], tickWs := [], todValid := false, angle := 0, raised := 0, divEff := 4, nomfEff := false,
    sync := .free, lockCnt := 0, integ := 0, heldRates := [], lastRate := 0, hoCounting := false, hoSub := 0, hoRaised := false,
    ppsMissRaised := false, ref10m := .idle, ppsOut := none, evq := [], evqLost := 0, tcPend := [],
    ws := .fallback, fCur := 50, fEst := 50, errPrev := none, bad := 0, lockRun := 0, reacqRun := 0,
    refValid := false, partnerTick := none, dispatched := false, partnerMet := false,
    segs := [⟨0, 0, 56294995, 4 * 2 ^ 48⟩], snaps := [], cmpMark := [] }

end Sys2Proof.Machine
end

