-- ==== Sys2Proof/Machine/State.lean ====
section
/-!
DEFINITION. Machine/State.lean: everything the manual gives the module, as plain data, and the reasons a step can stop.
-/

namespace Sys2Proof.Machine

/-- What a requester's last access answered (R25, R26, R48, R53). -/
inductive Resp where
  | data (v : Nat)
  | done
  | accessFault
  | denied
  deriving DecidableEq, Repr

/-- What one requester's path to the register space holds (R18 to R22): the latched high word and the held low word, each with
the address of its register, and the answer to the last access. -/
structure Port64 where
  latch : Option (Nat × Nat) := none
  hold : Option (Nat × Nat) := none
  resp : Resp := .done
  deriving DecidableEq, Repr

/-- What leaves the module, in the order it leaves. -/
inductive OutEvent where
  /-- A frame on a port (R138, R139): bytes without the FCS, and whether the FCS was complemented. -/
  | frame (port : Nat) (bytes : List Byte) (stomped : Bool) (todNs : Nat)
  /-- A PAUSE frame (R162). -/
  | pause (port : Nat) (quanta : Nat)
  /-- A message on the Halyard lanes that are in UP (R273), with its number. -/
  | halyard (h0 h1 : Bool) (seq : Nat) (msg : HalMsg)
  /-- A code that the boot ROM writes on UART 0 (R749). -/
  | uart0 (code : Nat)
  deriving DecidableEq, Repr

/-- The module. -/
structure State where
  /-- The commands that wait, first in, first out. -/
  pending : List Instr
  /-- The register file: what is not listed holds its reset value (R30, R52). -/
  regs : SMap DWord
  /-- Physical memory: DRAM, common SRAM, core scratch, NVS (R47). -/
  mem : List Host.Cell
  ports64 : SMap Port64
  tab : TabState
  pcx : PcxState
  swc : SwcState
  rde : RdeState
  svc : SvcState
  cyc : CycState
  pub : PubBlock
  cap : CapState
  dmv : DmvState
  sup : SupState
  sec : SecState
  sys : SysState
  mc : MemCtl
  dbg : DbgState
  out : List OutEvent
  /-- The model's own: how many free values were taken. -/
  free : Nat
  deriving DecidableEq, Repr

/-- The reasons a step stops. -/
inductive Fault where
  /-- Raised by a register access that breaks R17 (misaligned, or of a width the register does not take): R32 leaves what the
  module does undefined. Safe. -/
  | brokenMust (rule : Nat)
  deriving DecidableEq, Repr

/-- Why a command is not given a meaning. -/
inductive Refusal where
  /-- Raised by the dispatch for a command the model has no meaning for. Safe. -/
  | notModelled (mnemonic : String)
  deriving DecidableEq, Repr

/-- What a byte of memory that nothing has written reads as: zero in DRAM, SRAM and scratch (R640, R644), 0xFF in the erased
NVS (DESIGN CHOICE), the boot ROM's bytes in its window (R800). -/
def memDefault (a : Nat) : Byte :=
  if 0x2000000000 ≤ a ∧ a < 0x2040000000 then 0xFF
  else if 0x3FFFF00000 ≤ a ∧ a < 0x4000000000 then Config.bootRom a
  else 0

/-- The module right after reset. -/
def State.reset : State :=
  { pending := [], regs := [], mem := [], ports64 := [], tab := TabState.reset, pcx := PcxState.reset,
    swc := SwcState.reset, rde := RdeState.reset, svc := SvcState.reset, cyc := CycState.reset,
    pub := PubBlock.reset, cap := CapState.reset, dmv := DmvState.reset, sup := SupState.reset, sec := SecState.reset, sys := SysState.reset,
    mc := MemCtl.reset, dbg := DbgState.reset, out := [], free := 0 }

end Sys2Proof.Machine
end

