-- ==== Sys2Proof/Machine/Ops.lean ====
section
/-!
DEFINITION. Machine/Ops.lean: the named operations on the register file, memory, requesters' answers and free values.
-/

namespace Sys2Proof.Machine

/-- The outcome of every command. -/
abbrev Out := Host.Outcome State Fault Refusal

/-- The raw word of a register. -/
def State.rdW (s : State) (a : Nat) : DWord := smapGet regDefault s.regs a

/-- The word of a register as a number. -/
def State.rd (s : State) (a : Nat) : Nat := (s.rdW a).toNat

/-- Replace the word of a register. -/
def State.wr (s : State) (a v : Nat) : State := { s with regs := smapSet regDefault s.regs a (BitVec.ofNat 64 v) }

/-- A field's value. -/
def State.getF (s : State) (f : FieldRef) : Nat := (s.rd f.addr / 2 ^ f.lo) % 2 ^ f.width

/-- A one-bit field. -/
def State.flag (s : State) (f : FieldRef) : Bool := s.getF f != 0

/-- Replace a field, leaving the register's other bits. -/
def State.setF (s : State) (f : FieldRef) (v : Nat) : State :=
  s.wr f.addr (putBits (s.rd f.addr) (f.lo + f.width - 1) f.lo v)

/-- Set a one-bit field, as an event sets its STATUS bit. -/
def State.raise (s : State) (f : FieldRef) : State := s.setF f 1

/-- The word a register would hold after software wrote `v`, by its field table alone (R23, R24, R26). -/
def State.plain (s : State) (a v : Nat) : Nat :=
  match regAt a with
  | some (r, _) => fieldsAfter (s.rd a) v r.fields
  | none => s.rd a

/-- A write that only its field table governs. -/
def State.plainWrite (s : State) (a v : Nat) : State := s.wr a (s.plain a v)

/-- The indexes below `n` of a register array that the register file lists. -/
def State.listed (s : State) (base stride n : Nat) : List Nat :=
  s.regs.filterMap fun (a, _) =>
    if base ≤ a ∧ a < base + n * stride ∧ (a - base) % stride = 0 then some ((a - base) / stride) else none

/-- Add to a 32-bit counter, which wraps (R180, R241, R300). -/
def State.bumpBy (s : State) (a n : Nat) : State := s.wr a ((s.rd a + n) % 2 ^ 32)

/-- Count one event in a counter. -/
def State.bump (s : State) (a : Nat) : State := s.bumpBy a 1

/-- Set a list of registers to zero. -/
def State.zeroAll (s : State) (as : List Nat) : State := as.foldl (fun s a => s.wr a 0) s

/-- The next free value, which nothing constrains. -/
def State.takeFree (s : State) : Nat × State := (Config.freeValue s.free, { s with free := s.free + 1 })

/-- The boundary scan register has the outputs: their own sources do not reach the balls, and the SerDes transmitters are off
(R762). -/
def State.scanning (s : State) : Bool := decide (s.sys.tap = .extest ∨ s.sys.tap = .clamp ∨ s.sys.tap = .highz)

/-- Give something to the outside world, where the boundary scan leaves the way out. -/
def State.emit (s : State) (e : OutEvent) : State := if s.scanning then s else { s with out := s.out ++ [e] }

/-- One byte of physical memory. -/
def State.readByte (s : State) (a : Nat) : Byte := smapGet memDefault s.mem a

/-- `n` bytes from an address on. -/
def State.readBytes (s : State) (a : Nat) : Nat → List Byte
  | 0 => []
  | n + 1 => s.readByte a :: s.readBytes (a + 1) n

/-- Put one byte into physical memory. -/
def State.storeByte (s : State) (a : Nat) (v : Byte) : State := { s with mem := smapSet memDefault s.mem a v }

/-- Put bytes into physical memory. -/
def State.storeBytes (s : State) (a : Nat) : List Byte → State
  | [] => s
  | b :: bs => (s.storeByte a b).storeBytes (a + 1) bs

/-- Change what MEM holds beside its registers. -/
def State.onMc (s : State) (f : MemCtl → MemCtl) : State := { s with mc := f s.mc }

/-- The 64-bit words, by address / 8, that a range touches. -/
def wordsOf (a n : Nat) : List Nat := if n = 0 then [] else (List.range ((a + n - 1) / 8 + 1 - a / 8)).map fun i => a / 8 + i

/-- A word is stored: with valid check bits, or with the armed injection's (R648, R651). -/
def State.storeWord (s : State) (w : Nat) : State :=
  match s.mc.inj with
  | some (x, k) =>
    if x = w then (s.onMc fun m => { m with inj := none, bad := smapSet (fun _ => 0) m.bad w k }).raise MEM.STATUS_INJ_DONE
    else s.onMc fun m => { m with bad := smapSet (fun _ => 0) m.bad w 0 }
  | none => s.onMc fun m => { m with bad := smapSet (fun _ => 0) m.bad w 0 }

/-- Store bytes from an address on: every word they touch is written (R639). -/
def State.writeBytes (s : State) (a : Nat) (bs : List Byte) : State :=
  let s := s.storeBytes a bs
  if s.mc.bad.isEmpty ∧ s.mc.inj.isNone then s else (wordsOf a bs.length).foldl State.storeWord s

/-- Store one byte of physical memory. -/
def State.writeByte (s : State) (a : Nat) (v : Byte) : State := s.writeBytes a [v]

/-- A little-endian number of `n` bytes (R16). -/
def State.readLe (s : State) (a n : Nat) : Nat := ofLe (s.readBytes a n)

/-- An address lies in DRAM, else in SRAM when it is protected at all (R47). -/
def isDram (a : Nat) : Bool := decide (a < 0x400000000)

/-- An address lies in the common SRAM (R47). -/
def isSram (a : Nat) : Bool := decide (0x1000000000 ≤ a ∧ a < 0x1006000000)

/-- The error log of MEM (R649): KIND 1 and 3 are correctable. -/
def State.logMemErr (s : State) (who : MemWho) (a kind : Nat) : State :=
  let old := s.getF MEM.ERR_INFO_KIND
  let corr (k : Nat) : Bool := k == 1 || k == 3
  if s.flag MEM.ERR_INFO_VALID ∧ ¬ (corr old ∧ ¬ corr kind) then s
  else (s.wr MEM.ERR_ADDR a).wr MEM.ERR_INFO (2 ^ 31 + b2n who.tv * 2 ^ 30 + (if who.tv then who.burgee else 0) * 2 ^ 20 +
    who.port * 2 ^ 12 + kind)

/-- A correctable error is corrected in place, counted and logged (R647). -/
def State.memCe (s : State) (who : MemWho) (w : Nat) : State :=
  let s := s.onMc fun m => { m with bad := smapSet (fun _ => 0) m.bad w 0 }
  if isDram (w * 8) then ((s.bump MEM.DCE).raise MEM.STATUS_DRAM_CE).logMemErr who (w * 8) 3
  else ((s.bump MEM.SCE).raise MEM.STATUS_SRAM_CE).logMemErr who (w * 8) 1

/-- An uncorrectable error is counted and logged (R648). -/
def State.memUe (s : State) (who : MemWho) (w : Nat) : State :=
  if isDram (w * 8) then ((s.bump MEM.DUE).raise MEM.STATUS_DRAM_UE).logMemErr who (w * 8) 4
  else ((s.bump MEM.SUE).raise MEM.STATUS_SRAM_UE).logMemErr who (w * 8) 2

/-- The check of some words (R647, R648): whether one cannot be corrected. -/
def State.eccWords (s : State) (who : MemWho) (ws : List Nat) : State × Bool :=
  ws.foldl (fun (r : State × Bool) w =>
    match smapGet (fun _ => 0) r.1.mc.bad w with
    | 0 => r
    | 1 => (r.1.memCe who w, r.2)
    | _ => (r.1.memUe who w, true)) (s, false)

/-- The words of the 32-byte beats that a range touches (R638). -/
def beatWords (a n : Nat) : List Nat := if n = 0 then [] else wordsOf (a / 32 * 32) ((a + n + 31) / 32 * 32 - a / 32 * 32)

/-- The check of the beats that a read takes (R638, R647, R648): whether one is poisoned. -/
def State.eccRead (s : State) (who : MemWho) (a n : Nat) : State × Bool :=
  if isDram a ∧ s.mc.trainFailed then (s.memUe who (a / 8), true)
  else if s.mc.bad.isEmpty then (s, false)
  else s.eccWords who (beatWords a n)

/-- A requester reads memory (R648): no bytes when a beat is poisoned. -/
def State.memRead (s : State) (who : MemWho) (a n : Nat) : State × Option (List Byte) :=
  let r := s.eccRead who a n
  (r.1, if r.2 then none else some (r.1.readBytes a n))

/-- Memory at an address answers (R640, R644): an access before that waits. -/
def State.memReady (s : State) (a : Nat) : Bool :=
  if isDram a then s.flag MEM.STATE_DRAM_RDY || s.mc.trainFailed
  else if isSram a then s.flag MEM.STATE_SRAM_RDY else true

/-- Store a number as `n` little-endian bytes (R16). -/
def State.writeLe (s : State) (a n v : Nat) : State := s.writeBytes a (leBytes n v)

/-- The number of a requester's port (R652). -/
def reqPort : Requester → Nat
  | .sup c => 92 + c.val
  | .mover m => 64 + m.val
  | .debug => 96
  | .nvs => 97

/-- A requester's path to the register space. -/
def State.port64 (s : State) (who : Requester) : Port64 := smapGet (fun _ => {}) s.ports64 (reqPort who)

/-- Change a requester's path to the register space. -/
def State.setPort64 (s : State) (who : Requester) (f : Port64 → Port64) : State :=
  { s with ports64 := smapUpd (fun _ => {}) s.ports64 (reqPort who) f }

/-- Answer a requester. -/
def State.respond (s : State) (who : Requester) (r : Resp) : State := s.setPort64 who fun p => { p with resp := r }

/-- Change the time and angle base. -/
def State.onTab (s : State) (f : TabState → TabState) : State := { s with tab := f s.tab }

/-- Change the switch core. -/
def State.onSwc (s : State) (f : SwcState → SwcState) : State := { s with swc := f s.swc }

/-- Change the redundancy engine. -/
def State.onRde (s : State) (f : RdeState → RdeState) : State := { s with rde := f s.rde }

/-- One lane. -/
def State.port (s : State) (p : Nat) : PortState := smapGet (fun _ => {}) s.pcx.ports p

/-- Change one lane. -/
def State.onPort (s : State) (p : Nat) (f : PortState → PortState) : State :=
  { s with pcx := { s.pcx with ports := smapUpd (fun _ => {}) s.pcx.ports p f } }

/-- Do something when a condition holds. -/
def State.when (s : State) (c : Bool) (f : State → State) : State := if c then f s else s

/-- The module runs: it is neither held in reset nor asleep in Calm. -/
def State.awake (s : State) : Bool := decide (s.sys.power = .run ∨ s.sys.power = .lull)

/-- An event or access that acts only while the module runs; otherwise nothing is there to take it. -/
def State.act (s : State) (f : State → State) : Out := .next (if s.awake then f s else s)

/-- Something in the CK_SIG domain or on a cycle core, whose clocks Lull gates (R739). -/
def State.actSig (s : State) (f : State → State) : Out := .next (if s.sys.power = .run then f s else s)

/-- A register write into the CK_SIG domain: in Lull it waits for the clock (R46). -/
def State.actGated (s : State) (a v : Nat) (f : State → State) : Out :=
  .next (match s.sys.power with
    | .run => f s
    | .lull => { s with sys := { s.sys with gated := s.sys.gated ++ [(a, v)] } }
    | _ => s)

end Sys2Proof.Machine
end

