-- ==== Sys2Proof/Machine/Frames.lean ====
section
/-!
DEFINITION. Machine/Frames.lean: the parts of an Ethernet frame that the module reads and writes: addresses, VLAN and HSR tags,
the PRP trailer, checksums, PTP fields, and the CRC-32 of R200.
-/

namespace Sys2Proof.Machine

/-- Length from the destination address to the FCS (R136). -/
def frameLen (b : List Byte) : Nat := b.length + 4

/-- Destination address as a big-endian number (R801). -/
def frameDa (b : List Byte) : Nat := beAt b 0 6

/-- Source address (R801). -/
def frameSa (b : List Byte) : Nat := beAt b 6 6

/-- The broadcast address. -/
def broadcastMac : Nat := 0xFFFFFFFFFFFF

/-- The group bit: the lowest bit of the first byte on the wire. -/
def isGroup (mac : Nat) : Bool := bit mac 40

/-- The frame has an outer 0x8100 tag (R146). -/
def hasTag (b : List Byte) : Bool := decide (beAt b 12 2 = 0x8100 ∧ 16 ≤ b.length)

/-- The outer tag's VID; 0 without a tag. -/
def tagVid (b : List Byte) : Nat := if hasTag b then beAt b 14 2 % 4096 else 0

/-- The outer tag's PCP. -/
def tagPcp (b : List Byte) : Nat := if hasTag b then beAt b 14 2 / 8192 else 0

/-- The place after up to `n` 0x8100 tags from position `off`. -/
def skipTags : Nat → List Byte → Nat → Nat
  | 0, _, off => off
  | n + 1, b, off => if beAt b off 2 = 0x8100 then skipTags n b (off + 4) else off

/-- The place of an HSR tag, when the frame carries one after its 0x8100 tags (R142, R264). -/
def hsrAt (b : List Byte) : Option Nat :=
  let o := skipTags 2 b 12
  if beAt b o 2 = 0x892F then some o else none

/-- The place of the EtherType after any 0x8100 tags and any HSR tag (R197, R204). -/
def etherOff (b : List Byte) : Nat :=
  let o := skipTags (b.length / 4) b 12
  if beAt b o 2 = 0x892F then o + 6 else o

/-- The EtherType after any tags (R197). -/
def etherType (b : List Byte) : Nat := beAt b (etherOff b) 2

/-- `b` with bytes inserted at position `i`. -/
def insertAt (b : List Byte) (i : Nat) (xs : List Byte) : List Byte := b.take i ++ xs ++ b.drop i

/-- `b` with `n` bytes removed at position `i`. -/
def removeAt (b : List Byte) (i n : Nat) : List Byte := b.take i ++ b.drop (i + n)

/-- A frame padded with zeros to `n` bytes. -/
def padTo (n : Nat) (b : List Byte) : List Byte := b ++ List.replicate (n - b.length) 0

/-! ## CRC-32 -/

/-- One bit of the reflected CRC-32. -/
def crcBit (c : Nat) : Nat := if c % 2 = 1 then c / 2 ^^^ 0xEDB88320 else c / 2

/-- One byte of the reflected CRC-32. -/
def crcByte (c : Nat) (b : Byte) : Nat :=
  crcBit (crcBit (crcBit (crcBit (crcBit (crcBit (crcBit (crcBit (c ^^^ b.toNat))))))))

/-- The IEEE 802.3 CRC-32 of a list of bytes, as the FCS is computed (R200). -/
def crc32 (bs : List Byte) : Nat := bs.foldl crcByte 0xFFFFFFFF ^^^ 0xFFFFFFFF

/-- The CRC-32 of R200 over a VID and a MAC address. -/
def macCrc (vid mac : Nat) : Nat := crc32 (beBytes 2 (vid % 4096) ++ beBytes 6 mac)

/-! ## Checksums -/

/-- The ones'-complement sum of 16-bit words, an odd last byte taken as a high byte. -/
def onesSum : List Byte → Nat
  | [] => 0
  | [b] => b.toNat * 256
  | b :: c :: bs => b.toNat * 256 + c.toNat + onesSum bs

/-- The sum folded into 16 bits. -/
def fold16 (n : Nat) : Nat :=
  let f := n / 65536 + n % 65536
  let g := f / 65536 + f % 65536
  g / 65536 + g % 65536

/-- The place of the IPv4 header, when the checksum stage processes the frame (R142). -/
def ipv4At (b : List Byte) : Option Nat :=
  let o := skipTags 2 b 12
  let o := if beAt b o 2 = 0x892F then o + 6 else o
  let h := o + 2
  if beAt b o 2 = 0x0800 ∧ beAt b h 1 / 16 = 4 ∧ 5 ≤ beAt b h 1 % 16 ∧ h + 4 * (beAt b h 1 % 16) ≤ b.length
  then some h else none

/-- Header length in bytes. -/
def ipHdrLen (b : List Byte) (h : Nat) : Nat := 4 * (beAt b h 1 % 16)

/-- The datagram is whole: MF is 0, the fragment offset is 0, and its total length fits the frame (R143). -/
def ipWhole (b : List Byte) (h : Nat) : Bool :=
  decide (beAt b (h + 6) 2 % 16384 = 0 ∧ h + beAt b (h + 2) 2 ≤ b.length ∧ ipHdrLen b h ≤ beAt b (h + 2) 2)

/-- The sum over the pseudo-header and the datagram's payload. -/
def l4Sum (b : List Byte) (h : Nat) : Nat :=
  let total := beAt b (h + 2) 2
  let hl := ipHdrLen b h
  onesSum (sliceD 0 b (h + 12) 8) + beAt b (h + 9) 1 + (total - hl) + onesSum (sliceD 0 b (h + hl) (total - hl))

/-- What the checksum stage reports for the IPv4 header and for UDP or TCP (R143, R144). -/
def csumCheck (b : List Byte) : CsumRes × CsumRes :=
  match ipv4At b with
  | none => (.none, .none)
  | some h =>
    let ip := if fold16 (onesSum (sliceD 0 b h (ipHdrLen b h))) = 0xFFFF then CsumRes.good else .bad
    let proto := beAt b (h + 9) 1
    let l4 := h + ipHdrLen b h
    let r := if ¬ ipWhole b h ∨ ¬ (proto = 17 ∨ proto = 6) then CsumRes.none
      else if proto = 17 ∧ beAt b (l4 + 6) 2 = 0 then .absent
      else if fold16 (l4Sum b h) = 0xFFFF then .good else .bad
    (ip, r)

/-- Write a 16-bit network-order field. -/
def putBe2 (b : List Byte) (i v : Nat) : List Byte := overlay b i (beBytes 2 v)

/-- Insert transmit checksums (R145); none where the frame is sent unchanged and counted as skipped. -/
def csumInsert (b : List Byte) : Option (List Byte) :=
  match ipv4At b with
  | none => none
  | some h =>
    if b.length < h + beAt b (h + 2) 2 then none
    else
      let z := putBe2 b (h + 10) 0
      let b := putBe2 z (h + 10) (0xFFFF - fold16 (onesSum (sliceD 0 z h (ipHdrLen z h))))
      let proto := beAt b (h + 9) 1
      let at_ := h + ipHdrLen b h + (if proto = 17 then 6 else 16)
      if ipWhole b h ∧ (proto = 17 ∨ proto = 6) then
        let z := putBe2 b at_ 0
        let c := 0xFFFF - fold16 (l4Sum z h)
        some (putBe2 z at_ (if proto = 17 ∧ c = 0 then 0xFFFF else c))
      else some b

/-! ## PRP trailer and HSR tag -/

/-- The length of the LSDU: what follows the EtherType of the outer header, trailer or tag included (IEC 62439-3). -/
def lsduLen (b : List Byte) : Nat := b.length - (if hasTag b then 18 else 14)

/-- The PRP trailer of a frame: sequence number and LanId (R252). -/
def prpTrailer (b : List Byte) : Option (Nat × Nat) :=
  let n := b.length
  if 20 ≤ n ∧ beAt b (n - 2) 2 = 0x88FB ∧ beAt b (n - 4) 2 % 4096 = lsduLen b % 4096 then
    some (beAt b (n - 6) 2, beAt b (n - 4) 2 / 4096)
  else none

/-- Append the redundancy control trailer (R251). -/
def addTrailer (b : List Byte) (seq lan : Nat) : List Byte :=
  let b := padTo 54 b
  b ++ beBytes 2 seq ++ beBytes 2 (lan * 4096 + (lsduLen b + 6) % 4096) ++ beBytes 2 0x88FB

/-- Where the HSR tag goes: after the source address, or after the outer VLAN tag (R264). -/
def hsrPlace (b : List Byte) : Nat := if hasTag b then 16 else 12

/-- Insert the HSR tag (R264). -/
def addHsr (b : List Byte) (pathId seq : Nat) : List Byte :=
  insertAt b (hsrPlace b) (beBytes 2 0x892F ++ beBytes 2 (pathId * 4096 + (lsduLen b + 6) % 4096) ++ beBytes 2 seq)

/-- Remove the HSR tag at a place. -/
def removeHsr (b : List Byte) (o : Nat) : List Byte := removeAt b o 6

/-! ## PTP -/

/-- The place of the PTP header in an untagged or tagged frame, an HSR tag included (R83, R272). -/
def ptpAt (b : List Byte) : Option Nat :=
  if etherType b = 0x88F7 ∧ etherOff b + 36 ≤ b.length then some (etherOff b + 2) else none

/-- messageType of a PTP message. -/
def ptpType (b : List Byte) (h : Nat) : Nat := beAt b h 1 % 16

/-- Sync, Delay_Req, Pdelay_Req and Pdelay_Resp are event messages (R84). -/
def ptpIsEvent (ty : Nat) : Bool := decide (ty < 4)

/-- Pdelay_Req, Pdelay_Resp and Pdelay_Resp_Follow_Up are the peer-delay messages (R272; IEEE 1588). -/
def ptpIsPeer (ty : Nat) : Bool := decide (ty = 2 ∨ ty = 3 ∨ ty = 10)

/-- domainNumber of a PTP message. -/
def ptpDomain (b : List Byte) (h : Nat) : Nat := beAt b (h + 4) 1

/-- twoStepFlag of a PTP message. -/
def ptpTwoStep (b : List Byte) (h : Nat) : Bool := bit (beAt b (h + 6) 1) 1

/-- sequenceId of a PTP message. -/
def ptpSeq (b : List Byte) (h : Nat) : Nat := beAt b (h + 30) 2

/-- sourcePortIdentity of a PTP message. -/
def ptpSource (b : List Byte) (h : Nat) : Nat := beAt b (h + 20) 10

/-- Add to correctionField, in 2^-16 ns. -/
def ptpCorrect (b : List Byte) (h : Nat) (d : Int) : List Byte :=
  overlay b (h + 8) (beBytes 8 (ofSigned 64 (toSigned 64 (beAt b (h + 8) 8) + d)))

/-- The place of networkTimeInaccuracy in the IEEE_C37_238 TLV of an Announce message, found among the TLVs from a place on:
type 0x0003, organizationId 1C-12-9D, the field after the subtype and grandmasterID (R88). -/
def c37Field : Nat → List Byte → Nat → Option Nat
  | 0, _, _ => none
  | n + 1, b, o =>
    if b.length < o + 4 then none
    else if beAt b o 2 = 0x0003 ∧ beAt b (o + 4) 3 = 0x1C129D then some (o + 16)
    else c37Field n b (o + 4 + beAt b (o + 2) 2)

end Sys2Proof.Machine
end

