-- ==== Sys2Proof/Machine/Auth.lean ====
section
/-!
DEFINITION. Machine/Auth.lean: who may use a key slot (R701, R702, R709) and IEC 62351-6 authentication of frames (R703 to R706).
-/

namespace Sys2Proof.Machine

/-- A key slot. -/
def State.keySlot (s : State) (n : Nat) : KeySlot := smapGet (fun _ => {}) s.sec.slots n

/-- Change the security block. -/
def State.onSec (s : State) (f : SecState → SecState) : State := { s with sec := f s.sec }

/-- Store a key slot. -/
def State.setKeySlot (s : State) (n : Nat) (k : KeySlot) : State :=
  s.onSec fun c => { c with slots := smapSet (fun _ => {}) c.slots n k }

/-- The key store is reachable (R709). -/
def State.keysReachable (s : State) : Bool :=
  decide ((s.getF SEC.LC_STATE = 1 ∧ s.flag SEC.LC_OWNER_SET) ∨ (s.getF SEC.LC_STATE = 2 ∧ s.flag SEC.LC_FIELDKEYS))

/-- Users of the key store (R701). -/
inductive KeyUser where
  | tx (owner : Nat)
  | rx
  | supHmac
  | supSign
  deriving DecidableEq, Repr

/-- The USAGE and ownership checks of R702. -/
def keyMaskOk (k : KeySlot) : KeyUser → Bool
  | .tx owner => bit k.usage 0 && k.owned && decide (k.owner = owner)
  | .rx => bit k.usage 1 && !k.owned
  | .supHmac | .supSign => bit k.usage 2 && !k.owned

/-- The algorithm a user takes (R701). -/
def keyAlgOk (k : KeySlot) : KeyUser → Bool
  | .tx _ | .rx => decide (k.alg ≤ 2)
  | .supHmac => decide (k.alg = 0)
  | .supSign => decide (k.alg = 3)

/-- An operation may use a slot (R701). -/
def State.keyUsable (s : State) (n : Nat) (u : KeyUser) : Bool :=
  let k := s.keySlot n
  s.keysReachable && k.valid && !k.expired && keyMaskOk k u && keyAlgOk k u

/-- A failure under R701 that raises no fault is counted (R702). -/
def State.countUnavail (s : State) : State := (s.bump SEC.KEYUNAVAIL).raise SEC.STATUS_KEY_UNAVAIL

/-- The key's bytes. -/
def KeySlot.bytes (k : KeySlot) (n : Nat) : List Byte := leBytes n k.key

/-- The bytes an authentication value covers: no 802.1Q tag is among them (R705). -/
def untag : Nat → List Byte → List Byte
  | 0, b => b
  | n + 1, b => if beAt b 12 2 = 0x8100 then untag n (removeAt b 12 4) else b

/-- The MAC of some bytes under a slot's key (R704). -/
def KeySlot.mac (k : KeySlot) (iv bytes : List Byte) : List Byte :=
  match k.alg with
  | 0 => hmac256 (k.bytes 32) bytes
  | 1 => gmac (k.bytes 16) iv bytes
  | _ => gmac (k.bytes 32) iv bytes

/-- The extension of a received frame: where it starts, its length, and its key ID. The extension is the last part of what
Length counts; its length stands in the low byte of reserved1. -/
structure AuthExt where
  at_ : Nat
  len : Nat
  keyId : Nat
  deriving DecidableEq, Repr

/-- Find the extension behind the header whose APPID stands at `h`. -/
def authExt (b : List Byte) (h : Nat) : Option AuthExt :=
  let total := beAt b (h + 2) 2
  let len := beAt b (h + 4) 2 % 256
  if len < 8 ∨ total < 8 + len ∨ b.length < h + total then none
  else some ⟨h + total - len, len, beAt b (h + total - len + 4) 4⟩

/-- The slot a verification uses (R703). -/
def State.verifySlot (s : State) (slot keyId : Nat) : Option Nat :=
  let k := s.keySlot slot
  if k.keyId = keyId then some slot
  else if k.nextEn ∧ (s.keySlot k.next).keyId = keyId then some k.next else none

/-- Verify a frame's authentication with the slot a stream or subscription names (R316, R597, R702, R703). -/
def State.authVerify (s : State) (slot : Nat) (b : List Byte) (h : Nat) : State × Bool :=
  match authExt b h with
  | none => (s, false)
  | some e =>
    match s.verifySlot slot e.keyId with
    | none => (s, false)
    | some n =>
      if ¬ s.keyUsable n .rx then (s.countUnavail, false)
      else
        let k := s.keySlot n
        let ivLen := if k.alg = 0 then 0 else 12
        let macLen := if k.alg = 0 then 32 else 16
        if e.len ≠ 8 + ivLen + macLen then (s, false)
        else
          let iv := sliceD 0 b (e.at_ + 8) ivLen
          let m := e.at_ + 8 + ivLen
          (s, decide (k.mac iv (untag b.length (b.take m)) = sliceD 0 b m macLen))

/-- The extension that PUB appends: key ID, IV for GMAC, MAC over everything before it (R705, R706). The four header bytes of
the extension are not in the manual. -/
def KeySlot.extension (k : KeySlot) (iv before : List Byte) : List Byte :=
  let head := (List.range 4).map Config.authHeader ++ beBytes 4 k.keyId ++ (if k.alg = 0 then [] else iv)
  head ++ k.mac iv (untag before.length (before ++ head))

/-- How many bytes the extension adds (R705). -/
def KeySlot.extLen (k : KeySlot) : Nat := if k.alg = 0 then 40 else 36

end Sys2Proof.Machine
end

