-- ==== Sys2Proof/Machine/Float.lean ====
section
/-!
DEFINITION. Machine/Float.lean: binary32 and binary64 arithmetic as R517 and R518 have it: exact values as rationals, one
rounding per operation, to nearest, ties to even; and the angle functions of R522 and R533, computed to 256 fraction bits.
-/

namespace Sys2Proof.Machine

/-- A floating-point value; a zero keeps its sign. -/
inductive Fp where
  | nan
  | inf (neg : Bool)
  | num (neg : Bool) (v : Rat)
  deriving DecidableEq, Repr

/-- 2^e as a rational. -/
def pow2 (e : Int) : Rat := if 0 ≤ e then ((2 ^ e.toNat : Nat) : Rat) else 1 / ((2 ^ (-e).toNat : Nat) : Rat)

/-- The exponent of a positive rational: 2^e is at most it, 2^(e+1) is above it. -/
def ilog2 (r : Rat) : Int :=
  let k : Int := (Nat.log2 r.num.natAbs : Int) - Nat.log2 r.den
  if pow2 k ≤ r then k else k - 1

/-- Round to nearest integer, ties to even (R363). -/
def rheRat (q : Rat) : Int :=
  let f := q.floor
  let r := q - (f : Rat)
  if r < 1 / 2 then f else if 1 / 2 < r then f + 1 else if f % 2 = 0 then f else f + 1

/-- rhe(v, s) of R363. -/
def rhe (v : Int) (s : Nat) : Int := rheRat ((v : Rat) / ((2 ^ s : Nat) : Rat))

/-- Round a rational to `p` significant bits, the exponent unbounded. -/
def roundBits (p : Nat) (r : Rat) : Rat :=
  if r = 0 then 0
  else
    let u := pow2 (ilog2 (if r < 0 then -r else r) - ((p : Int) - 1))
    (rheRat (r / u) : Rat) * u

/-- Absolute value is not part of core's order on rationals everywhere: the larger of a value and its negation. -/
def absRat (r : Rat) : Rat := if r < 0 then -r else r

/-- A rounding: what a precise value becomes, the sign given for a result of zero. -/
abbrev Rounding := Bool → Rat → Fp

/-- Rounding to binary32: subnormal results become zero of the same sign (R517). -/
def rnd32 : Rounding := fun z r =>
  if r = 0 then .num z 0
  else
    let x := roundBits 24 r
    let neg := decide (r < 0)
    if absRat x < pow2 (-126) then .num neg 0
    else if pow2 128 ≤ absRat x then .inf neg
    else .num neg x

/-- Rounding to binary64. -/
def rnd64 : Rounding := fun z r =>
  if r = 0 then .num z 0
  else
    let x := roundBits 53 r
    let neg := decide (r < 0)
    if pow2 1024 ≤ absRat x then .inf neg else .num neg x

/-- The sign of a value. -/
def Fp.neg? : Fp → Bool
  | .nan => false
  | .inf n => n
  | .num n _ => n

/-- The value with its sign inverted. -/
def Fp.negate : Fp → Fp
  | .nan => .nan
  | .inf n => .inf !n
  | .num n v => .num (!n) (-v)

/-- The rational of a finite value; 0 for the others. -/
def Fp.rat : Fp → Rat
  | .num _ v => v
  | _ => 0

/-- A value that is neither a NaN nor infinite. -/
def Fp.finite : Fp → Bool
  | .num _ _ => true
  | _ => false

/-- Read a binary32 pattern; a subnormal is zero of the same sign (R517). -/
def fp32 (w : Nat) : Fp :=
  let neg := bit w 31
  let e := bits w 30 23
  let m := bits w 22 0
  if e = 255 then (if m = 0 then .inf neg else .nan)
  else if e = 0 then .num neg 0
  else
    let v := (((2 ^ 23 + m : Nat) : Rat)) * pow2 ((e : Int) - 150)
    .num neg (if neg then -v else v)

/-- The pattern of a value that fits binary32; every NaN is 0x7FC00000 (R517). -/
def to32 : Fp → Nat
  | .nan => 0x7FC00000
  | .inf n => b2n n * 2 ^ 31 + 0x7F800000
  | .num n v =>
    if v = 0 then b2n n * 2 ^ 31
    else
      let a := absRat v
      let e := ilog2 a
      let m := (a / pow2 (e - 23)).num.natAbs - 2 ^ 23
      b2n n * 2 ^ 31 + (e + 127).toNat * 2 ^ 23 + m

/-- An integer as a value. -/
def Fp.ofInt (i : Int) : Fp := .num (decide (i < 0)) i

/-- Round a value that is finite once more, leaving the others. -/
def Fp.round (rnd : Rounding) : Fp → Fp
  | .num n v => rnd n v
  | x => x

/-- The exact sum, with the sign a zero takes. -/
def Fp.addExact (rnd : Rounding) : Fp → Fp → Fp
  | .nan, _ => .nan
  | _, .nan => .nan
  | .inf a, .inf b => if a = b then .inf a else .nan
  | .inf a, _ => .inf a
  | _, .inf b => .inf b
  | .num a x, .num b y => rnd (a && b) (x + y)

/-- A product. -/
def Fp.mul (rnd : Rounding) : Fp → Fp → Fp
  | .nan, _ => .nan
  | _, .nan => .nan
  | .inf a, .inf b => .inf (a != b)
  | .inf a, .num b y => if y = 0 then .nan else .inf (a != b)
  | .num a x, .inf b => if x = 0 then .nan else .inf (a != b)
  | .num a x, .num b y => rnd (a != b) (x * y)

/-- No rounding: the exact value. -/
def exactly : Rounding := fun z r => .num (if r = 0 then z else decide (r < 0)) r

/-- A sum, rounded once. -/
def Fp.add (rnd : Rounding) (a b : Fp) : Fp := a.addExact rnd b

/-- A difference, rounded once. -/
def Fp.sub (rnd : Rounding) (a b : Fp) : Fp := a.add rnd b.negate

/-- d + a × b, rounded once. -/
def Fp.fma (rnd : Rounding) (d a b : Fp) : Fp := d.add rnd (a.mul exactly b)

/-- A quotient, rounded once. -/
def Fp.div (rnd : Rounding) : Fp → Fp → Fp
  | .nan, _ => .nan
  | _, .nan => .nan
  | .inf _, .inf _ => .nan
  | .inf a, .num b _ => .inf (a != b)
  | .num a _, .inf b => rnd (a != b) 0
  | .num a x, .num b y =>
    if y = 0 then (if x = 0 then .nan else .inf (a != b)) else rnd (a != b) (x / y)

/-- The integer square root, by bits from the highest of `n`. -/
def isqrtLoop : Nat → Nat → Nat → Nat
  | 0, _, r => r
  | n + 1, v, r => let t := r + 2 ^ n; isqrtLoop n v (if t * t ≤ v then t else r)

/-- The integer square root. -/
def isqrt (v : Nat) : Nat := isqrtLoop (Nat.log2 v / 2 + 1) v 0

/-- A rational so close to the square root of a non-negative dyadic that rounding to at most 60 bits gives the same. -/
def sqrtClose (v : Rat) : Rat :=
  if v = 0 then 0
  else
    let e := ilog2 v
    let s : Int := 160 - e + (e % 2)
    let s := s + s % 2
    let n := (v * pow2 s).floor.toNat
    let r := isqrt n
    let sticky := if r * r = n then 0 else 1
    ((2 * r + sticky : Nat) : Rat) * pow2 (-(s / 2) - 1)

/-- A square root, rounded once (R521). -/
def Fp.sqrt (rnd : Rounding) : Fp → Fp
  | .nan => .nan
  | .inf n => if n then .nan else .inf false
  | .num n v => if v = 0 then .num n 0 else if v < 0 then .nan else rnd false (sqrtClose v)

/-- One value ranks below another, −0 below +0 (R521). -/
def Fp.ranksBelow : Fp → Fp → Bool
  | .inf true, b => decide (b ≠ .inf true)
  | a, .inf false => decide (a ≠ .inf false)
  | .num m x, .num n y => decide (x < y) || (decide (x = y) && m && !n)
  | _, _ => false

/-- The smaller of two values; a NaN gives way to the other (R521). -/
def Fp.min (a b : Fp) : Fp := if a = .nan then b else if b = .nan then a else if b.ranksBelow a then b else a

/-- The larger of two values; a NaN gives way to the other (R521). -/
def Fp.max (a b : Fp) : Fp := if a = .nan then b else if b = .nan then a else if a.ranksBelow b then b else a

/-- Equality as numbers; false with a NaN (R523). -/
def Fp.eq (a b : Fp) : Bool :=
  match a, b with
  | .nan, _ => false
  | _, .nan => false
  | .num _ x, .num _ y => decide (x = y)
  | x, y => decide (x = y)

/-- Less than, as numbers; false with a NaN (R523). -/
def Fp.lt (a b : Fp) : Bool := decide (a ≠ .nan ∧ b ≠ .nan) && a.ranksBelow b && !a.eq b

/-! ## Angles -/

/-- The scale of the fixed-point angle arithmetic. -/
def angleOne : Int := 2 ^ 256

/-- The series of the arc tangent of a fixed-point number with its square and sign alternating. -/
def atanSeries : Nat → Int → Int → Int → Int
  | 0, _, _, _ => 0
  | n + 1, k, t, x2 => t / k + atanSeries n (k + 2) (-(t * x2 / angleOne)) x2

/-- The arc tangent of a fixed-point number below 0.3. -/
def atanSmall (x : Int) : Int := atanSeries 120 1 x (x * x / angleOne)

/-- Pi in fixed point, by Machin's formula. -/
def piFix : Int := 16 * atanSmall (angleOne / 5) - 4 * atanSmall (angleOne / 239)

/-- Halve the angle of a tangent: x / (1 + sqrt(1 + x^2)). -/
def halfTan (x : Int) : Int :=
  x * angleOne / (angleOne + (isqrt ((angleOne * angleOne + x * x).toNat) : Int))

/-- The arc tangent of a fixed-point number from 0 to 1. -/
def atanFix (x : Int) : Int := 4 * atanSmall (halfTan (halfTan x))

/-- The angle of a point in the first quadrant, in fixed-point turns of 65,536 au (R533). -/
def quadrantAu (x y : Rat) : Rat :=
  let toAu (a : Int) : Rat := (a : Rat) * 32768 / (piFix : Rat)
  if y = 0 then 0
  else if x = 0 then 16384
  else if y = x then 8192
  else if y < x then toAu (atanFix ((y / x * (angleOne : Rat)).floor))
  else 16384 - toAu (atanFix ((x / y * (angleOne : Rat)).floor))

/-- The angle of re + j im in au, rounded under R363, in −32,768 to 32,767 (R533). -/
def angleAu (re im : Rat) : Int :=
  let q := quadrantAu (absRat re) (absRat im)
  let a := if re < 0 then 32768 - q else q
  let a := rheRat (if im < 0 then -a else a)
  if 32767 < a then a - 65536 else a

/-- The Taylor series of the sine and cosine together: term, index, remaining terms; cosine first. -/
def sinCosSeries : Nat → Int → Int → Int → Int × Int
  | 0, _, _, _ => (0, 0)
  | n + 1, k, t, x =>
    let r := sinCosSeries n (k + 1) (t * x / angleOne / (k + 1)) x
    match k % 4 with
    | 0 => (r.1 + t, r.2)
    | 1 => (r.1, r.2 + t)
    | 2 => (r.1 - t, r.2)
    | _ => (r.1, r.2 - t)

/-- Cosine and sine of a signed angle in au, each rounded to binary64 (R522). -/
def cosSinAu (n : Int) : Fp × Fp :=
  let x := piFix * n / 32768
  let r := sinCosSeries 160 0 angleOne x
  let val (exactZero : Bool) (v : Int) : Fp := if exactZero then .num false 0 else rnd64 false ((v : Rat) / (angleOne : Rat))
  (val (decide (n % 32768 = 16384)) r.1, val (decide (n % 32768 = 0)) r.2)

/-- The imaginary part of e^(j120°) rounded to binary64 (R534); the real part is −1/2. -/
def sin120 : Rat := 7800463371553962 / (2 ^ 53 : Nat)

end Sys2Proof.Machine
end

