-- ==== Sys2Proof/Machine/Tab.lean ====
section
/-!
DEFINITION. Machine/Tab.lean: the time base of chapter 02: TOD, the servo and its sync states, PPS_IN, SYNC10M_IN, PPS_OUT, the
angle counter, ticks, and the comparators up to what they deliver.
-/

namespace Sys2Proof.Machine

/-! ## Time of day -/

/-- One ns in the unit of TOD. -/
def nsUnit : Nat := 2 ^ 48

/-- Where TOD's 48-bit seconds wrap (R64). -/
def todModulus : Nat := 2 ^ 48 * 1000000000 * nsUnit

/-- TOD's whole ns from the epoch. -/
def TabState.ns (t : TabState) : Nat := t.tod / nsUnit

/-- TOD's seconds (R64). -/
def TabState.sec (t : TabState) : Nat := t.ns / 1000000000

/-- TOD's nanoseconds within the second (R64). -/
def TabState.nsPart (t : TabState) : Nat := t.ns % 1000000000

/-- TOD's fraction in 2^-16 ns, the part it shows (R65). -/
def TabState.frac (t : TabState) : Nat := (t.tod % nsUnit) / 2 ^ 32

/-- Time on the scale that no load or step moves (R89). -/
def TabState.mono (t : TabState) : Int := (t.tod : Int) - t.todShift

/-- A stamp as registers of the form [63:32] seconds [31:0], [31:0] ns hold it (R125). -/
def stampWord (ns : Nat) : Nat := (ns / 1000000000 % 2 ^ 32) * 2 ^ 32 + ns % 1000000000

/-- Set TOD: a load or a step (R70). The angle counter does not move. -/
def TabState.setTod (t : TabState) (v : Int) : TabState :=
  let n := (v % (todModulus : Int)).toNat
  { t with tod := n, todShift := t.todShift + ((n : Int) - t.tod), stepLog := ((t.mono, t.todShift) :: t.stepLog).take 64, stepCnt := t.stepCnt + 1 }

/-- The shift of TOD at an instant of the scale no step moves, as far as the steps remembered tell (R376). -/
def TabState.shiftAt (t : TabState) (m : Int) : Int :=
  (((t.stepLog.filter fun x => decide (m ≤ x.1)).getLast?).map (·.2)).getD t.todShift

/-- How many loads and steps of TOD came before an instant of that scale (R376). -/
def TabState.stepsAt (t : TabState) (m : Int) : Nat := t.stepCnt - (t.stepLog.filter fun x => decide (m ≤ x.1)).length

/-- SRV_RATE in 2^-16 ppb, signed (R125). -/
def State.srvRate (s : State) : Int := toSigned 32 (s.rd TAB.SRV_RATE)

/-- What TOD advances by in one CK_PTP cycle: 4 ns × (1 + r × 10^-9), truncated to 48 fractional bits of a ns (R65). -/
def todStep (rate : Int) : Nat :=
  ((4 * nsUnit * (65536 * 1000000000 + rate)) / (65536 * 1000000000 : Int)).toNat

/-- Nothing moves in CK_PTP while the module is held in reset or sleeps in Calm; otherwise `n` CK_PTP cycles pass (R65, R99). -/
def TabState.advance (t : TabState) (rate : Int) (fw n : Nat) : TabState :=
  let v := t.tod + n * todStep rate
  { t with
    tod := v % todModulus
    todShift := t.todShift - ((v - v % todModulus : Nat) : Int)
    angle := (t.angle + n * fw) % 2 ^ 80 }

/-- How the counter and TOD move from now on is remembered for the reference samples and the grid points (R89, R352). -/
def State.noteSeg (s : State) : State :=
  s.onTab fun t => { t with segs := (⟨t.mono, t.angle, s.rd TAB.WS_FW, todStep s.srvRate⟩ :: t.segs).take 1024 }

/-- A new SRV_RATE or frequency word is remembered before time passes under it. -/
def State.noteRate (s : State) : State :=
  match s.tab.segs with
  | g :: _ => if g.fw = s.rd TAB.WS_FW ∧ g.inc = todStep s.srvRate then s else s.noteSeg
  | [] => s.noteSeg

/-- Store HO_ELAPSED in ms. -/
def State.setElapsed (s : State) (ms : Nat) : State := s.wr TAB.HO_ELAPSED (ms % 2 ^ 32)

/-- HO_ELAPSED restarts from zero (R78). -/
def State.hoRestart (s : State) : State := (s.setElapsed 0).onTab fun t => { t with hoSub := 0 }

/-- HO_ELAPSED has passed HO_LIMIT in a holdover that did not say so yet: HO_EXPIRED sets (R76, R79). -/
def State.hoCheck (s : State) : State :=
  if s.tab.sync = .holdover ∧ s.tab.hoCounting ∧ ¬ s.tab.hoRaised ∧ s.rd TAB.HO_LIMIT * 1000 < s.rd TAB.HO_ELAPSED then
    (s.raise TAB.STATUS_HO_EXPIRED).onTab fun t => { t with hoRaised := true }
  else s

/-- CK_PTP cycles in one ms of HO_ELAPSED (R78). -/
def msCycles : Nat := 250000

/-- HO_ELAPSED counts the ms of `n` CK_PTP cycles from where it started (R78). -/
def State.hoTime (s : State) (n : Nat) : State :=
  if ¬ s.tab.hoCounting then s
  else
    let k := s.tab.hoSub + n
    let s := s.onTab fun t => { t with hoSub := k % msCycles }
    if k < msCycles then s else (s.setElapsed (min (s.rd TAB.HO_ELAPSED + k / msCycles) (2 ^ 32 - 1))).hoCheck

/-- `n` CK_PTP cycles pass. -/
def State.advance (s : State) (n : Nat) : State :=
  (s.noteRate.onTab fun t => t.advance s.srvRate (s.rd TAB.WS_FW) n).hoTime n

/-! ## Sync state machine and servo -/

/-- Round a value whose rounding the manual leaves open to one of its two neighbours. -/
def roundOpen (q : Rat) : Int :=
  if (q.floor : Rat) = q then q.floor else q.floor + (if Config.roundUp q then 1 else 0)

/-- Round to nearest, ties to even. -/
def roundHalfEven (q : Rat) : Int :=
  let f := q.floor
  let r := q - (f : Rat)
  if r < 1 / 2 then f else if 1 / 2 < r then f + 1 else if f % 2 = 0 then f else f + 1

/-- Store SRV_RATE (2^-16 ppb) within ±25,000 ppb (R74, R77). -/
def State.setRate (s : State) (r : Int) : State :=
  s.wr TAB.SRV_RATE (ofSigned 32 (clampTo (-25000 * 65536) (25000 * 65536) r))

/-- The mean of the held samples of SRV_RATE, rounded to the nearest 2^-16 ppb, ties to even (R77). -/
def meanRate (xs : List Int) : Int := roundHalfEven ((xs.sum : Rat) / (xs.length : Rat))

/-- Entry into HOLDOVER (R76, R77, R78). -/
def State.enterHoldover (s : State) : State :=
  let s := ((s.raise TAB.STATUS_HO_ENTER).hoRestart).onTab fun t =>
    { t with sync := .holdover, hoCounting := true, hoRaised := false }
  if s.flag TAB.CTL_SERVO_EN ∧ s.tab.heldRates ≠ [] then s.setRate (meanRate s.tab.heldRates) else s

/-- The sync state leaves HOLDOVER: HO_ELAPSED stops (R78). -/
def TabState.goSync (t : TabState) (st : SyncState) : TabState :=
  { t with sync := st, hoCounting := t.hoCounting && decide (st = .holdover), lockCnt := 0 }

/-- integ := -SRV_RATE, in ppb (R74). -/
def State.loadInteg (s : State) : State := s.onTab fun t => { t with integ := -((s.srvRate : Rat) / 65536) }

/-- The instants a gate control list remembers, on a timescale that moved by `d` ns. -/
def GclRun.carry (d : Int) (g : GclRun) : GclRun :=
  { g with since := ((g.since : Int) + d).toNat, fires := g.fires.map fun (n : Nat) => ((n : Int) + d).toNat }

/-- A load or step that moved TOD by `d` ns holds PTP-anchored gate lists until their next cycle start; angle-anchored lists go on
(R173). -/
def State.holdGcl (s : State) (d : Int) : State :=
  (List.range 10).foldl (fun s p =>
    let hold := s.flag (PCX.GCL_CTL_EN p) && !s.flag (PCX.GCL_CFG_ANCHOR p (s.port p).gcl.act)
    s.onPort p fun q => { q with gcl := { q.gcl.carry d with hold := q.gcl.hold || hold } }) s

/-- TOD moves by `d` in its own unit and TS_STEP sets (R69, R70, R74). -/
def State.stepTod (s : State) (d : Int) : State :=
  let t := (s.onTab fun t => t.setTod (t.tod + d)).raise TAB.STATUS_TS_STEP
  t.holdGcl ((t.tab.ns : Int) - s.tab.ns)

/-- The servo takes one sample of `o` in 2^-16 ns (R74); a sample beyond STEPTHR steps TOD. -/
def State.servoSample (s : State) (o : Int) : State :=
  if ¬ s.flag TAB.CTL_SERVO_EN then s
  else if (s.rd TAB.SRV_STEPTHR : Int) * 65536 < o.natAbs then s.stepTod (-(o * 2 ^ 32))
  else
    let ons : Rat := (o : Rat) / 65536
    let integ := s.tab.integ + ons / 2 ^ s.getF TAB.SRV_GAIN_KI_SH
    let rate := -(ons / 2 ^ s.getF TAB.SRV_GAIN_KP_SH + integ)
    (s.onTab fun t => { t with integ := integ }).setRate (roundOpen (rate * 65536))

/-- The sync states on a sample (R76): the state after it, given how far off it is. DEDUCED (log 24): with LOCKCNT = 0 the first
sample within LOCKTHR locks, as with 1. -/
def State.syncSample (s : State) (o : Int) : State :=
  let a := o.natAbs
  if s.rd TAB.SRV_STEPTHR * 65536 < a then s.onTab fun t => t.goSync .acquire
  else match s.tab.sync with
    | .acquire =>
      if s.getF TAB.SRV_LOCK_LOCKTHR * 65536 < a then s.onTab fun t => { t with lockCnt := 0 }
      else if s.tab.lockCnt + 1 < s.getF TAB.SRV_LOCK_LOCKCNT then
        s.onTab fun t => { t with lockCnt := t.lockCnt + 1 }
      else (s.onTab fun t => { t.goSync .locked with todValid := true }).raise TAB.STATUS_LOCK
    | _ => s

/-- An offset sample of `o` in 2^-16 ns arrives (R74, R75, R76). The sample that leads into ACQUIRE loads the integrator first
and is not counted. -/
def State.offsetSample (s : State) (o : Int) : State :=
  match s.tab.sync with
  | .free | .holdover => ((s.loadInteg.onTab fun t => t.goSync .acquire).servoSample o)
  | _ => (s.syncSample o).servoSample o

/-- A write to TAB_SRV_OFFSET's high word: a sample while SRC = PTP (R73, R125). -/
def State.srvOffsetWrite (s : State) (v : Nat) : State :=
  let s := s.wr TAB.SRV_OFFSET v
  if s.getF TAB.CTL_SRC = 1 then s.offsetSample (toSigned 64 v) else s

/-- The offset of a PPS_IN timestamp of nanosecond value `n`, in ns (R80). -/
def ppsOffset (n : Nat) : Int := if n < 500000000 then n else (n : Int) - 1000000000

/-- A rising edge on PPS_IN (R80). -/
def State.ppsInEdge (s : State) : State :=
  let s := (s.wr TAB.PPSIN_TS (stampWord s.tab.ns)).onTab fun t => { t with ppsMissRaised := false }
  if s.getF TAB.CTL_SRC = 2 then s.offsetSample (ppsOffset s.tab.nsPart * 65536) else s

/-- HO_TIMEOUT × 125 ms pass without a sample (R76). -/
def State.sampleTimeout (s : State) : State :=
  match s.tab.sync with
  | .locked => s.enterHoldover
  | .acquire => if s.tab.todValid then s.enterHoldover else s.onTab fun t => t.goSync .free
  | _ => s

/-- The event that HO_ELAPSED passes HO_LIMIT (R76, R79): the count stands at the first ms past the limit, where it stood lower. -/
def State.hoExpired (s : State) : State :=
  if s.tab.sync = .holdover ∧ s.tab.hoCounting ∧ ¬ s.tab.hoRaised then
    let lim := s.rd TAB.HO_LIMIT * 1000
    (if s.rd TAB.HO_ELAPSED ≤ lim then s.setElapsed (min (lim + 1) (2 ^ 32 - 1)) else s).hoCheck
  else s

/-- A write of TAB_CTL.SRC (R73, R76, R117): a change to FREE acts on the sync state at once. -/
def State.srcWrite (s : State) (src : Nat) : State :=
  if src = 3 ∨ s.getF TAB.CTL_SRC = src then s
  else
    let s := s.setF TAB.CTL_SRC src
    if src = 0 then s.onTab fun t => t.goSync .free else s

/-- A write of TAB_CTL.SERVO_EN (R74, R77). -/
def State.servoEnWrite (s : State) (en : Bool) : State :=
  let was := s.flag TAB.CTL_SERVO_EN
  let s := s.setF TAB.CTL_SERVO_EN (b2n en)
  if en then (if was then s else s.loadInteg) else s.onTab fun t => { t with heldRates := [] }

/-- The exponential average of R77, weight 1/256, rounded as the manual leaves open. -/
def driftNext (drift change : Int) : Int := roundOpen ((drift : Rat) + ((change : Rat) - drift) / 256)

/-- One second of REFCLK ends (R77). The change of SRV_RATE over the second is from where it stood a second ago. -/
def State.rateSecond (s : State) : State :=
  let r := s.srvRate
  let change := r - s.tab.lastRate
  let s := s.onTab fun t => { t with lastRate := r }
  if ¬ s.flag TAB.CTL_SERVO_EN then s
  else
    let drift := toSigned 32 (s.rd TAB.HO_DRIFT)
    let s := if s.tab.sync = .locked then s.wr TAB.HO_DRIFT (ofSigned 32 (driftNext drift change)) else s
    let s := s.onTab fun t => { t with heldRates := (r :: t.heldRates).take 16 }
    if s.tab.sync = .holdover then s.setRate (r + drift) else s

/-- The end of a second of REFCLK (R71, R77): in Calm the rate stands as it was at Calm entry. -/
def State.secondPasses (s : State) : State :=
  match s.sys.power with
  | .calm => s
  | .held => if s.sys.porHeld then s else s.rateSecond
  | _ => s.rateSecond

/-- 1.5 s without a PPS_IN edge while SRC = PPSIN (R80). -/
def State.ppsinMiss (s : State) : State :=
  if s.getF TAB.CTL_SRC = 2 ∧ ¬ s.tab.ppsMissRaised then
    (s.raise TAB.STATUS_PPSIN_MISS).onTab fun t => { t with ppsMissRaised := true }
  else s

/-- A write of TAB_CTL.REF10M (R81). -/
def State.ref10mWrite (s : State) (on : Bool) : State :=
  let was := s.flag TAB.CTL_REF10M
  let s := s.setF TAB.CTL_REF10M (b2n on)
  if on then (if was then s else s.onTab fun t => { t with ref10m := .watching })
  else s.onTab fun t => { t with ref10m := .idle }

/-- The first edge of SYNC10M_IN after the write (R81). -/
def State.ref10mAcquire (s : State) : State :=
  if s.tab.ref10m = .watching then s.onTab fun t => { t with ref10m := .taken } else s

/-- 1 µs without an edge of SYNC10M_IN (R81). -/
def State.ref10mLoss (s : State) : State :=
  if s.tab.ref10m = .watching ∨ s.tab.ref10m = .taken then
    (s.raise TAB.STATUS_REF10M_LOSS).onTab fun t => { t with ref10m := .lost }
  else s

/-- The period of PPS_OUT's pulses in ns by mode (R82): a second, or a cycle of the angle counter. -/
def ppsPeriod (mode fw : Nat) : Rat := if mode = 1 then 1000000000 else (4 * 2 ^ 48 : Rat) / fw

/-- CK_PTP cycles until TOD has moved by `d` of its unit. -/
def State.todCycles (s : State) (d : Nat) : Nat := (d + todStep s.srvRate - 1) / todStep s.srvRate

/-- CK_PTP cycles until the counter has moved by at least `d` (in its own unit). -/
def cyclesFor (d fw : Nat) : Nat := (d + fw - 1) / fw

/-- One second in the unit of TOD. -/
def secondUnit : Nat := 1000000000 * nsUnit

/-- CK_PTP cycles until PPS_OUT's next edge: TOD's next whole second, or the counter's next cycle boundary (R82). -/
def State.ppsIn (s : State) : Option Nat :=
  match s.getF TAB.CTL_PPSOUT_MODE with
  | 1 => some (s.todCycles (secondUnit - s.tab.tod % secondUnit))
  | 2 => some (cyclesFor (2 ^ 48 - s.tab.angle % 2 ^ 48) (s.rd TAB.WS_FW))
  | _ => none

/-- PPS_OUT rises now (R82); the pulse never lasts longer than half its period. -/
def State.ppsRise (s : State) : State :=
  let mode := s.getF TAB.CTL_PPSOUT_MODE
  if mode = 0 then s
  else
    let len := min ((s.rd TAB.PPSOUT_WIDTH * 1000 : Nat) : Rat) (ppsPeriod mode (s.rd TAB.WS_FW) / 2)
    s.onTab fun t => { t with ppsOut := some ⟨t.mono, len⟩ }

/-- The level of PPS_OUT now (R82). -/
def State.ppsLevel (s : State) : Bool :=
  match s.tab.ppsOut with
  | some p => decide (s.getF TAB.CTL_PPSOUT_MODE ≠ 0 ∧ ((s.tab.mono - p.rise : Int) : Rat) < p.ns * (nsUnit : Rat))
  | none => false

/-! ## Snapshots, loads and the event queue -/

/-- A requester's snapshot registers (R67). -/
def State.snap (s : State) (who : Requester) : Snap := smapGet (fun _ => ⟨0, 0, 0⟩) s.tab.snaps (reqPort who)

/-- The angle counter's whole au (R12, R99). -/
def TabState.au (t : TabState) : Nat := t.angle / 2 ^ 32

/-- TAB_CMD.SNAP (R67). -/
def State.tabSnap (s : State) (who : Requester) : State :=
  s.onTab fun t => { t with snaps := smapSet (fun _ => ⟨0, 0, 0⟩) t.snaps (reqPort who) ⟨t.sec, t.nsPart, t.au⟩ }

/-- TAB_CMD.LOAD (R68). -/
def State.todLoad (s : State) : State :=
  let v := (s.rd TAB.TODSET_SEC * 1000000000 + s.rd TAB.TODSET_NS) * nsUnit
  let t := (s.onTab fun t => { t.setTod v with todValid := true }).raise TAB.STATUS_TS_STEP
  t.holdGcl ((t.tab.ns : Int) - s.tab.ns)

/-- A write of TAB_STEP's high word (R69). -/
def State.todStep (s : State) (v : Nat) : State := (s.wr TAB.STEP v).stepTod (toSigned 64 v * nsUnit)

/-- TAB_CMD.EVQ_FLUSH (R120). -/
def State.evqFlush (s : State) : State := s.onTab fun t => { t with evq := [], evqLost := 0 }

/-- A record enters the PTP event queue, or is the one lost when 256 are held (R85). -/
def State.evqPush (s : State) (r : PtpRecord) : State :=
  if s.tab.evq.length < 256 then s.onTab fun t => { t with evq := t.evq ++ [r] }
  else (s.onTab fun t => { t with evqLost := min (t.evqLost + 1) 65535 }).raise TAB.STATUS_EVQ_OVF

/-- A read of TAB_EVQ_W3 gives the head's ns and removes the head (R85, R123). -/
def State.evqPop (s : State) (who : Requester) : State :=
  match s.tab.evq with
  | [] => s.respond who (.data 0)
  | r :: rs => (s.onTab fun t => { t with evq := rs }).respond who (.data r.ns)

/-! ## Angle, ticks and comparators -/

/-- Width of one tick in units of the angle counter, by log2 of the division (R101). -/
def tickSpan (div : Nat) : Nat := 2 ^ (48 - div)

/-- The index of the tick the counter stands in; its low 32 bits are the tick number (R101). -/
def TabState.tickIndex (t : TabState) : Nat := t.angle / tickSpan t.divEff

/-- TAB_TICKNUM (R101). -/
def TabState.tickNum (t : TabState) : Nat := t.tickIndex % 2 ^ 32

/-- Tick numbers compare modulo 2^32: `t` counts as reached at `now` (R102). -/
def tickReached (now t : Nat) : Bool := decide ((now + (2 ^ 32 - t % 2 ^ 32)) % 2 ^ 32 < 2 ^ 31)

/-- The tick number after a number of ticks. -/
def tickAdd (t n : Nat) : Nat := (t + n) % 2 ^ 32

/-- A tick boundary was crossed whose tick TAB has not raised yet. -/
def TabState.tickDue (t : TabState) : Bool := decide (t.tickIndex ≠ t.raised)

/-- How far the next tick boundary lies ahead of the counter. -/
def TabState.toBoundary (t : TabState) : Nat := tickSpan t.divEff - t.angle % tickSpan t.divEff

/-- CK_PTP cycles until the counter crosses the next tick boundary; 0: one was crossed already (R103). -/
def State.boundaryIn (s : State) : Nat := if s.tab.tickDue then 0 else cyclesFor s.tab.toBoundary (s.rd TAB.WS_FW)

/-- The angle the counter held in the CK_PTP cycle of an instant of the scale no step moves, in 2^-32 au (R89). -/
def AngleSeg.angleAt (g : AngleSeg) (m : Int) : Int := g.angle + (m - g.mono) / (g.inc : Int) * g.fw

/-- The same, from the segment the instant lies in. -/
def angleAt : List AngleSeg → Int → Int
  | [], _ => 0
  | [g], m => g.angleAt m
  | g :: gs, m => if g.mono ≤ m then g.angleAt m else angleAt gs m

/-- A new TICKDIV applies from a cycle boundary (R104); the ticks of the cycle that ends were the old ones. -/
def State.applyTickDiv (s : State) : State :=
  s.onTab fun t =>
    let d := s.getF TAB.CTL_TICKDIV + 2
    if t.raised % 2 ^ t.divEff = 0 ∧ d ≠ t.divEff then
      let k := t.raised / 2 ^ t.divEff * 2 ^ d
      { t with
        divEff := d
        raised := k
        ticks := match t.ticks with
          | r :: rs => { r with idx := k } :: rs
          | [] => []
        reacqRun := 0 }
    else t

/-- The index of the next tick boundary (R101). -/
def TabState.nextTick (t : TabState) : Nat := (t.raised + 1) % 2 ^ (32 + t.divEff)

/-- TAB raises the next tick and records the cycle's TOD (R103). -/
def State.raiseTick (s : State) : State :=
  let k := s.tab.nextTick
  let s := s.onTab fun t => { t with
    raised := k
    ticks := (⟨k, t.ns, t.mono, k * tickSpan t.divEff % 2 ^ 80⟩ :: t.ticks).take 64 }
  (s.wr TAB.TICKTOD (stampWord s.tab.ns)).applyTickDiv

/-- The number of the tick raised last. -/
def State.tickNow (s : State) : Nat := s.tab.raised % 2 ^ 32

/-- f_nom × TOD in cycles, as the counter's value: exact, truncated to 32 fraction bits below 1 au (R99). -/
def nomAngle (nomf : Bool) (tod : Nat) : Nat :=
  ((if nomf then 60 else 50) * tod * 2 ^ 48 / (1000000000 * nsUnit)) % 2 ^ 80

/-- The counter is loaded with f_nom × TOD at a release and at Calm exit (R99); no tick is raised for the load. -/
def State.loadAngle (s : State) : State :=
  (s.onTab fun t =>
    let t := { t with angle := nomAngle (s.flag TAB.CTL_NOMF) t.tod, nomfEff := s.flag TAB.CTL_NOMF }
    { t with raised := t.tickIndex, ticks := [] }).noteSeg

/-- One comparator's mark (R105, R108). -/
def State.cmpMark (s : State) (c : Nat) : Nat := smapGet (fun _ => 0) s.tab.cmpMark c

/-- Set one comparator's mark. -/
def State.setCmpMark (s : State) (c v : Nat) : State :=
  s.onTab fun t => { t with cmpMark := smapSet (fun _ => 0) t.cmpMark c v }

/-- Where a comparator's next target lies ahead of the counter, in the counter's unit; 0: reached (R100, R105). None: it has
no target ahead before the next tick boundary, whose own cycle raises the tick first. -/
def State.cmpAhead (s : State) (c : Nat) : Option Nat :=
  let t := s.tab
  let target := s.rd (TAB.TARGET c)
  let cycleLen := 2 ^ 48
  let ahead (base len : Nat) : Option Nat :=
    let off := t.angle % len
    if base * 2 ^ 32 ≤ off then some 0
    else if base * 2 ^ 32 - off < t.toBoundary then some (base * 2 ^ 32 - off) else none
  match s.getF (TAB.CCFG_MODE c) with
  | 1 =>
    if ¬ s.flag (TAB.CCFG_ARMED c) then none
    else
      let a := (target + 2 ^ 48 - t.au) % 2 ^ 48
      if a = 0 ∨ 2 ^ 47 < a then some 0
      else if a * 2 ^ 32 - t.angle % 2 ^ 32 < t.toBoundary then some (a * 2 ^ 32 - t.angle % 2 ^ 32) else none
  | 2 => if s.cmpMark c = t.angle / cycleLen + 1 then none else ahead (target % 65536) cycleLen
  | 3 =>
    if s.cmpMark c = t.tickIndex + 1 then none
    else ahead (target % 65536 % (tickSpan t.divEff / 2 ^ 32)) (tickSpan t.divEff)
  | _ => none

/-- A comparator is spent for the present cycle or tick, or its one-shot disarms (R105). -/
def State.cmpSpend (s : State) (c : Nat) : State :=
  match s.getF (TAB.CCFG_MODE c) with
  | 1 => s.setF (TAB.CCFG_ARMED c) 0
  | 2 => s.setCmpMark c (s.tab.angle / 2 ^ 48 + 1)
  | 3 => s.setCmpMark c (s.tab.tickIndex + 1)
  | _ => s

/-- A comparator's own part of a firing: EVTS and its CMPST bit (R106, R110). -/
def State.cmpRecord (s : State) (c : Nat) : State :=
  (s.wr (TAB.EVTS c) (stampWord s.tab.ns)).setF ⟨TAB.CMPST (c / 32), c % 32, 1⟩ 1

/-- A one-shot's target is past, the present cycle included (R100). -/
def State.targetPast (s : State) (c : Nat) : Bool :=
  let a := (s.rd (TAB.TARGET c) + 2 ^ 48 - s.tab.au) % 2 ^ 48
  decide (a = 0 ∨ 2 ^ 47 < a)

/-- A comparator's write re-arms it and clears LATE; a per-cycle or per-tick target already passed counts from the next cycle
or tick (R108). The answer says whether a one-shot was armed late and fires at once (R109). DEDUCED (log 19): every write arms it,
also one that leaves TARGET as it was after it fired. -/
def State.cmpArm (s : State) (c : Nat) : State × Bool :=
  let mode := s.getF (TAB.CCFG_MODE c)
  let s := (s.setF (TAB.CCFG_LATE c) 0).setF (TAB.CCFG_ARMED c) (if mode = 1 then 1 else 0)
  let s := s.setCmpMark c 0
  match mode with
  | 1 =>
    if s.targetPast c then ((s.setF (TAB.CCFG_LATE c) 1).raise TAB.STATUS_CMP_LATE, true) else (s, false)
  | 2 => (if s.cmpAhead c = some 0 then s.setCmpMark c (s.tab.angle / 2 ^ 48 + 1) else s, false)
  | 3 => (if s.cmpAhead c = some 0 then s.setCmpMark c (s.tab.tickIndex + 1) else s, false)
  | _ => (s, false)

end Sys2Proof.Machine
end

