-- ==== Sys2Proof/Machine/Svc.lean ====
section
/-!
DEFINITION. Machine/Svc.lean: sampled-value ingest, the decimator and predictive fill of chapter 06: histories, classification,
replacement and stream states.
-/

namespace Sys2Proof.Machine

/-! ## Streams -/

/-- Change the sampled-value side. -/
def State.onSvc (s : State) (f : SvcState → SvcState) : State := { s with svc := f s.svc }

/-- One stream's context. -/
def State.stream (s : State) (st : Nat) : Stream := smapGet (fun _ => {}) s.svc.streams st

/-- Change one stream's context. -/
def State.onStream (s : State) (st : Nat) (f : Stream → Stream) : State :=
  s.onSvc fun c => { c with streams := smapUpd (fun _ => {}) c.streams st f }

/-- The stream states of R324, as SVC_s_STATE numbers them. -/
inductive StreamSt where
  | disabled | idle | start | run | fill | lost
  deriving DecidableEq, Repr

/-- The number of a stream state. -/
def StreamSt.num : StreamSt → Nat
  | .disabled => 0 | .idle => 1 | .start => 2 | .run => 3 | .fill => 4 | .lost => 5

/-- A stream's state (R324). -/
def State.streamSt (s : State) (st : Nat) : StreamSt :=
  match s.getF (SVC.SSTATE_STATE st) with
  | 1 => .idle | 2 => .start | 3 => .run | 4 => .fill | 5 => .lost | _ => .disabled

/-- A stream enters a state; FILL and LOST set their STATUS bits (R324). -/
def State.setStreamSt (s : State) (st : Nat) (x : StreamSt) : State :=
  let old := s.streamSt st
  let s := s.setF (SVC.SSTATE_STATE st) x.num
  let s := s.when (decide (x = .fill ∧ old ≠ .fill)) (·.raise SVC.STATUS_FILL)
  s.when (decide (x = .lost ∧ old ≠ .lost)) (·.raise SVC.STATUS_STREAM_LOST)

/-- The stream holds readiness (R325). -/
def State.holdsReady (s : State) (st : Nat) : Bool := decide (s.streamSt st = .run ∨ s.streamSt st = .fill)

/-- RATE in Hz (R344). -/
def State.rateHz (s : State) (st : Nat) : Nat :=
  match s.getF (SVC.STRCFG_RATE st) with
  | 0 => 4000 | 1 => 4800 | 2 => 12800 | 3 => 14400 | 4 => 15360 | _ => 96000

/-- The decimation ratio D (R348). -/
def State.ratio (s : State) (st : Nat) : Nat :=
  match s.getF (SVC.RSCFG_DRATIO st) with
  | 0 => 1 | 1 => 3 | _ => 20

/-- The decimator's length: 1 when it passes every sample. -/
def State.decLen (s : State) (st : Nat) : Nat :=
  if s.ratio st = 1 then 1 else s.getF (SVC.DSET_LEN (s.getF (SVC.RSCFG_DSET st)))

/-- Decimator outputs per second (R348). -/
def State.outRate (s : State) (st : Nat) : Rat := (s.rateHz st : Rat) / (s.ratio st : Rat)

/-- SVC_s_STRCFG2.WRAP. -/
def State.wrapOf (s : State) (st : Nat) : Nat := s.getF (SVC.STRCFG2_WRAP st)

/-- Decimator outputs in one wrap. -/
def State.outsPerWrap (s : State) (st : Nat) : Nat := (s.wrapOf st + s.ratio st - 1) / s.ratio st

/-- The input sample a decimator output falls on (R349). -/
def State.inputOf (s : State) (st : Nat) (m : Int) : Int :=
  let per : Int := s.outsPerWrap st
  m.fdiv per * s.wrapOf st + m.fmod per * s.ratio st

/-- The last decimator output at or before an input sample. -/
def State.outAt (s : State) (st : Nat) (i : Int) : Int :=
  let w : Int := s.wrapOf st
  i.fdiv w * s.outsPerWrap st + i.fmod w / (s.ratio st : Int)

/-- A sample of a list whose places run down without gaps from its head. -/
def sampAt (xs : List Samp) (i : Int) : Option Samp :=
  match xs with
  | [] => none
  | x :: _ => if i ≤ x.idx then xs[(x.idx - i).toNat]? else none

/-- How bad a validity is: good, questionable, invalid. -/
def validityRank (v : Nat) : Nat := if v = 0 then 0 else if v = 3 then 1 else 2

/-- The worse of two validities (R338). -/
def worseValidity (a b : Nat) : Nat := if validityRank a < validityRank b then b else a

/-- The worst of a list of validities. -/
def worstValidity (vs : List Nat) : Nat := vs.foldl worseValidity 0

/-! ## Decimator -/

/-- sat48 of R361. -/
def sat48 (i : Int) : Int := clampSigned 48 i

/-- A sum of products with sat48 after each, and whether any saturated (R361, R362). -/
def macSum : List (Int × Int) → Int → Bool → Int × Bool
  | [], a, b => (a, b)
  | (c, x) :: r, a, b => let t := a + c * x; macSum r (sat48 t) (b || decide (sat48 t ≠ t))

/-- A stored coefficient, signed (R362). -/
def State.coefAt (s : State) (a : Nat) : Int := toSigned 18 (smapGet (fun _ => 0) s.svc.coef a)

/-- Coefficient address of a decimator set's tap (R384). -/
def decCoefAddr (set_ tap : Nat) : Nat := 2 ^ 31 + set_ * 2 ^ 24 + tap

/-- Coefficient address of an interpolator set's phase and tap (R384). -/
def intCoefAddr (set_ phase tap : Nat) : Nat := set_ * 2 ^ 24 + phase * 32 + tap

/-- One channel of a decimator output from its inputs, newest first (R349, R351). -/
def State.decimate (s : State) (st : Nat) (straddles : Bool) (xs : List ChVal) : ChVal × Bool :=
  if s.ratio st = 1 then (xs.headD ⟨0, 1, false, 0⟩, false)
  else
    let set_ := s.getF (SVC.RSCFG_DSET st)
    let r := macSum (xs.zipIdx.map fun (x, i) => (s.coefAt (decCoefAddr set_ i), x.v)) 0 false
    let val := worstValidity (xs.map (·.validity))
    let val := if straddles then 1 else if r.2 then worseValidity val 3 else val
    (⟨rhe r.1 17, val, xs.any (·.test), 0⟩, r.2)

/-- Decimator output `m` from the inputs present (R349 to R351): missing when an input it needs is. -/
def State.buildOut (s : State) (st : Nat) (m : Int) : Samp × Bool :=
  let q := s.inputOf st m
  let len := s.decLen st
  let ins := (List.range len).map fun (i : Nat) => sampAt (s.stream st).inp (q - (i : Int))
  let got := ins.filterMap id
  let t := match (sampAt (s.stream st).inp q) with
    | some x => x.t
    | none => 0
  let (shift, steps) := match got.getLast? with
    | some x => (x.shift, x.steps)
    | none => (s.tab.todShift, s.tab.stepCnt)
  if got.length = len ∧ got.all (fun x => x.st = .received) then
    let straddles := decide (s.wrapOf st % s.ratio st ≠ 0 ∧ q.fmod (s.wrapOf st) < (len : Int) - 1)
    let n := s.getF (SVC.STRCFG_NCH st)
    let cs := (List.range n).map fun c => s.decimate st straddles (got.map fun x => x.ch.getD c ⟨0, 1, false, 0⟩)
    (⟨m, .received, false, false, t, shift, steps, cs.map (·.1)⟩, cs.any (·.2))
  else (⟨m, .missing, false, false, t, shift, steps, []⟩, false)

/-! ## Prediction -/

/-- The length of R328: one cycle of decimator outputs, at most 384. -/
def State.predLen (s : State) (st : Nat) : Nat := min (rheRat (s.outRate st / s.tab.fCur)).toNat 384

/-- The span of R327. -/
def State.span (s : State) (st : Nat) : Nat :=
  (2 * s.outRate st / (s.tab.fCur * ((2 ^ s.tab.divEff : Nat) : Rat))).ceil.toNat

/-- An exact autocorrelation sum over a list of values (R803). -/
def acfSum (h : List Int) (k : Nat) : Int := ((h.zip (h.drop k)).map fun (a, b) => a * b).sum

/-- One order of the Levinson-Durbin recursion in binary32 (R803): the coefficients so far and the prediction error. -/
def levinsonStep (acf : List Fp) (k : Nat) (a : List Fp) (e : Fp) : List Fp × Fp :=
  let at_ (i : Nat) : Fp := acf.getD i (.num false 0)
  let terms := (a.zipIdx).map fun (x, j) => x.mul rnd32 (at_ (k - 1 - j))
  let lam := terms.foldl (fun t x => t.sub rnd32 x) (at_ k)
  let r := lam.div rnd32 e
  let a' := (a.zip a.reverse).map fun (x, y) => x.sub rnd32 (r.mul rnd32 y)
  (a' ++ [r], e.mul rnd32 ((Fp.num false 1).sub rnd32 (r.mul rnd32 r)))

/-- The recursion from order `k` on, `n` orders; it stops where the error to divide by is zero or negative (R803). -/
def levinson (acf : List Fp) : Nat → Nat → List Fp → Fp → List Fp
  | 0, _, a, _ => a
  | n + 1, k, a, e =>
    if e.finite ∧ e.rat ≤ 0 ∨ e = .inf true then a
    else
      let r := levinsonStep acf k a e
      levinson acf n (k + 1) r.1 r.2

/-- The order-8 predictor of one channel from its last `l` values, newest first (R328, R803); none: the run is invalid. -/
def predictor (h : List Int) : Option (List Fp) :=
  let acf := (List.range 9).map fun k => (Fp.ofInt (acfSum h k)).round rnd32
  let e := (acf.headD (.num false 0)).mul rnd32 (.num false (1 + 1 / 1024))
  let a := if e.rat = 0 then [] else levinson ((e :: acf.drop 1)) 8 1 [] e
  if a.all (·.finite) then some a else none

/-- The prediction sum in binary64, then one integer (R328, R803). -/
def predictNext (a : List Fp) (ys : List Int) : Int :=
  let x := (a.zip ys).foldl (fun t (c, y) => t.add rnd64 (c.mul rnd64 (Fp.ofInt y))) (Fp.num false 0)
  clampSigned 32 (rheRat x.rat)

/-- How many outputs at the head of the history were not received: the length of the present run. -/
def runLength : List Samp → Nat
  | [] => 0
  | x :: xs => if x.st = .received then 0 else runLength xs + 1

/-- Fill the next decimator output of a run, or none when the run is invalid (R328, R329). -/
def State.predictOut (s : State) (st : Nat) (m : Int) : Option Samp :=
  let out := (s.stream st).out
  let l := s.predLen st
  let h := (out.drop (runLength out)).take l
  if l < 16 ∨ h.length < l ∨ h.any (fun x => x.st ≠ .received) ∨
      (out.take (runLength out)).any (fun x => x.st = .missing) then none
  else
    let n := s.getF (SVC.STRCFG_NCH st)
    let ch0 := s.getF (SVC.STRCFG2_CH0 st)
    let val (x : Samp) (c : Nat) : ChVal := x.ch.getD c ⟨0, 1, false, 0⟩
    let chans := (List.range n).map fun c =>
      let hist := h.map fun x => (val x c).v
      match predictor hist with
      | none => none
      | some a => some (⟨predictNext a ((out.take 8).map fun x => (val x c).v),
          worstValidity (h.map fun x => (val x c).validity), Config.predTest (ch0 + c) m,
          (hist.map Int.natAbs).foldl max 0⟩ : ChVal)
    if chans.all Option.isSome then
      let step : Rat := 1000000000 / s.outRate st
      let t := match out with
        | x :: _ => x.t + step
        | [] => 0
      some ⟨m, .predicted, false, false, t, (out.head?.map (·.shift)).getD s.tab.todShift,
        (out.head?.map (·.steps)).getD s.tab.stepCnt, chans.filterMap id⟩
    else none

/-! ## The history -/

/-- The samples of a history (R348). -/
def historyLen : Nat := 384

/-- Append a decimator output. Beside the history, what a run of filled samples was predicted from stays (R328): a run has fewer
than 640. -/
def State.pushOut (s : State) (st : Nat) (x : Samp) : State :=
  s.onStream st fun r => { r with out := (x :: r.out).take (historyLen + 640) }

/-- Append an output that was not received: predicted within the span, invalid beyond it (R326 to R329, R324). -/
def State.pushUnreceived (s : State) (st : Nat) (x : Samp) : State :=
  let pos := runLength (s.stream st).out + 1
  if ¬ s.holdsReady st then s.pushOut st x
  else
    let s := s.when (decide (s.streamSt st = .run)) (·.setStreamSt st .fill)
    if s.span st < pos then ((s.setStreamSt st .lost).onStream st fun r => { r with prev := none }).pushOut st x
    else if ¬ s.flag (SVC.STRCFG_FILL_EN st) then s.pushOut st x
    else match s.predictOut st x.idx with
      | some p => (s.bump (SVC.PRED st)).pushOut st p
      | none => s.pushOut st x

/-- An output's value is replaced by the real one (R332): beyond tolerance on some channel? -/
def State.beyondTol (s : State) (st : Nat) (old new : Samp) : Bool :=
  decide (old.st = .predicted) &&
    ((old.ch.zip new.ch).any fun (a, b) =>
      decide (max (s.getF (SVC.TOL_TOLMIN st)) (a.peak / 2 ^ s.getF (SVC.TOL_TOLSH st)) < (a.v - b.v).natAbs))

/-- What a replacement of output `m` does to the output samples that read it (R333, R334). -/
def OutRec.replaced (m : Int) (beyond : Bool) (r : OutRec) : OutRec :=
  if r.lo ≤ m ∧ m ≤ r.hi then
    { r with
      preds := r.preds.filter (· ≠ m)
      corrected := r.corrected || (beyond && r.preds.contains m)
      dirty := true }
  else r

/-- Replace outputs that were not received where their inputs are there now (R332, R351); the answer says whether one was
beyond tolerance. -/
def State.replaceOuts (s : State) (st : Nat) : State × Bool :=
  let open_ := (s.stream st).out.filter fun x => x.st ≠ .received ∧ ¬ x.frozen
  open_.foldl (fun (s, any) x =>
    let (y, sat) := s.buildOut st x.idx
    if y.st ≠ .received then (s, any)
    else
      let beyond := s.beyondTol st x y
      let s := s.onStream st fun r => { r with
        out := r.out.map fun o => if o.idx = x.idx then { y with corrected := beyond } else o
        outs := r.outs.map (OutRec.replaced x.idx beyond) }
      (s.when sat (·.raise SVC.RS_FLAGS_SAT), any || beyond)) (s, false)

/-- Append the decimator outputs up to `hi`, `n` at most, from the inputs present. -/
def State.extendOuts (s : State) (st : Nat) : Nat → Int → State
  | 0, _ => s
  | n + 1, hi =>
    let next : Int := match (s.stream st).out with
      | x :: _ => x.idx + 1
      | [] => hi
    if hi < next then s
    else
      let (x, sat) := s.buildOut st next
      let s := s.when sat (·.raise SVC.RS_FLAGS_SAT)
      let s := if x.st = .received then s.pushOut st x else s.pushUnreceived st x
      s.extendOuts st n hi

/-- Every sample up to newest is received or frozen (R324). -/
def Stream.whole (r : Stream) : Bool := r.inp.all fun x => x.st = .received || x.frozen

/-- After samples came in, FILL may end (R324). -/
def State.settle (s : State) (st : Nat) : State :=
  if s.streamSt st = .fill ∧ (s.stream st).whole then s.setStreamSt st .run else s

/-- The raw instant of sample 0 of a wrap is noted (R360); in the wrap that a stream begins in, its first sample tells it. -/
def State.noteV0 (s : State) (st : Nat) (x : Samp) : State :=
  let w : Int := s.wrapOf st
  let n := x.idx.fmod w
  let k := x.idx.fdiv w
  if n = 0 ∨ (s.stream st).v0s.all (fun y => y.1 ≠ k) then
    s.onStream st fun r => { r with
      v0s := ((k, x.t - (n : Rat) * 1000000000 / (s.rateHz st : Rat), x.shift) :: r.v0s.filter (fun y => y.1 ≠ k)).take 4 }
  else s

/-- Append one input sample and what the decimator makes of it (R322, R349); inputs stay for the taps of the oldest output. -/
def State.pushInput (s : State) (st : Nat) (x : Samp) : State × Bool :=
  let keep := historyLen * s.ratio st + 64
  let s := (s.onStream st fun r => { r with inp := (x :: r.inp).take keep }).noteV0 st x
  let (s, beyond) := s.replaceOuts st
  let hi := s.outAt st x.idx
  let s := if s.inputOf st hi = x.idx ∨ (s.stream st).out ≠ [] then s.extendOuts st 384 hi else s
  (s, beyond)

/-- Mark the numbers between newest and an ASDU `x` missing (R322); what is marked is filled at once, so RUN becomes FILL (R323,
R324). -/
def State.markMissing (s : State) (st : Nat) (x : Samp) : Nat → State
  | 0 => s
  | n + 1 =>
    let i := x.idx - 1 - n
    let ti := x.t - ((x.idx - i : Int) : Rat) * 1000000000 / (s.rateHz st : Rat)
    let s := ((s.bump (SVC.MISSING st)).raise SVC.STATUS_MISSING).when (decide (s.streamSt st = .run)) (·.setStreamSt st .fill)
    ((s.pushInput st { x with idx := i, st := .missing, t := ti, ch := [] }).1).markMissing st x n

/-- An ASDU counts as corrected (R332). -/
def State.countCorr (s : State) (st : Nat) (beyond : Bool) : State :=
  if beyond then (s.bump (SVC.CORR st)).raise SVC.STATUS_CORRECTION else s

/-- A late real sample replaces a missing one within its horizon (R322, R332). -/
def State.replaceInput (s : State) (st : Nat) (x : Samp) : State :=
  let s := (s.onStream st fun r => { r with inp := r.inp.map fun y => if y.idx = x.idx then x else y }).noteV0 st x
  let (s, beyond) := s.replaceOuts st
  s.countCorr st beyond

/-- The states' reaction to an ASDU of number `n` (R324). -/
def State.stepStreamSt (s : State) (st n : Nat) : State :=
  let w := s.wrapOf st
  let consecutive : Bool := match (s.stream st).prev with
    | some p => decide (n % w = (p + 1) % w)
    | none => false
  let s := s.onStream st fun r => { r with prev := some n }
  let start (s : State) : State :=
    (s.setStreamSt st .start).onStream st fun r => { r with startIdx := (r.inp.head?.map (·.idx)).getD 0 }
  match s.streamSt st with
  | .idle => start s
  | .start => if consecutive then s.setStreamSt st .run else s
  | .lost => if consecutive then start s else s
  | _ => s

/-- What classification made of an ASDU (R322). -/
inductive AsduFate where
  | stored | replaced | dup | late
  deriving DecidableEq, Repr

/-- The sample of a place, while its history holds it (R322, R348). -/
def State.held (s : State) (st : Nat) (newest i : Int) : Option Samp :=
  if newest - i < ((historyLen * s.ratio st : Nat) : Int) then sampAt (s.stream st).inp i else none

/-- Classify and store one ASDU (R322): its number, and its sample without a place. -/
def State.takeAsdu (s : State) (st n : Nat) (x : Samp) : State × AsduFate :=
  let w := s.wrapOf st
  match (s.stream st).inp with
  | [] =>
    let s := (s.pushInput st { x with idx := ((n % w : Nat) : Int) }).1
    ((s.stepStreamSt st n).setF (SVC.SSTATE_NEWEST st) n, .stored)
  | y :: _ =>
    let a := ((n : Int) - y.idx).fmod w
    if a = 0 then (s.stepStreamSt st n, .dup)
    else if 2 * a < w then
      let x := { x with idx := y.idx + a }
      let (s, beyond) := (s.markMissing st x (a - 1).toNat).pushInput st x
      let s := (s.countCorr st beyond).setF (SVC.SSTATE_NEWEST st) n
      ((s.stepStreamSt st n).settle st, .stored)
    else
      let i := y.idx - (w - a)
      match s.held st y.idx i with
      | some z =>
        if z.st = .received then (s, .dup)
        else if z.frozen then (s, .late)
        else ((s.replaceInput st { x with idx := i }).settle st, .replaced)
      | none => (s, .late)

/-! ## Decoding of frames -/

/-- One tag, length and value of the basic encoding rules: tag, place of the value, its length. -/
def berAt (b : List Byte) (o lim : Nat) : Option (Nat × Nat × Nat) :=
  let l := beAt b (o + 1) 1
  let r := if l < 128 then some (o + 2, l)
    else if l = 128 ∨ l = 255 then none
    else some (o + 2 + (l - 128), beAt b (o + 2) (l - 128))
  match r with
  | some (v, n) => if v + n ≤ lim ∧ lim ≤ b.length then some (beAt b o 1, v, n) else none
  | none => none

/-- What an ASDU holds once read (R302). -/
structure Asdu where
  svid : List Byte := []
  hasSvid : Bool := false
  smpCnt : Option Nat := none
  confRev : Option Nat := none
  synch : Option Nat := none
  /-- Place and length of seqData. -/
  data : Option (Nat × Nat) := none
  bad : Bool := false
  deriving DecidableEq, Repr

/-- Read the fields of an ASDU, each behind the last in the order of their tags; an error leaves what was read before it. -/
def readAsdu (b : List Byte) : Nat → Nat → Nat → Nat → Asdu → Asdu
  | 0, _, _, _, a => a
  | n + 1, last, o, lim, a =>
    if o = lim then a
    else match berAt b o lim with
      | none => { a with bad := true }
      | some (tag, v, len) =>
        let go (a : Asdu) := readAsdu b n tag (v + len) lim a
        if tag ≤ last then { a with bad := true }
        else match tag with
        | 0x80 => go { a with svid := sliceD 0 b v len, hasSvid := true }
        | 0x82 => if len = 2 then go { a with smpCnt := some (beAt b v 2) } else { a with bad := true }
        | 0x83 => if len = 4 then go { a with confRev := some (beAt b v 4) } else { a with bad := true }
        | 0x85 => if len = 1 then go { a with synch := some (beAt b v 1) } else { a with bad := true }
        | 0x87 => if len ≤ 1024 then go { a with data := some (v, len) } else { a with bad := true }
        | 0x81 => go a
        | 0x84 => go a
        | 0x86 => go a
        | 0x88 => go a
        | 0x89 => go a
        | _ => { a with bad := true }

/-- An ASDU with every field the stage needs. -/
def Asdu.complete (a : Asdu) : Bool :=
  !a.bad && a.hasSvid && a.smpCnt.isSome && a.confRev.isSome && a.synch.isSome && a.data.isSome

/-- The ASDUs of a sequence, `n` of them; one with an error ends the list, and so does what follows the last (R303). -/
def readAsdus (b : List Byte) : Nat → Nat → Nat → List Asdu
  | 0, o, lim => if o < lim then [{ bad := true }] else []
  | n + 1, o, lim =>
    match berAt b o lim with
    | some (0x30, v, len) =>
      let a := readAsdu b 16 0 v (v + len) {}
      if a.complete then a :: readAsdus b n (v + len) lim else [{ a with bad := true }]
    | _ => [{ bad := true }]

/-- A frame's header and ASDUs: APPID, simulation bit, noASDU, ASDUs; none: an error before any ASDU (R302, R303). -/
def readSvFrame (b : List Byte) : Option (Nat × Bool × Nat × List Asdu) :=
  let h := skipTags 2 b 12 + 2
  let total := beAt b (h + 2) 2
  if total < 8 ∨ b.length < h + total then none
  else
    let lim := h + total
    match berAt b (h + 8) lim with
    | some (0x60, v, len) =>
      match berAt b v (v + len) with
      | some (0x80, nv, nl) =>
        let m := beAt b nv nl
        let o := nv + nl
        let o := match berAt b o (v + len) with
          | some (0x81, sv, sl) => sv + sl
          | _ => o
        match berAt b o (v + len) with
        | some (0xA2, qv, ql) =>
          if 1 ≤ m ∧ m ≤ 8 then some (beAt b h 2, bit (beAt b (h + 4) 2) 15, m, readAsdus b m qv (qv + ql)) else none
        | _ => none
      | _ => none
    | _ => none

/-! ## Matching, checks and times -/

/-- Byte `i` of an entry's SVID (R345). -/
def State.subSvid (s : State) (e n len : Nat) : List Byte :=
  (List.range len).map fun i => BitVec.ofNat 8 (s.rd (SVC.SUB_SVID e n (i / 4)) / 2 ^ (24 - 8 * (i % 4)))

/-- A subscription entry matches an ASDU (R306). -/
def State.subMatch (s : State) (e n : Nat) (f : Frame) (appid : Nat) (svid : List Byte) : Bool :=
  let w2 := s.rd (SVC.SUB_W2 e n)
  bit w2 31 &&
    decide (frameDa f.bytes = s.getF (SVC.SUB_W0_DA_LO e n) + s.getF (SVC.SUB_W1_DA_HI e n) * 2 ^ 32) &&
    (bit w2 11 || decide (f.info.vid = bits w2 23 12)) &&
    decide (appid = s.getF (SVC.SUB_W1_APPID e n)) &&
    decide (svid.length = bits w2 30 24) && decide (svid = s.subSvid e n svid.length)

/-- Entries of an epoch that can be valid, in order. -/
def State.subListed (s : State) (e : Nat) : List Nat := s.listed (SVC.SUB_W2 e 0) 0x80 2048

/-- The stream of the lowest matching entry (R306). -/
def State.subFind (s : State) (e : Nat) (f : Frame) (appid : Nat) (svid : List Byte) : Option Nat :=
  ((s.subListed e).find? fun n => s.subMatch e n f appid svid).map fun n => s.getF (SVC.SUB_W2_STREAM e n)

/-- A stream takes ASDUs (R306). -/
def State.streamOpen (s : State) (st : Nat) : Bool := s.flag SVC.CTL_EN && s.flag (SVC.STRCFG_EN st)

/-- The nearest integer; a tie, which the manual leaves open, goes either way. -/
def nearestOpen (q : Rat) : Int :=
  let f := q.floor
  let r := q - (f : Rat)
  if r < 1 / 2 then f else if 1 / 2 < r then f + 1 else if Config.roundUp q then f + 1 else f

/-- The sample instant of a number (R318), in ns. -/
def State.countInstant (s : State) (st n arrival : Nat) : Rat :=
  let rate : Rat := s.rateHz st
  let wrapNs : Rat := (s.wrapOf st : Rat) * 1000000000 / rate
  let base : Rat := (n : Rat) * 1000000000 / rate
  let lat : Rat := ((s.getF (SVC.TIMING_LATNOM st) * 1000 : Nat) : Rat)
  (nearestOpen (((arrival : Rat) - lat - base) / wrapNs) : Rat) * wrapNs + base

/-- An ASDU is timed by smpCnt (R317). -/
def State.timedByCount (s : State) (st synch : Nat) : Bool :=
  match s.getF (SVC.STRCFG_SYNCMODE st) with
  | 0 => false
  | 1 => decide (synch ≠ 0)
  | _ => decide (synch = s.getF (SVC.STRCFG_GMID st))

/-- Validity of a quality word (R315). -/
def qValidity (q : Nat) : Nat := if bits q 1 0 = 0 then 0 else if bits q 1 0 = 3 then 3 else 1

/-- The channels of an ASDU (R315): value, quality word and their reading; none: a channel lies beyond seqData. -/
def State.readChannels (s : State) (st : Nat) (b : List Byte) (data : Nat × Nat) (byArrival : Bool) :
    Option (List (Nat × Nat × ChVal)) :=
  let ch0 := s.getF (SVC.STRCFG2_CH0 st)
  ((List.range (s.getF (SVC.STRCFG_NCH st))).filter fun i => decide (ch0 + i < 16384)).mapM fun i =>
    let c := ch0 + i
    let o := s.getF (SVC.CHCFG_VOFF c) * 4
    let qp := s.flag (SVC.CHCFG_QPRES c)
    if data.2 < o + (if qp then 8 else 4) then none
    else
      let q := if qp then beAt b (data.1 + o + 4) 4 else 0
      let v := qValidity q
      let v := if byArrival ∧ s.getF (SVC.STRCFG_SYNCMODE st) ≠ 0 then worseValidity v 3 else v
      some (c, q, ⟨toSigned 32 (beAt b (data.1 + o) 4), v, bit q 11, 0⟩)

/-- The last quality words received (R315); a channel without one keeps what it had. -/
def State.setChq (s : State) (cs : List (Nat × Nat × ChVal)) : State :=
  cs.foldl (fun s c => if s.flag (SVC.CHCFG_QPRES c.1) then s.wr (SVC.CHQ c.1) c.2.1 else s) s

/-- smpSynch and the timing source in use (R320). -/
def State.noteSync (s : State) (st synch : Nat) (byArrival : Bool) : State :=
  let first := (s.stream st).inp.isEmpty
  let changed := decide (s.getF (SVC.SSTATE_SMPSYNCH st) ≠ synch) ||
    decide (s.getF (SVC.SSTATE_TIMESRC st) ≠ b2n byArrival)
  let s := (s.setF (SVC.SSTATE_SMPSYNCH st) synch).setF (SVC.SSTATE_TIMESRC st) (b2n byArrival)
  s.when (changed && !first) (·.raise SVC.STATUS_SYNC_CHANGE)

/-- Record the latency of an ASDU that ends its frame (R321). -/
def State.noteLatency (s : State) (st arrival : Nat) (t : Rat) : State :=
  let us := min (((arrival : Rat) - t) / 1000).floor.toNat 65535
  let s := s.setF (SVC.LAT_LATLAST st) us
  if s.getF (SVC.LAT_LATMAX st) < us then s.setF (SVC.LAT_LATMAX st) us else s

/-- A format error of a stream or of the block (R303). -/
def State.fmtError (s : State) (st : Option Nat) : State :=
  match st with
  | some st => (s.bump (SVC.SFMTERR st)).raise SVC.STATUS_FMT_ERR
  | none => (s.bump SVC.FMTERR).raise SVC.STATUS_FMT_ERR

/-- What the stage expects of the frames that follow (R326): an ASDU of number `i` of `m` was stored. -/
def State.noteFrame (s : State) (st arrival m i : Nat) : State :=
  s.onStream st fun r => { r with
    frameM := m
    frameEnd := (r.inp.head?.map (·.idx)).getD 0 + ((m - 1 - i : Nat) : Int)
    frameAt := arrival }

/-- One ASDU of a frame, number `i` of `m`, for its stream (R316 to R322). -/
def State.streamAsdu (s : State) (f : Frame) (sim : Bool) (m i st : Nat) (a : Asdu) : State × Bool :=
  let data := a.data.getD (0, 0)
  let synch := a.synch.getD 0
  let byArrival := !s.timedByCount st synch
  match s.readChannels st f.bytes data byArrival with
  | none => (s.fmtError (some st), false)
  | some cs =>
    if a.confRev.getD 0 ≠ s.rd (SVC.CONFREV st) ∨ sim ≠ s.flag (SVC.STRCFG_SIM st) then
      ((s.bump (SVC.REJECT st)).raise SVC.STATUS_REJECT, true)
    else
      let n := a.smpCnt.getD 0
      let lat : Rat := ((s.getF (SVC.TIMING_LATNOM st) * 1000 : Nat) : Rat)
      let t : Rat := if byArrival then (f.info.rxNs : Rat) - lat - ((m - 1 - i : Nat) : Rat) * 1000000000 / (s.rateHz st : Rat)
        else s.countInstant st n f.info.rxNs
      let s := s.noteSync st synch byArrival
      let s := s.setChq cs
      let x : Samp := ⟨0, .received, false, false, t, s.tab.shiftAt f.info.rxMono, s.tab.stepsAt f.info.rxMono, cs.map (·.2.2)⟩
      let (s, fate) := s.takeAsdu st n x
      let s := match fate with
        | .stored => s.noteFrame st f.info.rxNs m i
        | .dup => (s.bump (SVC.DUP st)).raise SVC.STATUS_DUP
        | .late => (s.bump (SVC.LATE st)).raise SVC.STATUS_LATE
        | _ => s
      (s.when (!byArrival && decide (i + 1 = m)) fun s => s.noteLatency st f.info.rxNs t, true)

/-- The ASDUs of a frame in order; an error ends it, one of a stream that takes no ASDUs too (R303, R306). -/
def State.frameAsdus (s : State) (e : Nat) (f : Frame) (appid : Nat) (sim : Bool) (m : Nat) : List Asdu → Nat → State
  | [], _ => s
  | a :: as, i =>
    let hit := if a.hasSvid then s.subFind e f appid a.svid else none
    if a.bad then s.fmtError hit
    else match hit with
      | none => ((s.bump SVC.NOMATCH).raise SVC.STATUS_NOMATCH).frameAsdus e f appid sim m as (i + 1)
      | some st =>
        if ¬ s.streamOpen st then
          if (s.readChannels st f.bytes (a.data.getD (0, 0)) false).isNone then s.fmtError (some st)
          else ((s.bump SVC.NOMATCH).raise SVC.STATUS_NOMATCH).frameAsdus e f appid sim m as (i + 1)
        else
          let (s, ok) := s.streamAsdu f sim m i st a
          if ok then s.frameAsdus e f appid sim m as (i + 1) else s

/-- The streams that a frame's ASDUs match, in order (R306). -/
def State.frameStreams (s : State) (e : Nat) (f : Frame) (appid : Nat) (as : List Asdu) : List Nat :=
  as.filterMap fun a => if a.hasSvid then s.subFind e f appid a.svid else none

/-- One frame from INGEST (R302 to R306, R316). -/
def State.svFrame (s : State) (f : Frame) : State :=
  let e := s.svc.subAct
  match readSvFrame f.bytes with
  | none => s.fmtError none
  | some (appid, sim, m, as) =>
    let sts := s.frameStreams e f appid as
    match sts.head?, sts.find? fun st => s.streamOpen st && s.flag (SVC.KEY_AUTH_EN st) with
    | some first, some st =>
      let (s, ok) := s.authVerify (s.getF (SVC.KEY_KEYSLOT st)) f.bytes (skipTags 2 f.bytes 12 + 2)
      if ok then s.frameAsdus e f appid sim m as 0
      else (s.bump (SVC.AUTHFAIL first)).raise SVC.STATUS_AUTHFAIL
    | _, _ => s.frameAsdus e f appid sim m as 0

/-- The next frame on INGEST is ingested. -/
def State.svIngest (s : State) : State :=
  match s.swc.ingest with
  | [] => s
  | f :: fs => (s.onSwc fun w => { w with ingest := fs }).svFrame f

end Sys2Proof.Machine
end

