-- ==== Sys2Proof/Machine/Resample.lean ====
section
/-!
DEFINITION. Machine/Resample.lean: grids, the interpolator, the sample windows, deadlines, readiness of a tick, and the
registers of chapters 06 and 07 that check what is written to them.
-/

namespace Sys2Proof.Machine

/-! ## Grids -/

/-- N of an angle grid (R352, R384). -/
def gridN (code : Nat) : Nat :=
  match code with
  | 0 => 16 | 1 => 32 | 2 => 48 | 3 => 64 | 4 => 80 | 5 => 96 | 6 => 128 | 7 => 192 | _ => 256

/-- One grid's progress. -/
def State.grid (s : State) (g : Nat) : Grid := smapGet (fun _ => {}) s.svc.grids g

/-- Change one grid's progress. -/
def State.onGrid (s : State) (g : Nat) (f : Grid → Grid) : State :=
  s.onSvc fun c => { c with grids := smapUpd (fun _ => {}) c.grids g f }

/-- GEN of a grid. -/
def State.gridOn (s : State) (g : Nat) : Bool := s.flag (SVC.GCFG_GEN g)

/-- A time grid (R353). -/
def State.isTimeGrid (s : State) (g : Nat) : Bool := s.flag (SVC.GCFG_MODE g)

/-- N of a grid. -/
def State.gridPoints (s : State) (g : Nat) : Nat := gridN (s.getF (SVC.GCFG_NCODE g))

/-- BASE of a time grid in ns. -/
def State.gridBase (s : State) (g : Nat) : Nat :=
  let b := s.rd (SVC.GBASE g)
  (b / 2 ^ 32) * 1000000000 + b % 2 ^ 32

/-- The instant an angle grid's point was or will be reached, from how the counter moved (R352): on the scale that no step of
TOD moves. None: it lies before everything remembered. -/
def pointMono (target : Nat) : List AngleSeg → Option Int
  | [] => none
  | g :: gs =>
    let ahead := (target + 2 ^ 80 - g.angle % 2 ^ 80) % 2 ^ 80
    if ahead < 2 ^ 79 then
      if g.fw = 0 then none else some (g.mono + ((ahead + g.fw - 1) / g.fw : Nat) * (g.inc : Int))
    else pointMono target gs

/-- The shift of TOD that a time grid's point counts in: the one before the first step after it (R377). -/
def State.pointShift (s : State) (g j : Nat) : Int :=
  ((((s.grid g).skips.filter fun x => decide (j < x.1)).getLast?).map (·.2.2)).getD s.tab.todShift

/-- The grid instant of a point (R352, R353). -/
def State.gridInstant (s : State) (g j : Nat) : Option GridAt :=
  if s.isTimeGrid g then
    let t : Int := s.gridBase g + j * s.rd (SVC.PERIOD g) / 256
    some ⟨t, t * (nsUnit : Int) - s.pointShift g j, s.pointShift g j⟩
  else
    match pointMono ((j * 2 ^ 48 + s.gridPoints g - 1) / s.gridPoints g % 2 ^ 80) s.tab.segs with
    | some m => some ⟨(m + s.tab.shiftAt m).fdiv nsUnit, m, s.tab.shiftAt m⟩
    | none => none

/-- The first point at or after now (R353). -/
def State.gridFirst (s : State) (g : Nat) : Nat :=
  if s.isTimeGrid g then
    let now := (s.tab.tod + nsUnit - 1) / nsUnit
    let p := s.rd (SVC.PERIOD g)
    ((now - s.gridBase g) * 256 + p - 1) / p
  else (s.tab.angle * s.gridPoints g + 2 ^ 48 - 1) / 2 ^ 48

/-- The point after the last that a grid produced, or its first (R377). -/
def Grid.next (g : Grid) : Nat := match g.last with
  | some j => j + 1
  | none => g.first

/-- The point after a point (R377). -/
def Grid.after (g : Grid) (j : Nat) : Nat :=
  match g.skips.find? fun x => x.1 = j + 1 with
  | some (_, resume_, _) => resume_
  | none => j + 1

/-- A step of TOD passed a point over (R377). -/
def Grid.skipped (g : Grid) (j : Nat) : Bool := g.skips.any fun (from_, resume_, _) => decide (from_ ≤ j ∧ j < resume_)

/-! ## Ticks -/

/-- A tick raised lately. -/
def State.tickRec (s : State) (tick : Nat) : Option TickRec := s.tab.ticks.find? fun x => x.idx = tick

/-- The tick before a tick: of one raised lately, the one raised before it (R104); none before tick 0. -/
def State.prevTick (s : State) (tick : Nat) : Option Nat :=
  match (s.tab.ticks.dropWhile fun x => x.idx ≠ tick).drop 1 with
  | x :: _ => some x.idx
  | [] => if tick = 0 then none else some (tick - 1)

/-- The full index of a tick number: of a tick raised lately, or the nearest to the tick raised last (R102). -/
def State.tickIdx (s : State) (n : Nat) : Nat :=
  match s.tab.ticks.find? fun x => x.idx % 2 ^ 32 = n % 2 ^ 32 with
  | some x => x.idx
  | none => ((s.tab.raised : Int) + toSigned 32 ((n + 2 ^ 32 - s.tab.raised % 2 ^ 32) % 2 ^ 32)).toNat

/-- A tick was raised (R102, R103). -/
def State.tickCrossed (s : State) (tick : Nat) : Bool := (s.tickRec tick).isSome || tickReached s.tab.raised tick

/-- A tick comes after another: in the order they were raised, or else by number (R102). -/
def State.tickAfter (s : State) (old tick : Nat) : Bool :=
  match s.tab.ticks.findIdx? (fun x => x.idx = tick), s.tab.ticks.findIdx? (fun x => x.idx = old) with
  | some a, some b => decide (a < b)
  | some _, none => true
  | none, _ => !tickReached old tick

/-- TAB_TICKTOD of a tick: as recorded, or of the next tick as the counter moves now (R354, R359). -/
def State.tickTod (s : State) (tick : Nat) : Option Nat :=
  match s.tickRec tick with
  | some x => some x.ns
  | none => if tick = s.tab.nextTick then some ((s.tab.tod + s.boundaryIn * Machine.todStep s.srvRate) / nsUnit) else none

/-- The tick an output sample belongs to, as an index like `raised` (R354): the first raised at or after its point, or the next
one; ticks that are remembered no more had the present division. -/
def State.tickOf (s : State) (g j : Nat) : Nat :=
  let passed : Option (List TickRec) :=
    if s.isTimeGrid g then (s.gridInstant g j).map fun x => s.tab.ticks.filter fun r => decide (x.mono ≤ r.mono)
    else
      let a := (j * 2 ^ 48 + s.gridPoints g - 1) / s.gridPoints g
      some (s.tab.ticks.filter fun r => decide ((r.angle + (2 ^ 80 - a % 2 ^ 80)) % 2 ^ 80 < 2 ^ 79))
  match passed with
  | none => s.tab.nextTick
  | some rs =>
    if rs.length = s.tab.ticks.length ∧ ¬ s.isTimeGrid g then (j * 2 ^ s.tab.divEff + s.gridPoints g - 1) / s.gridPoints g
    else (rs.getLast?.map (·.idx)).getD s.tab.nextTick

/-- The last point of a tick: on an angle grid at or before its boundary, on a time grid at or before its TAB_TICKTOD (R354). -/
def State.lastOfTick (s : State) (g tick : Nat) : Option Nat :=
  if s.isTimeGrid g then
    match s.tickTod tick with
    | some t =>
      if t < s.gridBase g then none
      else
        let p := s.rd (SVC.PERIOD g)
        some (((t + 1 - s.gridBase g) * 256 - 1) / p)
    | none => none
  else match s.tickRec tick with
    | some r => some (r.angle * s.gridPoints g / 2 ^ 48)
    | none => some (tick * s.gridPoints g / 2 ^ s.tab.divEff)

/-- What the records call tick `old` is tick `new`: a new TICKDIV applied at its boundary (R104). -/
def State.renumber (s : State) (old new : Nat) : State :=
  s.onSvc fun c => { c with streams := smapMap (fun _ => {}) (fun _ r => { r with
    outs := r.outs.map fun o => if o.tick = old then { o with tick := new } else o
    lateTicks := r.lateTicks.map fun k => if k = old then new else k }) c.streams }

/-- TAB raises the next tick, which may begin a new division (R103, R104). -/
def State.tickRaised (s : State) : State :=
  let k := s.tab.nextTick
  let s := s.raiseTick
  if s.tab.raised = k then s else s.renumber k s.tab.raised

/-! ## Positions -/

/-- Taps of an interpolator set (R384). -/
def tapsOf (code : Nat) : Nat := match code with
  | 0 => 0 | 1 => 4 | 2 => 8 | 3 => 16 | _ => 32

/-- T of a stream. -/
def State.taps (s : State) (st : Nat) : Nat := tapsOf (s.getF (SVC.ISET_TAPS (s.getF (SVC.RSCFG_ISET st))))

/-- The grid a stream is mapped to, when that grid is enabled. -/
def State.mapped (s : State) (st : Nat) : Option Nat :=
  let g := s.getF (SVC.RSCFG_GRID st)
  if s.flag (SVC.RSCFG_MAP st) ∧ s.gridOn g then some g else none

/-- The delay of the decimator alone, in ns (R360). -/
def State.decDelay (s : State) (st : Nat) : Rat :=
  if s.ratio st = 1 then 0 else ((s.decLen st : Rat) - 1) * 1000000000 / (2 * (s.rateHz st : Rat))

/-- δ of a channel context in ns (R347). -/
def State.phaseDelay (s : State) (c : Nat) : Int := toSigned 24 (s.getF (SVC.PHDLY_DLY c))

/-- The raw instant of output 0 that a position counts from, on the scale no step moves (R360): of the latest wrap that began by
then, or the earliest known; with the wrap. -/
def Stream.v0 (r : Stream) (x : Rat) : Option (Int × Rat) :=
  let vs := r.v0s.map fun (k, t, shift) => (k, t - (shift : Rat) / (nsUnit : Rat))
  match vs.find? fun v => decide (v.2 ≤ x) with
  | some v => some v
  | none => vs.getLast?

/-- The position of R360 in units of 2^-26 decimator outputs, counted without wraps: for a channel context and a grid instant.
None: no sample was received yet. -/
def State.position (s : State) (st c : Nat) (g : Nat) (at_ : GridAt) : Option Int :=
  let x : Rat := (at_.t : Rat) - (at_.shift : Rat) / (nsUnit : Rat) - (s.rd (SVC.GD g) : Rat) + (s.phaseDelay c : Rat) + s.decDelay st
  ((s.stream st).v0 x).map fun (k, v) =>
    ((x - v) * s.outRate st / 1000000000 * ((2 ^ 26 : Nat) : Rat)).floor + k * (s.outsPerWrap st : Int) * 2 ^ 26

/-- The decimator outputs a position reads: first and last (R360). -/
def State.readRange (s : State) (st : Nat) (p : Int) : Int × Int :=
  let n := p.fdiv (2 ^ 26)
  let t : Int := s.taps st
  (n - t / 2 + 1, n + t / 2)

/-- The channel contexts of a stream (R310). -/
def State.channels (s : State) (st : Nat) : List Nat :=
  (List.range (s.getF (SVC.STRCFG_NCH st))).map fun i => s.getF (SVC.STRCFG2_CH0 st) + i

/-- The latest decimator output that the output samples up to the end of a tick read (R359). -/
def State.needOut (s : State) (st tick : Nat) : Option Int :=
  match s.mapped st with
  | none => none
  | some g =>
    match s.lastOfTick g tick with
    | none => none
    | some j =>
      match s.gridInstant g j with
      | none => none
      | some a =>
        let his := (s.channels st).filterMap fun c => (s.position st c g a).map fun p => (s.readRange st p).2
        match his with
        | [] => none
        | h :: hs => some (hs.foldl max h)

/-! ## Deadlines and horizons -/

/-- Append outputs that did not arrive, up to `hi` (R326). -/
def State.fillTo (s : State) (st : Nat) : Nat → Int → State
  | 0, _ => s
  | n + 1, hi =>
    match (s.stream st).out with
    | [] => s
    | x :: _ =>
      if hi ≤ x.idx then s
      else
        let t := x.t + 1000000000 / s.outRate st
        (s.pushUnreceived st ⟨x.idx + 1, .missing, false, false, t, x.shift, x.steps, []⟩).fillTo st n hi

/-- Frames of as many ASDUs as the last one, from that one to the frame that carries an input sample (R326). -/
def Stream.framesTo (r : Stream) (q : Int) : Int := (q - r.frameEnd + (r.frameM : Int) - 1).fdiv r.frameM

/-- The fill deadline of a stream for a tick, in ns of TOD (R326). -/
def State.deadline (s : State) (st tick : Nat) : Option Rat :=
  match s.needOut st tick, (s.stream st).inp with
  | some need, x :: _ =>
    let r := s.stream st
    let ahead : Int := r.framesTo (s.inputOf st need) * (r.frameM : Int)
    let per : Rat := 1000000000 / (s.rateHz st : Rat)
    let expected : Rat :=
      if s.flag (SVC.SSTATE_TIMESRC st) then (r.frameAt : Rat) + (ahead : Rat) * per
      else x.t + ((r.frameEnd + ahead - x.idx : Int) : Rat) * per + ((s.getF (SVC.TIMING_LATNOM st) * 1000 : Nat) : Rat)
    some (expected + ((s.getF (SVC.TIMING_FILLDL st) * 1000 : Nat) : Rat))
  | _, _ => none

/-- CK_PTP cycles until TOD reaches that deadline; 0: it has (R326). -/
def State.deadlineIn (s : State) (st tick : Nat) : Option Nat :=
  (s.deadline st tick).map fun d => s.todCycles (((d * (nsUnit : Rat)).ceil - (s.tab.tod : Int)).toNat)

/-- A stream's fill deadline for a tick passes (R326, R331). -/
def State.fillDeadline (s : State) (st tick : Nat) : State :=
  if ¬ s.holdsReady st then s
  else match s.needOut st tick, (s.stream st).inp with
    | some need, x :: _ =>
      if s.inputOf st need ≤ x.idx then s
      else
        let s := s.when (decide (s.streamSt st = .run)) (·.setStreamSt st .fill)
        (s.fillTo st 1024 need).onStream st fun r => { r with lateTicks := (tick :: r.lateTicks).take 8 }
    | _, _ => s

/-- The horizon of what the ticks before `tick` needed passes: what was not received is frozen (R332). -/
def State.horizonFreeze (s : State) (st tick : Nat) : State :=
  match (s.prevTick tick).bind (s.needOut st) with
    | none => s
    | some need =>
      let lim := s.inputOf st need
      (s.onStream st fun r => { r with
        inp := r.inp.map fun x => if x.idx ≤ lim ∧ x.st ≠ .received then { x with frozen := true } else x
        out := r.out.map fun x => if x.idx ≤ need ∧ x.st ≠ .received then { x with frozen := true } else x }).settle st

/-! ## Output samples -/

/-- One channel of an output sample before any force: value, validity, test, predicted mark, and what happened on the way. -/
structure OutVal where
  v : Int
  validity : Nat
  test : Bool
  pred : Bool
  sat : Bool
  old : Bool
  deriving DecidableEq, Repr

/-- An output sample that carries nothing. -/
def OutVal.invalid : OutVal := ⟨0, 1, false, false, false, false⟩

/-- The two sums of R361 joined by lambda. -/
def interpolate (a b lam : Int) : Int × Bool :=
  let r := a + rhe ((b - a) * lam) 16
  (rhe (sat48 r) 17, decide (sat48 r ≠ r))

/-- One channel of an output sample (R360 to R367, R376): channel `i` of the stream, position `p`; `steps` loads and
steps of TOD came before the grid instant. -/
def State.evalChannel (s : State) (st i : Nat) (p : Int) (steps : Nat) : OutVal :=
  let set_ := s.getF (SVC.RSCFG_ISET st)
  let phi := (p.fmod (2 ^ 26)).toNat / 2 ^ 16
  let lam : Int := p.fmod (2 ^ 16)
  let (lo, _) := s.readRange st p
  let out := (s.stream st).out.take historyLen
  let reads := (List.range (s.taps st)).map fun (k : Nat) => sampAt out (lo + (k : Int))
  let tooOld : Bool := match out.getLast? with
    | some x => decide (historyLen ≤ out.length ∧ lo < x.idx)
    | none => false
  let vals := reads.map fun x =>
    match x with
    | some y => y.ch.getD i ⟨0, 1, false, 0⟩
    | none => ⟨0, 1, false, 0⟩
  let sum (ph : Nat) := macSum (vals.zipIdx.map fun (x, k) => (s.coefAt (intCoefAddr set_ ph k), x.v)) 0 false
  let a := sum phi
  let b := sum (phi + 1)
  let r := interpolate a.1 b.1 lam
  let sat := a.2 || b.2 || r.2
  let stepped := reads.any fun x => x.any fun y => y.steps < steps
  let val := worstValidity (vals.map (·.validity))
  let val := if sat then worseValidity val 3 else val
  let val := if stepped then 1 else val
  ⟨if val = 1 then 0 else r.1, val, vals.any (·.test),
    reads.any (fun x => x.any fun y => y.st = .predicted), sat, tooOld⟩

/-- A sample of a stream that holds no readiness carries validity invalid (R325). -/
def OutVal.unready (v : OutVal) : OutVal := { v with v := 0, validity := 1 }

/-- The force in effect on a point (R453, R455). -/
def State.forceOn (s : State) (point : Nat) : Option Force := smapGet (fun _ => none) s.cyc.inForce point

/-- The identifier of an SV channel input (R452). -/
def channelPoint (c : Nat) : Nat := 2 ^ 28 + c

/-- What a force makes of a channel's output sample (R453). -/
def State.forced (s : State) (c : Nat) (v : OutVal) : OutVal :=
  match s.forceOn (channelPoint c) with
  | some f => { v with v := toSigned 32 f.value, validity := f.qv, test := false, pred := false }
  | none => v

/-- Where the sample windows lie (R337). -/
def sampleBase : Nat := 0x1000000000

/-- Write one slot of a channel: value, then quality entry (R337, R338, R341). -/
def State.writeSlot (s : State) (c i : Nat) (v : OutVal) : State :=
  let s := s.writeLe (sampleBase + c * 0x400 + i * 4) 4 (ofSigned 32 v.v)
  let a := sampleBase + 0x1000000 + c * 0x80 + i / 2
  let q := v.validity + b2n v.test * 4 + b2n v.pred * 8
  let old := (s.readByte a).toNat
  s.writeByte a (BitVec.ofNat 8 (if i % 2 = 0 then putBits old 3 0 q else putBits old 7 4 q))

/-- The timestamp entry of an instant in ns (R339). -/
def timestampWord (t : Int) : Nat := (t.fdiv 1000000000 % 4).toNat * 2 ^ 30 + (t.fmod 1000000000).toNat

/-- Streams with EN = 1. -/
def State.enabledStreams (s : State) : List Nat :=
  (s.listed (SVC.STRCFG 0) 0x40 2048).filter fun st => s.flag (SVC.STRCFG_EN st)

/-- A channel context belongs to an enabled stream. -/
def State.channelInUse (s : State) (c : Nat) : Bool :=
  s.enabledStreams.any fun st => decide (s.getF (SVC.STRCFG2_CH0 st) ≤ c ∧
    c < s.getF (SVC.STRCFG2_CH0 st) + s.getF (SVC.STRCFG_NCH st))

/-- Compute and write output sample `j` of a stream on grid `g` (R325, R358, R361, R365, R371, R376, R341): what it read. -/
def State.writeOutput (s : State) (st g j : Nat) (at_ : GridAt) : State × OutRec :=
  let ready := s.holdsReady st
  let live := decide (s.streamSt st ≠ .disabled)
  let own := if live then s.channels st else (s.channels st).filter fun c => decide (c < 16384) && !s.channelInUse c
  let chans := own.zipIdx.map fun (c, i) =>
    match (if live then s.position st c g at_ else none) with
    | some p =>
      let v := s.evalChannel st i p (s.tab.stepsAt at_.mono)
      (c, if ready then v else v.unready, some (s.readRange st p))
    | none => (c, OutVal.invalid, none)
  let s := chans.foldl (fun s (c, v, _) => s.writeSlot c (j % 256) (s.forced c v)) s
  let tau := at_.t - (s.rd (SVC.GD g) : Int)
  let s := s.writeLe (sampleBase + 0x1200000 + st * 0x400 + j % 256 * 4) 4 (timestampWord tau)
  let s := s.when (chans.any (·.2.1.sat)) (·.raise SVC.RS_FLAGS_SAT)
  let s := s.when (chans.any (·.2.1.old)) (·.raise SVC.RS_FLAGS_HISTORY)
  let ranges := chans.filterMap (·.2.2)
  let lo := (ranges.map (·.1)).foldl min ((ranges.head?.map (·.1)).getD 0)
  let hi := (ranges.map (·.2)).foldl max ((ranges.head?.map (·.2)).getD (-1))
  let read := ((s.stream st).out.take historyLen).filter fun (x : Samp) => decide (lo ≤ x.idx ∧ x.idx ≤ hi)
  let preds := (read.filter fun x => x.st = .predicted).map (·.idx)
  (s, { j := j
        at_ := at_
        tick := s.tickOf g j
        lo := lo
        hi := hi
        preds := preds
        wasPred := !preds.isEmpty
        corrected := read.any (·.corrected)
        invalid := chans.any fun (c, v, _) => (s.forced c v).validity = 1
        quest := chans.any fun (c, v, _) => (s.forced c v).validity = 3
        dirty := false })

/-- Every decimator output that output sample `j` reads is present (R366); a stream that holds no readiness waits for none
(R325). -/
def State.outputPresent (s : State) (st g : Nat) (at_ : GridAt) : Bool :=
  !s.holdsReady st || (s.channels st).all fun c =>
    match s.position st c g at_ with
    | none => true
    | some p =>
      match (s.stream st).out with
      | [] => false
      | x :: _ => decide ((s.readRange st p).2 ≤ x.idx)

/-- The next output sample of a stream. -/
def State.nextJ (s : State) (st g : Nat) : Nat := (s.stream st).jNext.getD (s.grid g).first

/-- One output sample of a stream is computed and written (R366): its number, when one was due and everything it reads is
there. -/
def State.resampleOutput (s : State) (st : Nat) : State × Option Nat :=
  match s.mapped st with
  | none => (s, none)
  | some g =>
    let j := s.nextJ st g
    match s.gridInstant g j with
    | none => (s, none)
    | some a =>
      if s.tab.mono < a.mono ∨ ¬ s.outputPresent st g a then (s, none)
      else
        let (s, r) := s.writeOutput st g j a
        let s := (s.wr (SVC.JLAST g) (j % 2 ^ 32)).onGrid g fun x => { x with last := some (max j (x.last.getD 0)) }
        (s.onStream st fun x => { x with
          jNext := some ((s.grid g).after j)
          outs := (r :: x.outs).take 256 }, some j)

/-- The slot of an output sample was written again by a later one (R340). -/
def Stream.overwritten (x : Stream) (j : Nat) : Bool :=
  (x.outs.takeWhile fun o => o.j ≠ j).any fun o => o.j % 256 = j % 256

/-- Output samples that read replaced samples are written again, unless their slot was overwritten (R333, R371). -/
def State.resampleRewrite (s : State) (st : Nat) : State :=
  match s.mapped st with
  | none => s
  | some g =>
    let todo := ((s.stream st).outs.filter (·.dirty)).reverse
    todo.foldl (fun s r =>
      if (s.stream st).overwritten r.j then
        s.onStream st fun x => { x with outs := x.outs.map fun o => if o.j = r.j then { o with dirty := false } else o }
      else
        let (s, r') := s.writeOutput st g r.j r.at_
        s.onStream st fun x => { x with outs := x.outs.map fun o =>
          if o.j = r.j then { r' with tick := o.tick, wasPred := o.wasPred, corrected := o.corrected || r'.corrected } else o }) s

/-! ## Readiness of a tick -/

/-- A stream has delivered a tick: everything the tick needs is written (R38). -/
def State.streamDelivered (s : State) (st tick : Nat) : Bool :=
  match s.mapped st with
  | none => true
  | some g =>
    if ¬ s.holdsReady st then true
    else
      let done : Bool := match s.lastOfTick g tick with
        | some j => decide (j < s.nextJ st g)
        | none => s.tickCrossed tick
      done

/-- No rewrite of a stream's output samples is pending (R333); a stream that no enabled grid takes has none. -/
def State.rewritten (s : State) (st : Nat) : Bool := (s.mapped st).isNone || (s.stream st).outs.all fun r => !r.dirty

/-- The output samples of a tick over a set of streams. -/
def State.tickOuts (s : State) (sts : List Nat) (tick : Nat) : List OutRec :=
  (sts.map fun st => (s.stream st).outs.filter fun r => r.tick = tick).flatten

/-- The verdict on a tick over a set of streams (R334): 0 NONE, 1 CONFIRMED, 2 CORRECTED, 3 UNRESOLVED. -/
def State.verdict (s : State) (sts : List Nat) (tick : Nat) : Nat :=
  let rs := s.tickOuts sts tick
  if ¬ rs.any (·.wasPred) then 0
  else if rs.any (·.corrected) then 2
  else if rs.any fun r => !r.preds.isEmpty then 3
  else 1

/-- Readiness came from a deadline on some stream of the set (R336). -/
def State.fromDeadline (s : State) (sts : List Nat) (tick : Nat) : Bool :=
  sts.any fun st => (s.stream st).lateTicks.contains tick

/-- The tick descriptor (R336). -/
def State.descriptor (s : State) (sts : List Nat) (tick : Nat) (verdict : Nat) : DWord :=
  let rs := s.tickOuts sts tick
  let ws := ((s.tab.tickWs.find? fun x => x.1 = tick).map (·.2)).getD s.tab.ws.num
  BitVec.ofNat 64 (tick % 2 ^ 32 * 2 ^ 32 + ws * 256 + b2n (s.fromDeadline sts tick) * 64 + b2n (rs.any (·.invalid)) * 32 +
    b2n (rs.any (·.quest)) * 16 + verdict * 4 + b2n (rs.any fun r => !r.preds.isEmpty))

/-! ## Registers of ingest -/

/-- A write that would change a structural field of an enabled stream leaves that field and sets CFG_REFUSED (R311). -/
def State.structuralWrite (s : State) (enabled : Bool) (mask a v : Nat) : State :=
  let old := s.rd a
  let new := s.plain a v
  if enabled then
    let kept := mixBits mask new old
    (s.wr a kept).when (decide (kept ≠ new)) (·.raise SVC.STATUS_CFG_REFUSED)
  else s.wr a new

/-- RATE, NCH, SYNCMODE, SIM and FILL_EN. -/
def strcfgMask : Nat := 7 * 2 ^ 28 + 31 * 2 ^ 23 + 3 * 2 ^ 18 + 2 ^ 17 + 2 ^ 16

/-- The sums of R313 over a list of streams: ASDUs, channel samples, streams at 96,000 Hz. -/
def State.loads (s : State) (sts : List Nat) : Nat × Nat × Nat :=
  ((sts.map s.rateHz).sum, (sts.map fun st => s.getF (SVC.STRCFG_NCH st) * s.rateHz st).sum,
    (sts.filter fun st => s.rateHz st = 96000).length)

/-- The sums as their registers report them (R313). -/
def State.noteLoads (s : State) : State :=
  let l := s.loads s.enabledStreams
  ((s.wr SVC.LOAD_ASDU l.1).wr SVC.LOAD_CHS l.2.1).wr SVC.LOAD_96K l.2.2

/-- Two channel ranges overlap. -/
def rangesMeet (a n b m : Nat) : Bool := decide (0 < n ∧ 0 < m ∧ a < b + m ∧ b < a + n)

/-- Enabling a stream is permitted (R312, R313). -/
def State.mayEnable (s : State) (st : Nat) : Bool :=
  let n := s.getF (SVC.STRCFG_NCH st)
  let c := s.getF (SVC.STRCFG2_CH0 st)
  let others := s.enabledStreams.filter (· ≠ st)
  let l := s.loads (st :: others)
  decide (1 ≤ n ∧ n ≤ 24 ∧ c + n ≤ 16384) &&
    others.all (fun o => !rangesMeet c n (s.getF (SVC.STRCFG2_CH0 o)) (s.getF (SVC.STRCFG_NCH o))) &&
    decide (others.length < 2048 ∧ l.1 ≤ 14745600 ∧ l.2.1 ≤ 117964800 ∧ l.2.2 ≤ 64)

/-- A stream's context is discarded (R314); its place on its grid stays. -/
def State.clearStream (s : State) (st : Nat) : State :=
  s.onStream st fun r => { jNext := r.jNext, outs := r.outs }

/-- A write of SVC_s_STRCFG (R311, R312, R314). -/
def State.strcfgWrite (s : State) (st v : Nat) : State :=
  let was := s.flag (SVC.STRCFG_EN st)
  let en := bit v 31
  let s := s.structuralWrite was strcfgMask (SVC.STRCFG st) v
  if en ∧ ¬ was then
    if s.mayEnable st then ((s.clearStream st).setStreamSt st .idle).noteLoads
    else (s.setF (SVC.STRCFG_EN st) 0).raise SVC.STATUS_CFG_REFUSED
  else if ¬ en ∧ was then ((s.clearStream st).setStreamSt st .disabled).noteLoads
  else s

/-- A write of SVC_s_STRCFG2, all of it structural (R311). -/
def State.strcfg2Write (s : State) (st v : Nat) : State :=
  s.structuralWrite (s.flag (SVC.STRCFG_EN st)) (2 ^ 32 - 1) (SVC.STRCFG2 st) v

/-- A write of SVC_c_CHCFG (R311, R345). -/
def State.chcfgWrite (s : State) (c v : Nat) : State :=
  s.structuralWrite (s.channelInUse c) (2 ^ 32 - 1) (SVC.CHCFG c) v

/-- A write to a word of a subscription entry (R309). The ingest of a frame is one step, so no ASDU is between match and
history when a write comes. -/
def State.subWrite (s : State) (e n w v : Nat) : State :=
  if s.svc.subAct = e then s.raise SVC.STATUS_EPOCH_REFUSED
  else s.plainWrite (SVC.SUB_W0 e n + 4 * w) v

/-- SVC_CMD.SUB_FLIP (R309). -/
def State.subFlip (s : State) : State := s.onSvc fun c => { c with subAct := 1 - c.subAct }

/-- SVC_CMD.CNT_CLR (R343). -/
def State.svcCntClr (s : State) : State :=
  let s := (s.wr SVC.NOMATCH 0).wr SVC.FMTERR 0
  { s with regs := smapMap regDefault (fun a v =>
      if SVC.MISSING 0 ≤ a ∧ a < SVC.STRCFG 2048 ∧ 0x20 ≤ (a - SVC.STRCFG 0) % 0x40 then 0 else v) s.regs }

/-! ## Registers of the resampler -/

/-- Streams mapped to a grid, enabled or not. -/
def State.streamsOf (s : State) (g : Nat) : List Nat :=
  (s.listed (SVC.RSCFG 0) 4 2048).filter fun st => s.flag (SVC.RSCFG_MAP st) && decide (s.getF (SVC.RSCFG_GRID st) = g)

/-- G_f of a stream in ns (R356). -/
def State.groupDelay (s : State) (st : Nat) : Rat :=
  s.decDelay st + ((s.taps st * s.ratio st : Nat) : Rat) * 1000000000 / (2 * (s.rateHz st : Rat))

/-- The maximum of R357 over the streams of a grid; 0 with none. -/
def State.gridNeed (s : State) (g : Nat) : Int :=
  let xs := ((s.streamsOf g).map fun st => (s.channels st).map fun c =>
    (s.groupDelay st + (s.phaseDelay c : Rat)).ceil).flatten
  match xs with
  | [] => 0
  | x :: xs => xs.foldl max x

/-- Output samples per second of a grid, for the load (R369). -/
def State.gridRate (s : State) (g : Nat) : Rat :=
  if s.isTimeGrid g then 1000000000 * 256 / (s.rd (SVC.PERIOD g) : Rat) else ((70 * s.gridPoints g : Nat) : Rat)

/-- The load of R369 in kMAC/s, rounded up. -/
def State.rsLoad (s : State) : Nat :=
  let gs := (List.range 16).filter s.gridOn
  let one (g st : Nat) : Rat :=
    let dec : Rat := if s.ratio st = 1 then 0 else s.outRate st * (s.decLen st : Rat)
    (s.getF (SVC.STRCFG_NCH st) : Rat) * (dec + s.gridRate g * ((2 * s.taps st : Nat) : Rat))
  ((((gs.map fun g => ((s.streamsOf g).map (one g)).sum).sum) / 1000).ceil).toNat

/-- A resampler write is refused (R370, R380 to R383). -/
def State.rsRefuse (s : State) : State := s.raise SVC.RS_FLAGS_REFUSED

/-- An enabled stream is mapped to a grid. -/
def State.gridBusy (s : State) (g : Nat) : Bool := (s.streamsOf g).any fun st => s.flag (SVC.STRCFG_EN st)

/-- Every stream of a grid begins at the first point after it was enabled. -/
def State.startStreams (s : State) (g : Nat) : State :=
  (s.streamsOf g).foldl (fun s st => s.onStream st fun r => { r with jNext := none, outs := [] }) s

/-- A write of SVC_g_GCFG (R357, R370, R383). -/
def State.gcfgWrite (s : State) (g v : Nat) : State :=
  let on := s.gridOn g
  let old := s.rd (SVC.GCFG g)
  let new := s.plain (SVC.GCFG g) v
  if on then
    if bit new 31 then
      s.when (decide (new ≠ old)) (·.rsRefuse)
    else
      let s := s.when (decide (new % 2 ^ 31 ≠ old % 2 ^ 31)) (·.rsRefuse)
      if s.gridBusy g then s.rsRefuse
      else (s.setF (SVC.GCFG_GEN g) 0).onGrid g fun _ => {}
  else if ¬ bit new 31 then s.wr (SVC.GCFG g) new
  else
    let try_ := s.wr (SVC.GCFG g) new
    let period := s.rd (SVC.PERIOD g)
    if (bit new 30 ∧ ¬ (8000000 ≤ period ∧ period ≤ 256000000)) ∨ 8000000 < try_.rsLoad then s.rsRefuse
    else
      let gd := (max (s.rd (SVC.GDMIN g) : Int) (try_.gridNeed g)).toNat
      let s := try_.wr (SVC.GD g) (gd % 2 ^ 25)
      (s.onGrid g fun _ => { first := s.gridFirst g }).startStreams g

/-- A write of GDMIN, PERIOD or BASE of a grid (R383). -/
def State.gridWrite (s : State) (g a v : Nat) : State := if s.gridOn g then s.rsRefuse else s.plainWrite a v

/-- A write that makes `new` of `s` raises no maximum of R357 above the fixed delay of an enabled grid (R380). -/
def State.delaysHold (s new : State) : Bool :=
  (List.range 16).all fun g => !new.gridOn g || decide (new.gridNeed g ≤ max (new.rd (SVC.GD g) : Int) (s.gridNeed g))

/-- Where a stream joins a grid: the first point at or after now that lies beyond the last one a time grid produced (R353, R377). -/
def State.gridJoin (s : State) (g : Nat) : Nat :=
  if s.isTimeGrid g then max (s.gridFirst g) (s.grid g).next else s.gridFirst g

/-- A write of SVC_s_RSCFG (R370, R380, R381). -/
def State.rscfgWrite (s : State) (st v : Nat) : State :=
  let a := SVC.RSCFG st
  let new := s.wr a (s.plain a v)
  let emptyI := decide (new.taps st = 0)
  let emptyD := decide (new.ratio st ≠ 1 ∧ new.decLen st = 0)
  let tooMuch := decide (8000000 < new.rsLoad ∧ s.rsLoad < new.rsLoad)
  if s.flag (SVC.STRCFG_EN st) ∨ emptyI ∨ emptyD ∨ tooMuch ∨ ¬ s.delaysHold new then s.rsRefuse
  else
    let g := new.getF (SVC.RSCFG_GRID st)
    new.onStream st fun r => { r with
      jNext := if new.mapped st = some g then some (new.gridJoin g) else none
      outs := [] }

/-- A write of SVC_c_PHDLY (R380). -/
def State.phdlyWrite (s : State) (c v : Nat) : State :=
  let a := SVC.PHDLY c
  let new := s.wr a (s.plain a v)
  if s.channelInUse c ∨ ¬ s.delaysHold new then s.rsRefuse else new

/-- A coefficient set is in use by an enabled stream on an enabled grid (R381). -/
def State.setInUse (s : State) (dec : Bool) (n : Nat) : Bool :=
  s.enabledStreams.any fun st => (s.mapped st).isSome &&
    (if dec then decide (s.getF (SVC.RSCFG_DSET st) = n) else decide (s.getF (SVC.RSCFG_ISET st) = n))

/-- A write of SVC_RS_ISET_i or SVC_RS_DSET_i (R381). -/
def State.setWrite (s : State) (dec : Bool) (n v : Nat) : State :=
  if s.setInUse dec n then s.rsRefuse else s.plainWrite (if dec then SVC.DSET n else SVC.ISET n) v

/-- The coefficient that SVC_RS_COEF_ADDR names (R384). -/
def coefKey (a : Nat) : Nat :=
  if bit a 31 then decCoefAddr (bits a 27 24) (bits a 5 0) else intCoefAddr (bits a 27 24) (bits a 15 5) (bits a 4 0)

/-- The last of a number of taps; of an empty set, the last that the address can name. -/
def lastTap (taps most : Nat) : Nat := if taps = 0 then most - 1 else taps - 1

/-- The address after an access: one tap on, past the last tap to tap 0 of the next phase (R382). -/
def State.coefNext (s : State) (a : Nat) : Nat :=
  if bit a 31 then
    let last := lastTap (s.getF (SVC.DSET_LEN (bits a 27 24))) 64
    if last ≤ bits a 5 0 then putBits a 5 0 0 else a + 1
  else
    let last := lastTap (if bits a 27 24 < 8 then tapsOf (s.getF (SVC.ISET_TAPS (bits a 27 24))) else 0) 32
    if last ≤ bits a 4 0 then putBits (putBits a 4 0 0) 15 5 (bits a 15 5 + 1) else a + 1

/-- A read or write of SVC_RS_COEF_DATA (R381, R382): the state, and what a read returns. -/
def State.coefAccess (s : State) (w : Option Nat) : State × Nat :=
  let a := s.rd SVC.COEF_ADDR
  let k := coefKey a
  let dec := bit a 31
  let n := bits a 27 24
  let val := smapGet (fun _ => 0) s.svc.coef k
  let s := match w with
    | none => s
    | some v =>
      if s.setInUse dec n ∨ (¬ dec ∧ (8 ≤ n ∨ 1024 < bits a 15 5)) then s.rsRefuse
      else s.onSvc fun c => { c with coef := smapSet (fun _ => 0) c.coef k (v % 2 ^ 18) }
  (s.wr SVC.COEF_ADDR (s.coefNext a), val)

/-- A load of the angle counter takes the angle grids to the first point at or after it (R97, R352). -/
def State.moveGrids (s : State) : State :=
  (List.range 16).foldl (fun s g =>
    if ¬ s.gridOn g ∨ s.isTimeGrid g then s
    else
      let j := s.gridFirst g
      (s.streamsOf g).foldl (fun s st => s.onStream st fun r => { r with jNext := r.jNext.map fun _ => j })
        (s.onGrid g fun y => { y with first := j })) s

/-- A load or step of TOD is noted at the point that was to come next; one that finds none produced since the last goes with it. -/
def Grid.skip (g : Grid) (resume_ : Nat) (before : Int) : Grid :=
  match g.last, g.skips with
  | none, _ => { g with first := resume_ }
  | some j, (f, r, b) :: rest =>
    if f = j + 1 then { g with skips := (f, resume_, b) :: rest } else { g with skips := ((j + 1, resume_, before) :: (f, r, b) :: rest).take 16 }
  | some j, [] => { g with skips := [(j + 1, resume_, before)] }

/-- A TOD load or step moves the time grids on (R377); `before` is the shift of TOD before it. -/
def State.skipGrids (s : State) (before : Int) : State :=
  (List.range 16).foldl (fun s g =>
    if ¬ s.gridOn g ∨ ¬ s.isTimeGrid g then s
    else
      let x := s.grid g
      let old := match x.last with
        | some j => x.after j
        | none => x.first
      let resume_ := max (s.gridFirst g) x.next
      let n := resume_ - old
      let s := s.onGrid g fun y => y.skip resume_ before
      let s := (s.streamsOf g).foldl (fun s st => s.onStream st fun r => { r with
        jNext := r.jNext.map fun j => if x.next ≤ j then resume_ else j }) s
      if 0 < n then (s.bumpBy (SVC.GTSKIP g) n).raise SVC.RS_FLAGS_TSKIP else s) s

/-- Something that may load or step TOD, and what the time grids make of that (R377). -/
def State.steps (s : State) (f : State → State) : State :=
  let s' := f s
  if s'.tab.stepCnt = s.tab.stepCnt then s' else s'.skipGrids s.tab.todShift

end Sys2Proof.Machine
end

