-- ==== Sys2Proof/Machine/CycBase.lean ====
section
/-!
DEFINITION. Machine/CycBase.lean: tenants, their windows (R394 to R397), event and supervisory queues (R401 to R408) and image
headers (R563): what PUB, SVC and the executives share.
-/

namespace Sys2Proof.Machine

/-- Change the cycle cluster. -/
def State.onCyc (s : State) (f : CycState → CycState) : State := { s with cyc := f s.cyc }

/-- A tenant. -/
def State.tenant (s : State) (t : Nat) : Tenant := smapGet (fun _ => {}) s.cyc.tenants t

/-- Change a tenant. -/
def State.onTenant (s : State) (t : Nat) (f : Tenant → Tenant) : State :=
  s.onCyc fun c => { c with tenants := smapUpd (fun _ => {}) c.tenants t f }

/-- A cycle core. -/
def State.core (s : State) (n : Nat) : CycCore := smapGet (fun _ => {}) s.cyc.cores n

/-- Change a cycle core. -/
def State.onCore (s : State) (n : Nat) (f : CycCore → CycCore) : State :=
  s.onCyc fun c => { c with cores := smapUpd (fun _ => {}) c.cores n f }

/-- The tenant states of R388. -/
inductive TenSt where
  | empty | stopped | active | faulted | resetting | moving
  deriving DecidableEq, Repr

/-- The number of a tenant state (R425). -/
def TenSt.num : TenSt → Nat
  | .empty => 0 | .stopped => 1 | .active => 2 | .faulted => 3 | .resetting => 4 | .moving => 5

/-- A tenant's state. -/
def State.tenSt (s : State) (t : Nat) : TenSt :=
  match s.getF (CYC.TSTATE_STATE t) with
  | 1 => .stopped | 2 => .active | 3 => .faulted | 4 => .resetting | 5 => .moving | _ => .empty

/-- The core a tenant is bound to (R420). -/
def State.coreOf (s : State) (t : Nat) : Nat := s.getF (CYC.TBIND_CORE t)

/-- A tenant's class. -/
def State.classOf (s : State) (t : Nat) : Nat := s.getF (CYC.TCFG_CLASS t)

/-- Tenants that the binding registers list as valid, in ascending number. -/
def State.validTenants (s : State) : List Nat :=
  (s.listed (CYC.TBIND 0) 0x100 1024).filter fun t => s.flag (CYC.TBIND_VALID t)

/-! ## Windows -/

/-- The kinds of window (R395). -/
inductive WinKind where
  | code | data | sample | stage | guard | sharedRo | sharedRw | scratch
  deriving DecidableEq, Repr

/-- The kind of a number. -/
def WinKind.ofNum : Nat → WinKind
  | 0 => .code | 1 => .data | 2 => .sample | 3 => .stage | 4 => .guard | 5 => .sharedRo | 6 => .sharedRw | _ => .scratch

/-- An enabled window: its tenant range and where it leads. -/
structure Win where
  lo : Nat
  hi : Nat
  pbase : Nat
  kind : WinKind
  deriving DecidableEq, Repr

/-- What four window words say (R394, R424): none when the window is disabled. -/
def winOf (w0 w1 w2 w3 : Nat) : Option Win :=
  if bit w0 0 then
    some ⟨bits w0 31 12 * 4096, bits w1 31 12 * 4096 + 4095, bits w3 7 0 * 2 ^ 32 + bits w2 31 12 * 4096,
      WinKind.ofNum (bits w3 18 16)⟩
  else none

/-- Window `w` of a tenant. -/
def State.win (s : State) (t w : Nat) : Option Win :=
  winOf (s.rd (CYC.WIN_W0 t w)) (s.rd (CYC.WIN_W1 t w)) (s.rd (CYC.WIN_W2 t w)) (s.rd (CYC.WIN_W3 t w))

/-- The enabled windows of a tenant. -/
def State.wins (s : State) (t : Nat) : List Win := (List.range 16).filterMap fun w => s.win t w

/-- A window holds a range of tenant addresses. -/
def Win.holds (w : Win) (a n : Nat) : Bool := decide (w.lo ≤ a ∧ a + n ≤ w.hi + 1)

/-- The window that contains an access (R394). -/
def State.winAt (s : State) (t a n : Nat) : Option Win := (s.wins t).find? fun w => w.holds a n

/-- Where scratch of a core begins (R50). -/
def scratchBase (core : Nat) : Nat := 0x2800000000 + core * 0x40000

/-- The physical address of a tenant address in a window (R394 to R396). -/
def State.physIn (s : State) (t : Nat) (w : Win) (a : Nat) : Nat :=
  (if w.kind = .scratch then scratchBase (s.coreOf t) else 0) + w.pbase + (a - w.lo)

/-- The physical end of a window, as an offset from its start. -/
def Win.size (w : Win) : Nat := w.hi + 1 - w.lo

/-- DRAM (R47). -/
def inDram (a n : Nat) : Bool := decide (a + n ≤ 0x400000000)

/-- The common SRAM that holds no SVC data (R337). -/
def inFreeSram (a n : Nat) : Bool := decide (0x1001400000 ≤ a ∧ a + n ≤ 0x1006000000)

/-- A window's physical range lies in the target of its kind (R395, R396). -/
def Win.targetOk (w : Win) : Bool :=
  match w.kind with
  | .code | .data | .sharedRo | .sharedRw => inDram w.pbase w.size || inFreeSram w.pbase w.size
  | .sample => decide (0x1000000000 ≤ w.pbase ∧ w.pbase + w.size ≤ 0x1001400000)
  | .stage | .guard => inFreeSram w.pbase w.size
  | .scratch => decide (w.pbase + w.size ≤ 0x10000)

/-! ## Event queue -/

/-- W2 of an event entry (R401, R339). -/
def evTod (ns : Nat) : Nat := timestampWord ns

/-- A tenant's dispatches become ready (R428): it is ACTIVE, or MOVING and returns to ACTIVE (R388, R422). -/
def State.runsOn (s : State) (t : Nat) : Bool :=
  s.tenSt t = .active || (s.tenSt t = .moving && (s.tenant t).move.any fun m => m.2 = 2)

/-- An event dispatch becomes ready when an entry is visible and no dispatch of the tenant runs or is preempted (R428, R430). -/
def State.eventReady (s : State) (t : Nat) : State :=
  let x := s.tenant t
  let trig := s.getF (CYC.TCFG_TRIG t)
  if s.runsOn t ∧ (trig = 1 ∨ trig = 2) ∧ x.evq ≠ [] ∧ x.disp.isNone ∧ x.eventAt.isNone ∧ ¬ x.initDue then
    s.onTenant t fun x => { x with eventAt := some s.tab.mono }
  else s

/-- An entry arrives at an event queue (R404): the answer says whether it was kept. -/
def State.evPut (s : State) (t : Nat) (e : EvEntry) : State × Bool :=
  let x := s.tenant t
  if x.evq.length < 64 then
    let e := if x.gap then { e with w0 := e.w0 ||| 2 ^ 28 } else e
    ((s.onTenant t fun x => { x with evq := x.evq ++ [e], gap := false }).eventReady t, true)
  else
    let s := s.onTenant t fun x => { x with gap := true }
    ((s.setF (CYC.TEVQ_CNT_LOST t) (min (s.getF (CYC.TEVQ_CNT_LOST t) + 1) 65535)).raise CYC.STATUS_EVQ_OVF, false)

/-- A tenant posts to its supervisory queue (R406, R407): whether it was queued. -/
def State.osqPut (s : State) (t : Nat) (code data0 data1 : Nat) : State × Bool :=
  if (s.tenant t).osq.length < 64 then
    let s := s.onTenant t fun x => { x with osq := x.osq ++ [⟨code % 65536, data0 % 2 ^ 32, data1 % 2 ^ 32, s.tab.tickNum⟩] }
    (s.setF ⟨SUP.DB (t / 32), t % 32, 1⟩ 1, true)
  else
    ((s.setF (CYC.TOSQ_CNT_LOST t) (min (s.getF (CYC.TOSQ_CNT_LOST t) + 1) 65535)).raise CYC.STATUS_OSQ_FULL, false)

/-- The tick number that a descriptor carries (R336). -/
def descTick (d : DWord) : Nat := d.toNat / 2 ^ 32

/-- PROV of a descriptor (R336). -/
def descProv (d : DWord) : Bool := bit d.toNat 0

/-- The next dispatch of a tenant that waits (R428, R430): INIT first, a tick before an event. -/
def State.pendingOf (s : State) (t : Nat) : Option (Int × DispKind × DWord) :=
  let x := s.tenant t
  if x.initDue then none
  else match x.initAt with
    | some a => some (a, .init, x.latest)
    | none =>
      match x.tickAt with
      | some (a, d) => some (a, .tick, d)
      | none => x.eventAt.map fun a => (a, .event, x.latest)

/-! ## Subscription sets -/

/-- The streams of a subscription range word (R399). -/
def State.subStreams (s : State) (w : Nat) : List Nat :=
  (List.range (bits w 6 0)).filterMap fun i =>
    let n := bits w 28 16 + i
    if n < 8192 ∧ s.flag (CYC.SUBL_EN n) then some (s.getF (CYC.SUBL_STREAM n)) else none

/-- The range word of a tenant's set in effect since the last tick boundary (R399, R400). -/
def State.subEff (s : State) (t : Nat) : Nat := ((s.tenant t).sets.head?.map (·.2.1)).getD 0

/-- The subscription set of a tenant in effect (R399). -/
def State.tenantStreams (s : State) (t : Nat) : List Nat := ((s.tenant t).sets.head?.map (·.2.2)).getD []

/-- The set over which tick `k` is evaluated: the one in effect at the boundary of tick k - 1 (R399). -/
def State.streamsFor (s : State) (t k : Nat) : List Nat :=
  (((s.tenant t).sets.find? fun x => decide (x.1 < k)).map (·.2.2)).getD []

/-- The streams of that set that count for readiness (R335). -/
def State.countingStreams (s : State) (t k : Nat) : List Nat := (s.streamsFor t k).filter s.holdsReady

/-- A set takes effect at the boundary of tick `k`. A set recorded for a later tick, before the counter was loaded, counts as old. -/
def noteSet (h : List (Nat × Nat × List Nat)) (k w : Nat) (sts : List Nat) : List (Nat × Nat × List Nat) :=
  let past := h.filter fun x => decide (x.1 < k)
  let past := if past.isEmpty then (h.head?.map fun x => (0, x.2)).toList else past
  if (past.head?.map (·.2)).getD (0, []) = (w, sts) then past else ((k, w, sts) :: past).take 16

/-- The subscription sets take effect at a tick boundary (R399). -/
def State.setsAct (s : State) : State :=
  let listed := s.listed (CYC.TSUB 0) 0x100 1024
  (listed ++ (s.cyc.tenants.map (·.1)).filter fun t => !listed.contains t).foldl (fun s t =>
    s.onTenant t fun x => { x with sets := noteSet x.sets s.tab.raised (s.rd (CYC.TSUB t)) (s.subStreams (s.rd (CYC.TSUB t))) }) s

/-! ## Image headers -/

/-- Bytes at a tenant address through windows of some kinds, when every byte has one. -/
def State.tenantBytes (s : State) (t a n : Nat) (ok : WinKind → Bool) : Option (List Byte) :=
  (List.range n).mapM fun i =>
    match s.winAt t (a + i) 1 with
    | some w => if ok w.kind then some (s.readByte (s.physIn t w (a + i))) else none
    | none => none

/-- The header address of a slot (R459). -/
def State.imageAt (s : State) (t slot : Nat) : Nat :=
  (if slot = 0 then s.getF (CYC.IMGA_HDR t) else s.getF (CYC.IMGB_HDR t)) * 64

/-- The active slot (R459). -/
def State.activeSlot (s : State) (t : Nat) : Nat := s.getF (CYC.XCHG_ACT t)

/-- A word of a slot's header (R563), read through a CODE window; 0 where none holds it. -/
def State.headerWord (s : State) (t slot off : Nat) : Nat :=
  match s.tenantBytes t (s.imageAt t slot + off) 4 (fun k => k = .code) with
  | some b => ofLe b
  | none => 0

/-- A slot's header lies in a CODE window (R461). -/
def State.headerOk (s : State) (t slot : Nat) : Bool :=
  match s.winAt t (s.imageAt t slot) 256 with
  | some w => decide (w.kind = .code)
  | none => false

/-- The point list of a slot (R565): empty when it cannot be read whole. -/
def State.pointList (s : State) (t slot : Nat) : List Nat :=
  let n := s.headerWord t slot 0x28
  let a := s.headerWord t slot 0x24
  if n = 0 ∨ 16384 < n then []
  else match s.tenantBytes t a (4 * n) (fun k => k = .code || k = .sharedRo) with
    | some b => (List.range n).map fun i => ofLe (sliceD 0 b (4 * i) 4)
    | none => []

end Sys2Proof.Machine
end

