-- ==== Sys2Proof/Machine/RdePort.lean ====
section
/-!
DEFINITION. Machine/RdePort.lean: the redundancy engine's source table and windows, and what it does at the ports (chapter 05).
-/

namespace Sys2Proof.Machine

/-- RDE_CFG.MODE (R245). -/
def State.rdeMode (s : State) : Nat := s.getF RDE.CFG_MODE

/-- A pair mode is selected (R245). -/
def State.pairMode (s : State) : Bool := decide (s.rdeMode = 3 ∨ s.rdeMode = 4)

/-- The lane carries the Halyard link (R135, R245). -/
def State.isHalyard (s : State) (p : Nat) : Bool := s.pairMode && decide (p = 8 ∨ p = 9)

/-- The port is LAN port A or B of a PRP mode: its LanId's low bit (R245, R251). -/
def State.lanOf (s : State) (p : Nat) : Option Bool :=
  if s.rdeMode = 1 then
    if p = s.getF RDE.CFG_PORTA then some false else if p = s.getF RDE.CFG_PORTB then some true else none
  else if s.rdeMode = 3 ∧ p = s.getF RDE.CFG_PORTA then some false
  else none

/-- The port is ring port A or B (R245). -/
def State.ringOf (s : State) (p : Nat) : Option Bool :=
  if s.rdeMode = 2 ∨ s.rdeMode = 4 then
    if p = s.getF RDE.CFG_PORTA then some false else if p = s.getF RDE.CFG_PORTB then some true else none
  else none

/-- The ports on which frames are numbered (R249, R265). -/
def State.lanMask (s : State) : Nat :=
  match s.rdeMode with
  | 1 | 2 | 4 => 2 ^ s.getF RDE.CFG_PORTA ||| 2 ^ s.getF RDE.CFG_PORTB
  | 3 => 2 ^ s.getF RDE.CFG_PORTA
  | _ => 0

/-- One number against a window (R257): the window after it, whether it is a duplicate, and whether it is older than the
window. -/
def windowCheck (w : DupWindow) (n : Nat) : DupWindow × Bool × Bool :=
  match w with
  | none => (some (n, 1), false, false)
  | some (top, map) =>
    let d := (n + 65536 - top % 65536) % 65536
    if 0 < d ∧ d < 32768 then (some (n, ((map <<< d) % 2 ^ 64) ||| 1), false, false)
    else
      let back := (top + 65536 - n % 65536) % 65536
      if back < 64 then
        if map.testBit back then (w, true, false) else (some (top, map ||| 2 ^ back), false, false)
      else (w, false, true)

/-- The bucket of a source address (R255). -/
def sourceBucket (mac : Nat) : Nat := macCrc 0 mac % 2048

/-- An entry of the source table. -/
def State.source (s : State) (i : Nat) : Option Source := smapGet (fun _ => none) s.rde.sources i

/-- Store an entry of the source table. -/
def State.setSource (s : State) (i : Nat) (x : Option Source) : State :=
  s.onRde fun r => { r with sources := smapSet (fun _ => none) r.sources i x }

/-- The entry of a source, learned into the lowest free way when it is new (R255); none when no way is free (R259). -/
def State.findSource (s : State) (mac : Nat) : Option (Nat × Source) :=
  let b := sourceBucket mac * 4
  let ways := [b, b + 1, b + 2, b + 3]
  match ways.find? fun i => (s.source i).any fun x => x.mac = mac with
  | some i => (s.source i).map fun x => (i, x)
  | none => (ways.find? fun i => (s.source i).isNone).map fun i => (i, ⟨mac, none, none, none⟩)

/-- Which window of a source a check uses (R255). -/
inductive WinSel where
  | deliver | fwdA | fwdB
  deriving DecidableEq, Repr

/-- A source's window. -/
def Source.win (x : Source) : WinSel → DupWindow
  | .deliver => x.deliver | .fwdA => x.fwdA | .fwdB => x.fwdB

/-- A source with one window replaced. -/
def Source.setWin (x : Source) (w : WinSel) (v : DupWindow) : Source :=
  match w with
  | .deliver => { x with deliver := v } | .fwdA => { x with fwdA := v } | .fwdB => { x with fwdB := v }

/-- Check a frame's number against a window of its source (R257, R259); true: a duplicate. -/
def State.dupCheck (s : State) (mac n : Nat) (sel : WinSel) : State × Bool :=
  match s.findSource mac with
  | none => ((s.bump RDE.NOSLOT).raise RDE.STATUS_NOSLOT, false)
  | some (i, x) =>
    let (w, dup, old) := windowCheck (x.win sel) n
    let s := s.setSource i (some (x.setWin sel w))
    (if old then s.bump RDE.OOW else s, dup)

/-- A proxied node of the active proxy epoch, by MAC address (R261). -/
def State.proxyIndex (s : State) (mac : Nat) : Option Nat :=
  if ¬ s.flag RDE.CFG_REDBOX then none
  else (List.range 512).find? fun m =>
    s.flag (RDE.PROXY_VALID s.rde.proxyAct m) && decide (s.getF (RDE.PROXY_MAC s.rde.proxyAct m) = mac)

/-- Addresses that stand for this module on the ring (R266): its station address, the pair address, its proxied nodes. -/
def State.isOwnMac (s : State) (mac : Nat) : Bool :=
  decide (s.rde.stationMac = some mac) || (s.pairMode && decide (s.rd RDE.PAIR_MAC = mac)) || (s.proxyIndex mac).isSome

/-- Bytes a ring egress's forward buffer holds (R268). -/
def State.ringBytes (s : State) (p : Nat) : Nat :=
  ((List.range 8).map fun c =>
    ((smapGet (fun _ => []) s.rde.ring (p * 8 + c)).map fun e => frameLen e.frame.bytes).sum).sum

/-- Queue a ring frame at its egress, or count it dropped (R268). -/
def State.ringPush (s : State) (egress : Nat) (toB : Bool) (e : RingEntry) : State :=
  if 131072 - s.ringBytes egress < s.getF (PCX.CFG_MAXLEN egress) + 6 then
    (s.bump (if toB then RDE.RFWD_DROPB else RDE.RFWD_DROPA)).raise RDE.STATUS_RFWD_DROP
  else s.onRde fun r => { r with
    ring := smapUpd (fun _ => []) r.ring (egress * 8 + e.frame.info.tc) (fun q => q ++ [e]) }

/-- The other ring port. -/
def State.otherRing (s : State) (isB : Bool) : Nat := if isB then s.getF RDE.CFG_PORTA else s.getF RDE.CFG_PORTB

/-- The counter of frames received with a trailer or tag on PORTA or PORTB (R300). -/
def rxRed (isB : Bool) : Nat := if isB then RDE.RXB else RDE.RXA

/-- RDE at a LAN port on receive (R252, R253). -/
def State.lanReceive (s : State) (isB : Bool) (f : Frame) : State × Frame :=
  match prpTrailer f.bytes with
  | none => (s, f)
  | some (seq, lan) =>
    let s := s.bump (rxRed isB)
    let s := if lan ≠ (if isB then 0xB else 0xA) then (s.bump RDE.WRONGLAN).raise RDE.STATUS_WRONG_LAN else s
    (s, { f with
      bytes := f.bytes.take (f.bytes.length - 6)
      info := { f.info with red := some ⟨frameSa f.bytes, seq, isB⟩ } })

/-- A tagged frame may cross this ring node (R266, R272): it is for others too, and no peer-delay message. -/
def State.crossesRing (s : State) (b : List Byte) : Bool :=
  (isGroup (frameDa b) || !s.isOwnMac (frameDa b)) &&
    match ptpAt b with
    | some h => !ptpIsPeer (ptpType b h)
    | none => true

/-- RDE at a ring port on receive (R266, R267): the state, and the frame for local delivery if any. -/
def State.ringReceive (s : State) (isB : Bool) (f : Frame) : State × Option Frame :=
  match hsrAt f.bytes with
  | none =>
    if frameDa f.bytes = 0x0180C200000E then (s, some f) else (s.bump RDE.UNTAG, none)
  | some o =>
    let s := s.bump (rxRed isB)
    let sa := frameSa f.bytes
    if s.isOwnMac sa then (s.bump RDE.OWN, none)
    else
      let seq := beAt f.bytes (o + 4) 2
      let (s, dup) := s.dupCheck sa seq (if isB then .fwdA else .fwdB)
      let s :=
        if dup then s.bump RDE.RFWD_DUP
        else if ¬ s.crossesRing f.bytes then s
        else s.ringPush (s.otherRing isB) (¬ isB) ⟨f, false⟩
      (s, some { bytes := removeHsr f.bytes o, info := { f.info with red := some ⟨sa, seq, isB⟩ } })

/-- RDE at the port on receive (R37): the frame that enters the receive FIFO, if any. -/
def State.rdeReceive (s : State) (p : Nat) (f : Frame) : State × Option Frame :=
  match s.ringOf p with
  | some isB => s.ringReceive isB f
  | none =>
    match s.lanOf p with
    | some isB => let r := s.lanReceive isB f; (r.1, some r.2)
    | none => (s, some f)

/-- What RDE adds on transmit (R251, R264): a trailer on a LAN port, a tag on a ring port, for a numbered frame. -/
def State.rdeTransmit (s : State) (p : Nat) (red : Option Nat) (b : List Byte) : List Byte :=
  match red with
  | none => b
  | some n =>
    match s.lanOf p with
    | some isB => addTrailer b n (if isB then 0xB else 0xA)
    | none =>
      match s.ringOf p with
      | some isB => addHsr b (s.getF RDE.CFG_NETID * 2 + b2n isB) n
      | none => b

end Sys2Proof.Machine
end

