-- ==== Sys2Proof/Machine/Pcx.lean ====
section
/-!
DEFINITION. Machine/Pcx.lean: the port complex of chapter 03: lanes and links, the receive side, PAUSE, the transmit timestamp
queue and the gate control lists.
-/

namespace Sys2Proof.Machine

/-! ## Lanes -/

/-- PCX_p_CFG.EN. -/
def State.laneEn (s : State) (p : Nat) : Bool := s.flag (PCX.CFG_EN p)

/-- The lane admits received frames (R133). -/
def PortState.admits (q : PortState) : Bool := decide (q.link = .up ∨ q.link = .rfault)

/-- The lane may start frames: it is in UP (R133) with its transmitter on, which Calm entry turns off (R134, R751). -/
def State.mayTransmit (s : State) (p : Nat) : Bool := decide ((s.port p).link = .up) && (s.port p).txOn && !s.sys.entering

/-- The lane moves to a link state; the STATUS bits of R132, R185 and R275 follow from where it leaves and arrives. A frame that
this cuts in transmission does not complete, so no counter counts it (R182). -/
def State.setLink (s : State) (p : Nat) (st : LinkState) : State :=
  let old := (s.port p).link
  let s := s.onPort p fun q => { q with link := st }
  let s := s.when (decide (old ≠ .up ∧ st = .up)) (·.raise (PCX.STATUS_LINK_UP p))
  let s := s.when (decide (old ≠ .rfault ∧ st = .rfault)) (·.raise (PCX.STATUS_RFAULT p))
  let s := s.when (decide (old ≠ .refused ∧ st = .refused)) (·.raise (PCX.STATUS_SPEED_REFUSED p))
  let s := s.when (decide ((old = .up ∨ old = .rfault) ∧ ¬ (st = .up ∨ st = .rfault)))
    (·.raise (PCX.STATUS_LINK_DOWN p))
  let s := s.when (decide ((old = .up ∨ old = .rfault) ∧ ¬ (st = .up ∨ st = .rfault)))
    (·.onPort p fun q => { q with sending := none, pauseDue := none })
  s.when (s.isHalyard p && decide (old = .up ∧ st ≠ .up)) (·.raise RDE.STATUS_LANE_DOWN)

/-- The lane hears no signal (R132). DESIGN CHOICE (log 131): EN = 0 and PLL loss take the lane's signal, lock and remote fault with
them. -/
def State.dropSignal (s : State) (p : Nat) : State :=
  s.onPort p fun q => { q with signal := false, sync := false, fecLock := false, rfRx := false }

/-- The lane's EN or MODE was written (R132, R134). -/
def State.laneFollow (s : State) (p : Nat) (was : Bool) : State :=
  let en := s.laneEn p
  if was ∧ ¬ en then
    ((s.setLink p .disabled).dropSignal p).onPort p fun q => { q with txOn := false }
  else if ¬ was ∧ en ∧ s.getF (PCX.CFG_MODE p) ≠ 0 then
    (s.setLink p .noSignal).onPort p fun q => { q with txOn := s.pcx.pllLock }
  else s

/-- A write to PCX_p_CFG (R127, R129, R132, R165, R166). -/
def State.pcxCfgWrite (s : State) (p v : Nat) : State :=
  let old := s.rd (PCX.CFG p)
  let was := s.laneEn p
  let keep (hi lo : Nat) (ok : Bool) (w : Nat) : Nat := if ok then putBits w hi lo (bits v hi lo) else w
  let mode := bits v 2 1
  let maxlen := bits v 27 14
  let pbusOld := bit old 5
  let pbus := bit v 5
  let w := keep 0 0 true old
  let w := keep 2 1 (!was && (decide (p < 8) || decide (mode < 2))) w
  let w := keep 3 3 (!was) w
  let w := keep 4 4 (!was) w
  let w := keep 5 5 true w
  let w := keep 27 14 (decide (64 ≤ maxlen ∧ maxlen ≤ 9216)) w
  let watermarks := decide (s.getF (PCX.PAUSE_HIWM p) ≤ s.getF (PCX.PAUSE_LOWM p))
  let pauseOk := !pbus && (!watermarks || bit old 6)
  let w := putBits w 6 6 (b2n (bit v 6 && pauseOk))
  let w := putBits w 7 7 (b2n (bit v 7 && !pbus))
  let refused := (pbus && !pbusOld) || (bit v 6 && !pauseOk) || (bit v 7 && pbus)
  let s := s.wr (PCX.CFG p) w
  let s := s.when refused (·.raise (PCX.STATUS_PAUSE_REFUSED p))
  let s := s.when (!bit w 6) (·.onPort p fun q => { q with pausing := false })
  s.laneFollow p was

/-- A write to PCX_p_PAUSE: the watermarks stand while PAUSE_EN = 1 (R166). -/
def State.pcxPauseWrite (s : State) (p v : Nat) : State :=
  let old := s.rd (PCX.PAUSE p)
  let w := putBits old 31 16 (bits v 31 16)
  s.wr (PCX.PAUSE p) (if s.flag (PCX.CFG_PAUSE_EN p) then w else putBits w 15 0 (bits v 15 0))

/-- The SerDes PLL loses lock (R128). -/
def State.pllLoss (s : State) : State :=
  let s := ({ s with pcx := { s.pcx with pllLock := false } }).raise PCX.BSTATUS_SDS_PLL_LOSS
  (List.range 10).foldl (fun s p =>
    if (s.port p).link = .disabled then s
    else ((s.setLink p .noSignal).dropSignal p).onPort p fun q => { q with txOn := false }) s

/-- The SerDes PLL relocks (R128). -/
def State.pllRelock (s : State) : State :=
  let s := { s with pcx := { s.pcx with pllLock := true } }
  (List.range 10).foldl (fun s p =>
    if s.laneEn p ∧ s.getF (PCX.CFG_MODE p) ≠ 0 then s.onPort p fun q => { q with txOn := true } else s) s

/-- Signal present for 10 µs (R132). -/
def State.signalDetect (s : State) (p : Nat) : State :=
  if (s.port p).link = .noSignal ∧ s.pcx.pllLock then
    (s.onPort p fun q => { q with signal := true }).setLink p .syncWait
  else s

/-- The lane negotiates: AN_EN = 1 in 1000BASE-X or SGMII (R127, R132). -/
def State.negotiates (s : State) (p : Nat) : Bool := s.flag (PCX.CFG_AN_EN p) && decide (2 ≤ s.getF (PCX.CFG_MODE p))

/-- Lock held for 100 µs (R132). LINK.SYNC shows the lock in whatever state; FEC is for H0 and H1 only (R131, R184). -/
def State.syncLock (s : State) (p : Nat) : State :=
  let locked := s.onPort p fun q => { q with sync := true, fecLock := s.flag (PCX.CFG_FEC p) && decide (8 ≤ p) }
  if (s.port p).link = .syncWait then locked.setLink p (if s.negotiates p then .an else .up)
  else if (s.port p).signal then locked
  else s

/-- The PCS loses lock (R132). -/
def State.syncLoss (s : State) (p : Nat) : State :=
  let adm := (s.port p).admits
  let s := s.onPort p fun q => { q with sync := false, fecLock := false, rfRx := false }
  if adm then s.setLink p .syncWait else s

/-- The lane loses its signal (R132). -/
def State.signalLoss (s : State) (p : Nat) : State :=
  match (s.port p).link with
  | .disabled | .noSignal => s
  | _ => (s.dropSignal p).setLink p .noSignal

/-- A negotiation result is accepted (R130). -/
def State.anAccepts (s : State) (p : Nat) (gig fullDuplex : Bool) : Bool :=
  fullDuplex && (gig || decide (s.getF (PCX.CFG_MODE p) ≠ 3))

/-- Autonegotiation ends with the partner's result (R130, R132). -/
def State.anComplete (s : State) (p : Nat) (gig fullDuplex : Bool) : State :=
  if (s.port p).link = .an then s.setLink p (if s.anAccepts p gig fullDuplex then .up else .refused) else s

/-- A REFUSED lane goes back to AN (R130, R132). -/
def State.anAgain (s : State) (p : Nat) : State := if (s.port p).link = .refused then s.setLink p .an else s

/-- Remote fault ordered sets arrive (R132). -/
def State.rfaultOn (s : State) (p : Nat) : State :=
  let s := s.onPort p fun q => { q with rfRx := true }
  if (s.port p).link = .up then s.setLink p .rfault else s

/-! ## Counters -/

/-- Add to a statistics counter; its CNTHALF bit sets when its bit 31 goes from 0 to 1 (R180). -/
def State.cntBy (s : State) (p off n : Nat) : State :=
  let a := 0x3000200000 + p * 0x10000 + off
  let old := s.rd a
  let new := (old + n) % 2 ^ 32
  let s := s.wr a new
  if bit new 31 ∧ ¬ bit old 31 then
    if off < 0x480 then s.setF ⟨PCX.CNTHALF0 p, (off - 0x400) / 4, 1⟩ 1
    else s.setF ⟨PCX.CNTHALF1 p, (off - 0x480) / 4, 1⟩ 1
  else s

/-- Count one event in the counter whose address an array function gives. -/
def State.cnt (s : State) (reg : Nat → Nat) (p : Nat) : State := s.cntBy p (reg 0 - 0x3000200000) 1

/-- The size counter of a length, counted from RX_64 or TX_64 (R191). -/
def sizeSlot (len : Nat) : Nat :=
  if len ≤ 64 then 0 else if len ≤ 127 then 1 else if len ≤ 255 then 2 else if len ≤ 511 then 3
  else if len ≤ 1023 then 4 else if len ≤ 1518 then 5 else 6

/-- The cast counters (R191): unicast, multicast, broadcast. -/
def castSlot (b : List Byte) : Nat := if frameDa b = broadcastMac then 2 else if isGroup (frameDa b) then 1 else 0

/-- The receive counters of a frame that passes R137 (R182). -/
def State.countRx (s : State) (p : Nat) (b : List Byte) : State :=
  let len := frameLen b
  let s := ((s.cntBy p 0x400 len).cnt PCX.RX_FRAMES p).cntBy p (0x408 + 4 * castSlot b) 1
  let s := s.when (hasTag b) (·.cnt PCX.RX_TAGGED p)
  s.cntBy p (0x41C + 4 * sizeSlot len) 1

/-- The transmit counters of a frame whose transmission completes (R182, R139). -/
def State.countTx (s : State) (p : Nat) (b : List Byte) (stomped : Bool) : State :=
  let len := frameLen b
  let s := ((s.cntBy p 0x480 len).cnt PCX.TX_FRAMES p).cntBy p (0x488 + 4 * castSlot b) 1
  let s := s.cntBy p (0x498 + 4 * sizeSlot len) 1
  s.when stomped (·.cnt PCX.TX_STOMP p)

/-- The transmission of a frame completes (R182). -/
def State.txDone (s : State) (p : Nat) : State :=
  match (s.port p).sending with
  | some x => (s.onPort p fun q => { q with sending := none }).countTx p x.bytes x.bad
  | none => s

/-! ## Receive FIFO and PAUSE -/

/-- Bytes the receive FIFO holds. -/
def PortState.level (q : PortState) : Nat := (q.rxFifo.map (·.1)).sum

/-- Send a PAUSE frame; it counts only in TX_PAUSE (R163). While the lane may start no frame it waits, the latest alone (R133). -/
def State.sendPause (s : State) (p quanta : Nat) : State :=
  if s.mayTransmit p then (s.cnt PCX.TX_PAUSE p).emit (.pause p quanta)
  else if (s.port p).link = .rfault then s.onPort p fun q => { q with pauseDue := some quanta }
  else s

/-- The lane may start frames again: a PAUSE frame that waited goes first (R133, R163). -/
def State.pauseCatchUp (s : State) (p : Nat) : State :=
  match (s.port p).pauseDue with
  | some n => (s.onPort p fun q => { q with pauseDue := none }).sendPause p n
  | none => s

/-- The FIFO level moved: PAUSE is sent above the high watermark and released at the low one (R162). -/
def State.pauseFollow (s : State) (p old : Nat) : State :=
  let lvl := (s.port p).level
  if ¬ s.flag (PCX.CFG_PAUSE_EN p) then s
  else if old ≤ 256 * s.getF (PCX.PAUSE_HIWM p) ∧ 256 * s.getF (PCX.PAUSE_HIWM p) < lvl then
    (s.onPort p fun q => { q with pausing := true }).sendPause p (s.getF (PCX.PAUSE_QUANTA p))
  else if 256 * s.getF (PCX.PAUSE_LOWM p) < old ∧ lvl ≤ 256 * s.getF (PCX.PAUSE_LOWM p) then
    (s.onPort p fun q => { q with pausing := false }).sendPause p 0
  else s

/-- The PAUSE frame repeats while the level stays above the low watermark (R162). -/
def State.pauseRepeat (s : State) (p : Nat) : State :=
  if s.flag (PCX.CFG_PAUSE_EN p) ∧ (s.port p).pausing ∧
      256 * s.getF (PCX.PAUSE_LOWM p) < (s.port p).level then s.sendPause p (s.getF (PCX.PAUSE_QUANTA p))
  else s

/-- A received PAUSE frame of some quanta (R164); on a Halyard lane PAUSE is inactive, and its counters keep counting (R135). -/
def State.rxPause (s : State) (p quanta : Nat) : State :=
  let s := s.cnt PCX.RX_PAUSE p
  if s.flag (PCX.CFG_RXPAUSE_EN p) ∧ ¬ s.isHalyard p then s.onPort p fun q => { q with paused := decide (quanta ≠ 0) }
  else s.cnt PCX.RX_PAUSE_DISC p

/-- 128 columns without remote fault (R132). -/
def State.rfaultOff (s : State) (p : Nat) : State :=
  let s := s.onPort p fun q => { q with rfRx := false }
  if (s.port p).link = .rfault then (s.setLink p .up).pauseCatchUp p else s

/-- A frame leaves the receive FIFO, in arrival order (R161): RDE at the port takes it, and what it leaves enters the switch core
(R140). -/
def State.rxDequeue (s : State) (p : Nat) : State :=
  match (s.port p).rxFifo with
  | [] => s
  | (_, f) :: rest =>
    let old := (s.port p).level
    let r := ((s.onPort p fun q => { q with rxFifo := rest }).pauseFollow p old).rdeReceive p f
    match r.2 with
    | some g => r.1.onSwc fun w => { w with toSwitch := w.toSwitch ++ [g] }
    | none => r.1

/-! ## Receive -/

/-- The lowest enabled translation entry of a direction whose FROM equals the VID (R148, R149). -/
def State.vxlat (s : State) (p : Nat) (egress : Bool) (vid : Nat) : Nat :=
  match (List.range 16).find? fun i => s.flag (PCX.VXLAT_EN p i) &&
      decide (s.getF (PCX.VXLAT_DIR p i) = b2n egress ∧ s.getF (PCX.VXLAT_FROM p i) = vid) with
  | some i => s.getF (PCX.VXLAT_TO p i)
  | none => vid

/-- PCX_p_PCPMAP at a PCP (R148). -/
def State.pcpClass (s : State) (p pcp : Nat) : Nat := s.getF ⟨PCX.PCPMAP p, 3 * pcp, 3⟩

/-- The receive tag stage (R147, R148): VID, PCP and class, or none when ACCEPT refuses the frame. -/
def State.rxTagStage (s : State) (p : Nat) (b : List Byte) : Option (Nat × Nat × Nat) :=
  let acc := s.getF (PCX.RXCTL_ACCEPT p)
  let tagged := hasTag b
  if (acc = 1 ∧ ¬ (tagged ∧ tagVid b ≠ 0)) ∨ (acc = 2 ∧ tagged ∧ tagVid b ≠ 0) then none
  else
    let vid := if tagged ∧ tagVid b ≠ 0 then tagVid b else s.getF (PCX.RXCTL_PVID p)
    let pcp := if tagged then tagPcp b else s.getF (PCX.RXCTL_DEFPCP p)
    some (s.vxlat p false vid, pcp, s.pcpClass p pcp)

/-- The fused constants of a lane in its present MODE, in 1/16 ns (R188): TXCAL above RXCAL. -/
def State.latcal (s : State) (p : Nat) : Nat := Config.latcal p (s.getF (PCX.CFG_MODE p)) % 2 ^ 32

/-- What is left of a lane's own latency once LATCAL is applied, in 2^-48 ns: within ±4 ns, at 1 Gbit/s within ±8 ns (R66, R152). -/
def State.stampError (s : State) (p : Nat) (tx : Bool) : Int :=
  let bound := if s.getF (PCX.CFG_MODE p) < 2 then 64 else 128
  let cal := toSigned 16 (if tx then bits (s.latcal p) 31 16 else bits (s.latcal p) 15 0)
  clampTo (-bound) bound (Config.laneDelay p (s.getF (PCX.CFG_MODE p)) tx s.tab.tod - cal) * 2 ^ 44

/-- A frame timestamp now, in ns: it refers to the balls, moved by RXADJ or TXADJ, and is truncated to 1 ns (R66, R152). -/
def State.stampNs (s : State) (p : Nat) (tx : Bool) : Nat :=
  let adj := toSigned 16 (s.rd (if tx then PCX.TXADJ p else PCX.RXADJ p)) * 2 ^ 44
  (((s.tab.tod : Int) + s.stampError p tx + adj) / 2 ^ 48).toNat

/-- Record a PTP event message that the local clock sends or terminates (R85). -/
def State.ptpRecord (s : State) (p : Nat) (b : List Byte) (tx : Bool) (ns : Nat) : State :=
  match ptpAt b with
  | none => s
  | some h =>
    if ptpIsEvent (ptpType b h) ∧ ptpDomain b h = s.getF TAB.PTP_CFG_DOMAIN then
      s.evqPush ⟨ptpSeq b h, ptpDomain b h, ptpType b h, p, tx, ns / 1000000000, ns % 1000000000⟩
    else s

/-- The quanta of a PAUSE frame (R164). -/
def pauseQuanta (b : List Byte) : Option Nat :=
  if frameDa b = 0x0180C2000001 ∧ beAt b 12 2 = 0x8808 ∧ beAt b 14 2 = 1 then some (beAt b 16 2) else none

/-- The checksum stage on receive (R143, R144). -/
def State.rxCsum (s : State) (p : Nat) (b : List Byte) : State × CsumRes × CsumRes :=
  if ¬ s.flag (PCX.RXCTL_CSUM_EN p) then (s, .none, .none)
  else
    let (ip, l4) := csumCheck b
    let s := s.when (decide (ip = .bad)) (·.cnt PCX.RX_IPHDR_ERR p)
    let s := s.when (decide (l4 = .bad)) fun s =>
      match ipv4At b with
      | some h => if beAt b (h + 9) 1 = 17 then s.cnt PCX.RX_UDP_ERR p else s.cnt PCX.RX_TCP_ERR p
      | none => s
    (s, ip, l4)

/-- The MAC's verdict on a received frame, in the order of R137: the counter of the first check that fails. -/
def State.macError (s : State) (p : Nat) (b : List Byte) (fcsOk codeErr : Bool) : Option (Nat → Nat) :=
  let len := frameLen b
  if codeErr then some PCX.RX_CODE_ERR
  else if len < 64 then some (if fcsOk then PCX.RX_RUNT else PCX.RX_FRAG)
  else if s.getF (PCX.CFG_MAXLEN p) + 6 < len then some PCX.RX_OVERSIZE
  else if ¬ fcsOk then some PCX.RX_FCS_ERR
  else none

/-! ## Transmit timestamp queue -/

/-- An entry enters the TSQ, or is the one lost when 64 are held (R155, R156). -/
def State.tsqPush (s : State) (p : Nat) (e : TsqEntry) : State :=
  if (s.port p).tsq.length < 64 then s.onPort p fun q => { q with tsq := q.tsq ++ [e] }
  else (s.onPort p fun q => { q with tsqLost := min (q.tsqLost + 1) 65535 }).raise (PCX.STATUS_TSQ_OVF p)

/-- A read of TSQ_W2 gives the head's ns and removes it (R157, R188). -/
def State.tsqPop (s : State) (who : Requester) (p : Nat) : State :=
  match (s.port p).tsq with
  | [] => s.respond who (.data 0)
  | e :: es => (s.onPort p fun q => { q with tsq := es }).respond who (.data (e.ns % 1000000000))

/-- CMD.TSQ_FLUSH (R159). -/
def State.tsqFlush (s : State) (p : Nat) : State := s.onPort p fun q => { q with tsq := [], tsqLost := 0 }

/-- CMD.CNT_CLR (R181). -/
def State.pcxCntClr (s : State) (p : Nat) : State :=
  s.zeroAll (((List.range 25).map fun n => 0x3000200400 + p * 0x10000 + 4 * n) ++
    ((List.range 16).map fun n => 0x3000200480 + p * 0x10000 + 4 * n) ++ [PCX.CNTHALF0 p, PCX.CNTHALF1 p])

/-! ## Gate control lists -/

/-- LEN of a port's epoch. -/
def State.gclLen (s : State) (p e : Nat) : Nat := s.getF (PCX.GCL_CFG_LEN p e)

/-- The entry whose gates stand (R169, R171, R172). -/
def State.gclEntry (s : State) (p : Nat) : Nat :=
  let g := (s.port p).gcl
  g.cur.getD (s.gclLen p g.act - 1)

/-- The gates of a port now, bit c open for class c (R169, R170). -/
def State.gates (s : State) (p : Nat) : Nat :=
  let g := (s.port p).gcl
  if ¬ s.flag (PCX.GCL_CTL_EN p) ∨ s.gclLen p g.act = 0 then 0xFF
  else s.getF (PCX.GCL_ENT_GATES p g.act (s.gclEntry p))

/-- A frame of a class is in transmission (R176). -/
def State.sendingClass (s : State) (p : Nat) : Option Nat :=
  match (s.port p).sending with
  | some x => if s.tab.mono < x.endAt then some x.cls else none
  | none => none

/-- The gates changed: a gate closing on a frame of its class counts the frame in TX_GATE_LATE, once (R176). -/
def State.gateFollow (s : State) (p old : Nat) : State :=
  match s.sendingClass p, (s.port p).sending with
  | some c, some x =>
    if bit old c ∧ ¬ bit (s.gates p) c ∧ ¬ x.late then
      ((s.onPort p fun q => { q with sending := some { x with late := true } }).cnt PCX.TX_GATE_LATE p).raise
        (PCX.STATUS_GATE_LATE p)
    else s
  | _, _ => s

/-- Change how a port's list runs, and look for gates that closed late. -/
def State.onGcl (s : State) (p : Nat) (f : GclRun → GclRun) : State :=
  let old := s.gates p
  (s.onPort p fun q => { q with gcl := f q.gcl }).gateFollow p old

/-- The drain count of an epoch (R177). -/
def GclRun.drain (g : GclRun) (e : Nat) : Nat := b2n (decide (g.act = e) || g.pending)

/-- A cycle starts at entry 0 (R171, R172). -/
def GclRun.start (now : Nat) (g : GclRun) : GclRun := { g with cur := some 0, since := now, ended := false, hold := false }

/-- The pending epoch takes effect (R179). -/
def State.gclTake (s : State) (p : Nat) (f : GclRun → GclRun) : State :=
  (s.onGcl p fun g => f { g with act := 1 - g.act, pending := false, cur := none, ended := false, hold := false }).raise
    (PCX.STATUS_GCL_FLIPPED p)

/-- A flip to the other epoch is refused (R178). -/
def State.gclFlipRefused (s : State) (p : Nat) : Bool :=
  let g := (s.port p).gcl
  let o := 1 - g.act
  let cycle := s.rd (PCX.GCL_CYCLE p o)
  g.pending || decide (s.gclLen p o = 0) ||
    (!s.flag (PCX.GCL_CFG_ANCHOR p o) && decide (cycle < 1000 ∨ 1000000000 < cycle))

/-- GCL_CTL.FLIP (R178, R179). -/
def State.gclFlip (s : State) (p : Nat) : State :=
  if s.gclFlipRefused p then s.raise (PCX.STATUS_GCL_REFUSED p)
  else if s.flag (PCX.GCL_CTL_EN p) then s.onPort p fun q => { q with gcl := { q.gcl with pending := true } }
  else s.gclTake p id

/-- A write of GCL_CTL.EN (R171, R172, R179). -/
def State.gclEnable (s : State) (p : Nat) (en : Bool) : State :=
  let was := s.flag (PCX.GCL_CTL_EN p)
  let old := s.gates p
  let s := s.setF (PCX.GCL_CTL_EN p) (b2n en)
  if en ∧ ¬ was then
    (s.onPort p fun q => { q with gcl := { q.gcl with
      cur := none, since := s.tab.ns, ended := false, hold := false } }).gateFollow p old
  else if ¬ en ∧ (s.port p).gcl.pending then s.gclTake p id
  else s

/-- A write of GCL_CTL (R179): EN first, then the flip. -/
def State.gclCtlWrite (s : State) (p : Nat) (en flip : Bool) : State :=
  let s := s.gclEnable p en
  if flip then s.gclFlip p else s

/-- A write to a register or entry of an epoch (R170, R177). -/
def State.gclEpochWrite (s : State) (p e : Nat) (w : GclWrite) : State :=
  if (s.port p).gcl.drain e = 1 then s.raise (PCX.STATUS_GCL_REFUSED p)
  else match w with
    | .base v => s.wr (PCX.GCL_BASE p e) v.toNat
    | .cycle v => s.wr (PCX.GCL_CYCLE p e) v.toNat
    | .cfg v =>
      let s := s.setF (PCX.GCL_CFG_ANCHOR p e) (bits v.toNat 31 31)
      if bits v.toNat 8 0 ≤ 256 then s.setF (PCX.GCL_CFG_LEN p e) (bits v.toNat 8 0) else s
    | .entry i v =>
      let s := s.setF (PCX.GCL_ENT_GATES p e i.val) (bits v.toNat 7 0)
      let time := bits v.toNat 39 8
      if 16 ≤ time ∧ time ≤ 1000000000 then s.setF (PCX.GCL_ENT_TIME p e i.val) time else s

/-- BASE of an epoch in ns of TOD (R171). -/
def State.gclBase (s : State) (p e : Nat) : Nat :=
  let w := s.rd (PCX.GCL_BASE p e)
  w / 2 ^ 32 * 1000000000 + w % 2 ^ 32

/-- CYCLE of an epoch in ns. -/
def State.gclCycle (s : State) (p e : Nat) : Nat := max (s.rd (PCX.GCL_CYCLE p e)) 1

/-- Epoch `e` of a port starts cycles by PTP time: gating is on, it is PTP-anchored, has entries, and is active or pending (R171,
R179). -/
def State.gclTimed (s : State) (p e : Nat) : Bool :=
  s.flag (PCX.GCL_CTL_EN p) && !s.flag (PCX.GCL_CFG_ANCHOR p e) && decide (s.gclLen p e ≠ 0) &&
    (decide ((s.port p).gcl.act = e) || (s.port p).gcl.pending)

/-- How far TOD has run into the cycle of epoch `e`, in the unit of TOD (R171). -/
def State.gclInto (s : State) (p e : Nat) : Nat :=
  (((s.tab.tod : Int) - (s.gclBase p e * nsUnit : Nat)) % ((s.gclCycle p e * nsUnit : Nat) : Int)).toNat

/-- CK_PTP cycles until the list of epoch `e` next starts a cycle (R171, R173, R179): at once where TOD stands at a start and no
cycle of it runs. -/
def State.cycleIn (s : State) (p e : Nat) : Option Nat :=
  let g := (s.port p).gcl
  if ¬ s.gclTimed p e then none
  else if s.gclInto p e = 0 ∧ (g.act ≠ e ∨ g.cur.isNone ∨ g.hold) then some 0
  else some (s.todCycles (s.gclCycle p e * nsUnit - s.gclInto p e))

/-- The list of epoch `e` starts a cycle now, at the instant BASE + n × CYCLE that TOD has reached (R171, R173, R174, R179). -/
def State.cycleStarts (s : State) (p e : Nat) : State :=
  let at_ := (s.tab.tod - s.gclInto p e) / nsUnit
  if ¬ s.gclTimed p e then s
  else if (s.port p).gcl.act = e then s.onGcl p (GclRun.start at_)
  else s.gclTake p (GclRun.start at_)

/-- A gate-anchor comparator fires for a port (R106, R172, R179). -/
def State.gclAnchor (s : State) (p : Nat) : State :=
  let s := s.onPort p fun q => { q with gcl := { q.gcl with fires := (s.tab.ns :: q.gcl.fires).take 2 } }
  let g := (s.port p).gcl
  let o := 1 - g.act
  if ¬ s.flag (PCX.GCL_CTL_EN p) then s
  else if g.pending ∧ s.flag (PCX.GCL_CFG_ANCHOR p o) then s.gclTake p (GclRun.start s.tab.ns)
  else if s.flag (PCX.GCL_CFG_ANCHOR p g.act) ∧ s.gclLen p g.act ≠ 0 then s.onGcl p (GclRun.start s.tab.ns)
  else s

/-- CK_PTP cycles until the current entry's TIME runs out (R170, R173); none while no entry's time runs. -/
def State.entryEndIn (s : State) (p : Nat) : Option Nat :=
  let g := (s.port p).gcl
  if ¬ s.flag (PCX.GCL_CTL_EN p) ∨ g.hold ∨ g.ended then none
  else g.cur.map fun i => s.todCycles ((g.since + s.getF (PCX.GCL_ENT_TIME p g.act i)) * nsUnit - s.tab.tod)

/-- The current entry's TIME has run out (R170, R171, R172, R173). -/
def State.entryEnds (s : State) (p : Nat) : State :=
  let g := (s.port p).gcl
  match s.entryEndIn p, g.cur with
  | some 0, some i =>
    if i + 1 < s.gclLen p g.act then
      let time := s.getF (PCX.GCL_ENT_TIME p g.act i)
      s.onGcl p fun g => { g with cur := some (i + 1), since := g.since + time }
    else s.onGcl p fun g => { g with ended := true }
  | _, _ => s

/-- Where a class's gate next closes, walking the entries from one that stands since `t` to the cycle's end and into the next
cycle of length `len` (R175). None: it does not close. -/
def State.closeWalk (s : State) (p e c : Nat) : Nat → Nat → Nat → Nat → Nat → Option Nat
  | 0, _, _, _, _ => none
  | fuel + 1, i, t, cycleEnd, len =>
    if ¬ bit (s.getF (PCX.GCL_ENT_GATES p e i)) c then some t
    else if i + 1 < s.gclLen p e ∧ t + s.getF (PCX.GCL_ENT_TIME p e i) < cycleEnd then
      s.closeWalk p e c fuel (i + 1) (t + s.getF (PCX.GCL_ENT_TIME p e i)) cycleEnd len
    else s.closeWalk p e c fuel 0 cycleEnd (cycleEnd + len) len

/-- The TOD in ns of a list's next cycle start, and the length of its cycles (R171, R175). -/
def State.nextCycle (s : State) (p : Nat) : Option (Nat × Nat) :=
  let g := (s.port p).gcl
  let now := s.tab.ns
  if s.flag (PCX.GCL_CFG_ANCHOR p g.act) then
    match g.fires with
    | a :: b :: _ => some (max (a + (a - b)) now, a - b)
    | _ => none
  else
    let base : Int := (s.gclBase p g.act : Int)
    let cycle := s.gclCycle p g.act
    some (now + (cycle - (((now : Int) - base) % (cycle : Int)).toNat), cycle)

/-- The TOD in ns at which a class's gate next closes; none: never, as far as the list and its prediction say (R175). -/
def State.nextClose (s : State) (p c : Nat) : Option Nat :=
  let g := (s.port p).gcl
  let n := s.gclLen p g.act
  if ¬ s.flag (PCX.GCL_CTL_EN p) ∨ n = 0 then none
  else
    let parked := g.cur.isNone || g.hold || g.ended
    let i := s.gclEntry p
    match s.nextCycle p with
    | some (ce, len) =>
      if parked then
        (if bit (s.getF (PCX.GCL_ENT_GATES p g.act i)) c then s.closeWalk p g.act c (n + 1) 0 ce (ce + len) len
         else some s.tab.ns)
      else s.closeWalk p g.act c (2 * n + 1) i g.since ce len
    | none =>
      if parked then (if bit (s.getF (PCX.GCL_ENT_GATES p g.act i)) c then none else some s.tab.ns)
      else s.closeWalk p g.act c (n - i) i g.since (g.since + 1000000000 * 257) 0

/-- Length of one byte on a lane in units of 10 ps (R127). -/
def State.byteTime (s : State) (p : Nat) : Nat :=
  if 8 ≤ p then 32 else if s.getF (PCX.CFG_MODE p) = 1 then 80 else 800

/-- A frame of a length may start for a class: its gate is open and its last FCS byte leaves by the next closing (R168,
R175). -/
def State.mayStart (s : State) (p c len : Nat) : Bool :=
  bit (s.gates p) c &&
    match s.nextClose p c with
    | none => true
    | some t => decide (s.tab.tod * 100 / nsUnit + (len + 8) * s.byteTime p ≤ t * 100)

/-! ## A frame arrives -/

/-- A lane's transmitter is free for a frame of a class: nothing is in transmission or holds it, and the gate allows a frame of a
length (R168, R175, R224). -/
def State.laneFree (s : State) (p c len : Nat) : Bool :=
  s.mayTransmit p && !(s.port p).paused && (s.sendingClass p).isNone && s.mayStart p c len

/-- A ring frame forwarded while it arrived, whose tail shows a bad FCS or a code error, is stomped at the egress (R270); the checks
of R266 that its head allows come first. It had begun only if nothing stood before it in the receive FIFO or its class's forward
queue, and the egress was free. -/
def State.ringTailBad (s : State) (p : Nat) (b : List Byte) : State :=
  match s.ringOf p, hsrAt b with
  | some isB, some o =>
    let e := s.otherRing isB
    let pcp := if hasTag b then tagPcp b else s.getF (PCX.RXCTL_DEFPCP p)
    let tc := s.pcpClass p pcp
    let waits : Bool := !(smapGet (fun _ => []) s.rde.ring (e * 8 + tc)).isEmpty || !(s.port p).rxFifo.isEmpty
    if s.flag RDE.CFG_RING_CT ∧ ¬ waits ∧ s.laneFree e tc (s.getF (PCX.CFG_MAXLEN e) + 6) ∧
        frameLen b ≤ s.getF (PCX.CFG_MAXLEN p) + 6 ∧ ¬ s.isOwnMac (frameSa b) ∧ s.crossesRing b then
      let (s, dup) := s.dupCheck (frameSa b) (beAt b (o + 4) 2) (if isB then .fwdA else .fwdB)
      if dup then s.bump RDE.RFWD_DUP
      else s.ringPush e (¬ isB) ⟨⟨b, { inPort := p, tc := tc, pcp := pcp }⟩, true⟩
    else s
  | _, _ => s

/-- Free space of the receive FIFO is short for a new frame (R160). -/
def State.fifoShort (s : State) (p : Nat) : Bool :=
  decide (65536 - (s.port p).level < s.getF (PCX.CFG_MAXLEN p) + 6)

/-- A frame that passed the MAC and was admitted goes through the checksum stage and the tag stage into the FIFO (R140); the local
clock terminates a PTP event message that no stage drops (R85). -/
def State.rxStages (s : State) (p : Nat) (b : List Byte) : State :=
  let ns := s.stampNs p false
  let mono := s.tab.mono + s.stampError p false + toSigned 16 (s.rd (PCX.RXADJ p)) * 2 ^ 44
  let (s, ip, l4) := s.rxCsum p b
  match s.rxTagStage p b with
  | none => s.cnt PCX.RX_TAG_DROP p
  | some (vid, pcp, tc) =>
    let info : FrameInfo :=
      { inPort := p, rxNs := ns, rxMono := mono, vid := vid, pcp := pcp, tc := tc, ipSum := ip, l4Sum := l4 }
    let old := (s.port p).level
    let s := s.ptpRecord p b false ns
    (s.onPort p fun q => { q with rxFifo := q.rxFifo ++ [(frameLen b, ⟨b, info⟩)] }).pauseFollow p old

/-- A frame arrives at a lane (R133, R135, R137, R140, R160, R182). -/
def State.rxFrame (s : State) (p : Nat) (b : List Byte) (fcsOk codeErr : Bool) : State :=
  if ¬ (s.port p).admits then s
  else
    let err := s.macError p b fcsOk codeErr
    let short := s.fifoShort p && !s.isHalyard p
    match err with
    | some c =>
      if short then (s.cnt PCX.RX_FIFO_DROP p).raise (PCX.STATUS_FIFO_DROP p)
      else (s.cnt c p).when (codeErr || !fcsOk) (·.ringTailBad p b)
    | none =>
      match pauseQuanta b with
      | some q => s.rxPause p q
      | none =>
        let s := s.countRx p b
        if s.isHalyard p then s
        else if short then (s.cnt PCX.RX_FIFO_DROP p).raise (PCX.STATUS_FIFO_DROP p)
        else s.rxStages p b

end Sys2Proof.Machine
end

