-- ==== Sys2Proof/Machine/Swc.lean ====
section
/-!
DEFINITION. Machine/Swc.lean: the switch core of chapter 04 (lookup, classifier, resequencer, packet buffer, epochs, mirroring)
and the transmit side of a port, from selection to the wire (chapters 02, 03, 05).
-/

namespace Sys2Proof.Machine

/-! ## Queues and the pool -/

/-- Egress queue (p, c) (R194). -/
def State.queue (s : State) (p c : Nat) : List QEntry := smapGet (fun _ => []) s.swc.queues (p * 8 + c)

/-- Replace an egress queue. -/
def State.setQueue (s : State) (p c : Nat) (q : List QEntry) : State :=
  s.onSwc fun w => { w with queues := smapSet (fun _ => []) w.queues (p * 8 + c) q }

/-- Cells counted for a queue (R212). -/
def State.used (s : State) (p c : Nat) : Nat := ((s.queue p c).map (·.cells)).sum

/-- MIN of a queue (R213). -/
def State.qMin (s : State) (q : Nat) : Nat := s.getF (SWC.QTHR_MIN (q / 8) (q % 8))

/-- K of a queue, signed (R213, R241). -/
def State.qK (s : State) (q : Nat) : Int := toSigned 4 (s.getF (SWC.QTHR_K (q / 8) (q % 8)))

/-- Every stored copy. -/
def SwcState.entries (w : SwcState) : List QEntry := (w.queues.map (·.2)).flatten

/-- Cells of distinct frames: a frame with several destinations is stored once, as far as some queue admitted it (R212, R214). -/
def distinctCells : List QEntry → Nat
  | [] => 0
  | e :: es => e.cells - ((es.filter fun x => x.fid = e.fid).map (·.cells)).foldl max 0 + distinctCells es

/-- The unused reserve of every queue (R213). -/
def State.unusedReserve (s : State) : Nat :=
  ((List.range 96).map fun q => s.qMin q - s.used (q / 8) (q % 8)).sum

/-- The pool's free count (R213). -/
def State.poolFree (s : State) : Nat := 65536 - distinctCells s.swc.entries - s.unusedReserve

/-- A queue admits one more cell (R214). -/
def admitCell (used min_ free : Nat) (k : Int) : Bool :=
  if used < min_ then true
  else if free = 0 then false
  else if 0 ≤ k then decide (used - min_ < free * 2 ^ k.toNat)
  else decide ((used - min_) * 2 ^ (-k).toNat < free)

/-- A queue's part in the admission of one frame: its number, the cells it held before, and the cell at which it refused. -/
structure Admit where
  q : Nat
  used : Nat
  refused : Option Nat
  deriving DecidableEq, Repr

/-- Cells a queue counts while cell number `k` of the frame is considered. -/
def Admit.now (a : Admit) (k : Nat) : Nat := if a.refused.isSome then a.used else a.used + k

/-- Admission of `n` more cells from cell `k` on, for each destination queue (R214, R215). `base` counts what the pool holds for
other frames and `rest` the unused reserve of the other queues. -/
def State.admitCells (s : State) (base rest : Nat) (stored : Bool) : Nat → Nat → List Admit → List Admit
  | 0, _, as => as
  | n + 1, k, as =>
    if as.all (·.refused.isSome) then as
    else
      let reserve := rest + (as.map fun a => s.qMin a.q - a.now k).sum
      let free := 65536 - (base + (if stored then 0 else k)) - reserve
      s.admitCells base rest stored n (k + 1)
        (as.map fun a => if a.refused.isNone ∧ ¬ admitCell (a.now k) (s.qMin a.q) free (s.qK a.q)
          then { a with refused := some k } else a)

/-- Admission of a frame of some cells for a set of queues (R214). -/
def State.admitFrame (s : State) (fid cells : Nat) (qs : List Nat) : List Admit :=
  let es := s.swc.entries
  let mine := es.any fun e => e.fid = fid
  let rest := (((List.range 96).filter fun q => ¬ qs.contains q).map fun q => s.qMin q - s.used (q / 8) (q % 8)).sum
  s.admitCells (distinctCells es) rest mine cells 0 (qs.map fun q => ⟨q, s.used (q / 8) (q % 8), none⟩)

/-! ## Lookup -/

/-- An entry of the address table: D0, D1, D2 (R199, R242). -/
def State.fdbEntry (s : State) (e i : Nat) : Nat × Nat × Nat := smapGet (fun _ => (0, 0, 0)) s.swc.fdb (e * 65536 + i)

/-- The key of an address table entry: valid, VID, MAC (R199). -/
def fdbKey (x : Nat × Nat × Nat) : Bool × Nat × Nat := (bit x.2.1 31, bits x.2.1 27 16, x.1 + bits x.2.1 15 0 * 2 ^ 32)

/-- The bucket of a key (R200). -/
def fdbBucket (vid mac : Nat) : Nat := macCrc vid mac % 16384

/-- The entry index of a valid key (R199, R200). -/
def State.fdbFind (s : State) (e vid mac : Nat) : Option Nat :=
  let b := fdbBucket vid mac * 4
  [b, b + 1, b + 2, b + 3].find? fun i => decide (fdbKey (s.fdbEntry e i) = (true, vid, mac))

/-- The lowest invalid way of a key's bucket. -/
def State.fdbFreeWay (s : State) (e vid mac : Nat) : Option Nat :=
  let b := fdbBucket vid mac * 4
  [b, b + 1, b + 2, b + 3].find? fun i => !(fdbKey (s.fdbEntry e i)).1

/-- Steps 1 to 3 of R201: the result and the class. -/
def State.tableLookup (s : State) (e vid da tc : Nat) : Nat × Nat :=
  let member := s.getF (SWC.VLAN_MEMBER e vid)
  if da = broadcastMac then (member, tc)
  else match s.fdbFind e vid da with
    | some i =>
      let d2 := (s.fdbEntry e i).2.2
      (bits d2 11 0 &&& member, if bit d2 15 then bits d2 14 12 else tc)
    | none => (if isGroup da then s.getF (SWC.VLAN_UMFLOOD e vid) else s.getF (SWC.VLAN_UUFLOOD e vid), tc)

/-- A classifier entry matches a frame (R204). -/
def State.clsMatch (s : State) (e n : Nat) (f : Frame) : Bool :=
  let w4 := s.rd (SWC.CLS_W4 e n)
  let da := s.getF (SWC.CLS_W0_DA_LO e n) + s.getF (SWC.CLS_W1_DA_HI e n) * 2 ^ 32
  let mask := s.getF (SWC.CLS_W2_DAMASK_LO e n) + s.getF (SWC.CLS_W3_DAMASK_HI e n) * 2 ^ 32
  s.flag (SWC.CLS_W5_EN e n) && bit w4 (16 + f.info.inPort) &&
    decide ((frameDa f.bytes ^^^ da) &&& mask = 0) &&
    (!bit w4 28 || decide (etherType f.bytes = s.getF (SWC.CLS_W1_ETYPE e n))) &&
    (!bit w4 29 || decide (beAt f.bytes (etherOff f.bytes + 2) 2 = s.getF (SWC.CLS_W3_APPID e n))) &&
    (!bit w4 30 || decide (f.info.vid = bits w4 11 0)) &&
    (!bit w4 31 || decide (f.info.pcp = bits w4 14 12))

/-- The lowest matching classifier entry acts (R205, R206): result, class, mirror. -/
def State.classify (s : State) (e : Nat) (f : Frame) (res tc : Nat) : Nat × Nat × Bool :=
  match (List.range 256).find? fun n => s.clsMatch e n f with
  | none => (res, tc, false)
  | some n =>
    let w5 := s.rd (SWC.CLS_W5 e n)
    let tc := if bit w5 27 then bits w5 26 24 else tc
    let res := if bits w5 29 28 = 1 then 0 else if bits w5 29 28 = 2 then bits w5 11 0 else res
    (res, tc, bit w5 30)

/-- Clear a port's bit of a mask. -/
def clearBit (m i : Nat) : Nat := if m.testBit i then m - 2 ^ i else m

/-- The ports RDE takes out of a result: the other LAN port, for a frame received on a LAN port (R254), and the other ring port,
for a frame delivered locally off the ring (R266, R267). -/
def State.lanBar (s : State) (f : Frame) (res : Nat) : Nat :=
  if s.rdeMode = 1 ∨ s.rdeMode = 2 ∨ s.rdeMode = 4 then
    if f.info.inPort = s.getF RDE.CFG_PORTA then clearBit res (s.getF RDE.CFG_PORTB)
    else if f.info.inPort = s.getF RDE.CFG_PORTB then clearBit res (s.getF RDE.CFG_PORTA)
    else res
  else res

/-- A frame's whole lookup (R201, R197, R254): result, class, mirror request of its classifier entry. -/
def State.lookup (s : State) (l : Lookup) : Nat × Nat × Bool :=
  let f := l.frame
  let (res, tc) := s.tableLookup l.fdbEp f.info.vid (frameDa f.bytes) f.info.tc
  let (res, tc, mir) := s.classify l.clsEp f res tc
  let res := clearBit res f.info.inPort
  let res := if etherType f.bytes = 0x88BA then res else clearBit res 10
  (s.lanBar f res, tc, mir)

/-- A frame from a port or HOST enters its pipeline (R207, R234): it takes a number and the active epochs; it stalls while 128 of
its port's frames are in lookup. -/
def State.pipelineEnter (s : State) (i : Nat) : State :=
  match s.swc.toSwitch.find? fun f => f.info.inPort = i with
  | none => s
  | some f =>
    if 128 ≤ (s.swc.looking.filter fun l => l.frame.info.inPort = i).length then s
    else s.onSwc fun w =>
      let n := smapGet (fun _ => 0) w.seqNext i
      { w with
        toSwitch := w.toSwitch.erase f
        seqNext := smapSet (fun _ => 0) w.seqNext i ((n + 1) % 256)
        looking := w.looking ++ [⟨w.nextFid, f, n, w.fdbAct, w.clsAct, s.rde.proxyAct⟩]
        nextFid := w.nextFid + 1 }

/-! ## Queueing -/

/-- A held result goes to a queue that its resequencer has not released for it (R209). -/
def Report.waitsFor (h : Report) (r : ReseqPort) (q : Nat) : Bool :=
  (h.dests.testBit (q / 8) && decide (h.tc = q % 8) || decide (h.copy = some q)) &&
    decide ((h.look.seq + 256 - r.exps.getD q 0 % 256) % 256 < 128)

/-- A frame that entered its pipeline before frame `fid` is held for a queue by a resequencer (R209, R223). -/
def State.heldFor (s : State) (e c fid : Nat) : Bool :=
  s.swc.reseq.any fun (_, r) => r.held.any fun h => h.waitsFor r (e * 8 + c) && decide (h.look.fid < fid)

/-- A frame of class 6 or 7 leaves by cut-through (R223); one in transmission has left its queue. -/
def State.cutsThrough (s : State) (e c fid : Nat) (mirror : Bool) : Bool :=
  decide (6 ≤ c) && s.flag (SWC.PCFG_CT_EN e) && (s.queue e c).all (·.begun) && !s.heldFor e c fid && !mirror

/-- A cut-through transmission of a port has begun and not ended. -/
def State.hasBegun (s : State) (e : Nat) : Bool := (List.range 8).any fun c => (s.queue e c).any (·.begun)

/-- An internal egress may hand a frame of a class over: its consumer returned a credit, and no higher class waits (R196, R305).
HOST's consumers return every credit at once. -/
def State.internalFree (s : State) (e c : Nat) : Bool :=
  (decide (e ≠ 10) || s.swc.ingest.isEmpty || decide (s.swc.ingest.length ≤ Config.ingestCredits)) &&
    (List.range 8).all fun k => decide (k ≤ c) || (s.queue e k).isEmpty

/-- A cut-through frame's transmission begins with its first cell: the egress is free and the gate lets it start (R196, R224). -/
def State.startsAtOnce (s : State) (e c : Nat) : Bool :=
  !s.hasBegun e && if 10 ≤ e then s.internalFree e c else s.laneFree e c (s.getF (PCX.CFG_MAXLEN e) + 6)

/-- Count a refused frame (R215). -/
def State.countRefused (s : State) (e c : Nat) : State := (s.bump (SWC.QDROP e c)).raise SWC.STATUS_THR_DROP

/-- The REQTAG a request takes at its port (R154); event messages and mirrored copies make none. -/
def State.takeTag (s : State) (e : Nat) (f : Frame) (mirror : Bool) : State × Option Nat :=
  let isEvent : Bool := match ptpAt f.bytes with
    | some h => ptpIsEvent (ptpType f.bytes h)
    | none => false
  if f.info.tsReq ∧ e < 10 ∧ ¬ mirror ∧ ¬ isEvent then
    (s.onPort e fun q => { q with nextTag := (q.nextTag + 1) % 256 }, some (s.port e).nextTag)
  else (s, none)

/-- One queue takes its copy of a frame, by what its admission gave (R215, R227, R229). -/
def State.enqueueOne (s : State) (l : Lookup) (red : Option Nat) (mirror : Bool) (c : Nat) (a : Admit) : State :=
  let e := a.q / 8
  let f := { l.frame with info := { l.frame.info with tc := c } }
  let cells := (frameLen f.bytes + 255) / 256
  let ct := s.cutsThrough e c l.fid mirror
  let begun := ct && s.startsAtOnce e c
  let bad := f.info.errMark || a.refused.isSome
  let s := s.when a.refused.isSome (·.countRefused e c)
  let (s, tag) := s.takeTag e f mirror
  if bad ∧ (¬ begun ∨ a.refused = some 0) then s
  else s.setQueue e c (s.queue e c ++
    [⟨l.fid, f, a.refused.getD cells, ct, begun, bad, mirror, l.fdbEp, l.clsEp, l.proxyEp, red, tag⟩])

/-- A frame is queued at some ports in one class (R212, R214). -/
def State.enqueue (s : State) (l : Lookup) (red : Option Nat) (mirror : Bool) (c : Nat) (ports : List Nat) : State :=
  let cells := (frameLen l.frame.bytes + 255) / 256
  (s.admitFrame l.fid cells (ports.map fun p => p * 8 + c)).foldl (fun s a => s.enqueueOne l red mirror c a) s

/-- Switch ports of a mask, in order. -/
def maskPorts (m : Nat) : List Nat := (List.range 12).filter fun p => m.testBit p

/-! ## RDE when a result leaves the resequencer -/

/-- The proxy ports: P ports other than the redundant ones, while REDBOX = 1 (R261). -/
def State.proxyMask (s : State) : Nat :=
  if s.flag RDE.CFG_REDBOX then
    ((List.range 8).filter fun p => decide (p ≠ s.getF RDE.CFG_PORTA ∧ p ≠ s.getF RDE.CFG_PORTB)).foldl
      (fun m p => m + 2 ^ p) 0
  else 0

/-- The proxied node a frame comes from, as epoch × 512 + entry (R261). -/
def State.proxySource (s : State) (l : Lookup) : Option Nat :=
  if s.proxyMask.testBit l.frame.info.inPort then
    ((List.range 512).find? fun m => s.flag (RDE.PROXY_VALID l.proxyEp m) &&
      decide (s.getF (RDE.PROXY_MAC l.proxyEp m) = frameSa l.frame.bytes)).map fun m => l.proxyEp * 512 + m
  else none

/-- A frame that stays with the next node: a peer-delay message, or one to the address of R267. -/
def staysLocal (b : List Byte) : Bool :=
  decide (frameDa b = 0x0180C200000E) || match ptpAt b with
    | some h => ptpIsPeer (ptpType b h)
    | none => false

/-- The destinations of a frame from HOST among the LAN and ring ports: a pair publication goes out on the module's own LAN port or
ring only (R276); a frame that enters the ring enters it on both ring ports (R265). -/
def State.redPorts (s : State) (l : Lookup) (dests : Nat) : Nat :=
  let info := l.frame.info
  let dests := if info.pairSeq.isSome || info.unnumbered then dests &&& (s.lanMask ||| 0xC00) else dests
  if (s.rdeMode = 2 ∨ s.rdeMode = 4) ∧ info.inPort = 11 ∧ dests &&& s.lanMask ≠ 0 ∧ ¬ staysLocal l.frame.bytes then
    dests ||| s.lanMask
  else dests

/-- The sequence number of a frame whose result names a LAN or ring port (R249, R250, R261, R279). -/
def State.redNumber (s : State) (l : Lookup) (dests : Nat) : State × Option Nat :=
  if dests &&& s.lanMask = 0 ∨ l.frame.info.unnumbered then (s, none)
  else match l.frame.info.pairSeq with
    | some n => (s, some n)
    | none =>
      match s.proxySource l with
      | some m =>
        let n := smapGet (fun _ => 0) s.rde.proxySeq m
        (s.onRde fun r => { r with proxySeq := smapSet (fun _ => 0) r.proxySeq m ((n + 1) % 65536) }, some n)
      | none =>
        if l.frame.info.inPort = 11 then
          (s.onRde fun r => { r with
            ownSeq := (r.ownSeq + 1) % 65536
            stationMac := some (frameSa l.frame.bytes) }, some s.rde.ownSeq)
        else (s, none)

/-- The duplicate check of a frame that carries a number (R256, R262): the destinations that stay. -/
def State.redCheck (s : State) (l : Lookup) (dests : Nat) : State × Nat :=
  match l.frame.info.red with
  | none => (s, dests)
  | some r =>
    let (s, dup) := s.dupCheck r.src r.seq .deliver
    if dup then
      let m := s.proxyMask ||| 0xC00
      (s.bump RDE.DUP, dests - (dests &&& m))
    else (s, dests)

/-- A frame whose result names H0 or H1 in a pair mode is discarded there (R247). -/
def State.halyardBar (s : State) (dests : Nat) : State × Nat :=
  if s.pairMode then
    let s := s.when (dests.testBit 8) (·.bump (SWC.PDOWN_DROP 8))
    let s := s.when (dests.testBit 9) (·.bump (SWC.PDOWN_DROP 9))
    (s, clearBit (clearBit dests 8) 9)
  else (s, dests)

/-! ## Resequencer -/

/-- The resequencers of an ingress port. -/
def State.reseq (s : State) (i : Nat) : ReseqPort := smapGet (fun _ => ReseqPort.fresh) s.swc.reseq i

/-- Change the resequencers of an ingress port. -/
def State.onReseq (s : State) (i : Nat) (f : ReseqPort → ReseqPort) : State :=
  s.onSwc fun w => { w with reseq := smapUpd (fun _ => ReseqPort.fresh) w.reseq i f }

/-- A number lies behind a queue's expected one (R209). -/
def seqPassed (n exp_ : Nat) : Bool := decide (128 ≤ (n + 256 - exp_ % 256) % 256)

/-- RDE handles a result once, when it first leaves a resequencer (R249, R256). -/
def State.leaveReseq (s : State) (r : Report) : State × Report :=
  if r.checked then (s, r)
  else
    let (s, dests) := s.redCheck r.look r.dests
    let (s, dests) := s.halyardBar dests
    let dests := s.redPorts r.look dests
    let (s, red) := s.redNumber r.look dests
    (s, { r with dests := dests, red := red, checked := true })

/-- The queues that take a result from their resequencers: those of its destinations and class take the frame, and the queue of its
mirrored copy takes the copy, stored and without redundancy data (R209, R231, R232); a Halyard
lane takes none (R247). -/
def State.release (s : State) (r : Report) (qs : List Nat) : State :=
  let s := s.enqueue r.look r.red false r.tc ((qs.filter fun q => q % 8 = r.tc ∧ r.dests.testBit (q / 8)).map (· / 8))
  match r.copy with
  | some q =>
    if qs.contains q then
      let l := { r.look with fid := s.swc.nextFid }
      let s := s.onSwc fun w => { w with nextFid := w.nextFid + 1 }
      if s.isHalyard (q / 8) then s.bump (SWC.PDOWN_DROP (q / 8)) else s.enqueue l none true (q % 8) [q / 8]
    else s
  | none => s

/-- Some held result is the expected one of some queue: release it there (R209). -/
def State.releaseLoop (s : State) (i : Nat) : Nat → State
  | 0 => s
  | fuel + 1 =>
    let rp := s.reseq i
    match rp.held.find? fun r => rp.exps.contains r.look.seq with
    | none => s
    | some r =>
      let (s, r') := s.leaveReseq r
      let qs := ((rp.exps.zipIdx).filter fun (x, _) => x = r.look.seq).map (·.2)
      let exps := rp.exps.map fun x => if x = r.look.seq then (x + 1) % 256 else x
      let held := (rp.held.map fun h => if h.look.fid = r.look.fid then r' else h).filter fun h =>
        exps.any fun x => !seqPassed h.look.seq x
      let s := s.onReseq i fun _ => ⟨exps, held⟩
      (s.release r' qs).releaseLoop i fuel

/-- A result is reported to every queue's resequencer (R208, R209): late ones are queued at once and counted. -/
def State.report (s : State) (i : Nat) (r : Report) : State :=
  let rp := s.reseq i
  let late := ((rp.exps.zipIdx).filter fun (x, _) => seqPassed r.look.seq x).map (·.2)
  if late.isEmpty then
    (s.onReseq i fun rp => { rp with held := rp.held ++ [r] }).releaseLoop i 12672
  else
    let s := (late.foldl (fun s q => s.bump (SWC.PRESEQ_LATE (q / 8))) s).raise SWC.STATUS_RESEQ
    let (s, r) := s.leaveReseq r
    let s := s.release r late
    let s := if late.length = 96 then s else s.onReseq i fun rp => { rp with held := rp.held ++ [r] }
    s.releaseLoop i 12672

/-- A queue gives up on a missing number (R209): it waited 2 µs with a later one held. -/
def State.reseqTimeout (s : State) (e c i : Nat) : State :=
  let rp := s.reseq i
  let q := e * 8 + c
  let x := rp.exps.getD q 0
  if rp.held.any (fun r => !seqPassed r.look.seq x) ∧ ¬ rp.held.any (fun r => r.look.seq = x) then
    let s := ((s.onReseq i fun rp => { rp with exps := modifyAt (fun y => (y + 1) % 256) q rp.exps }).bump
      (SWC.PRESEQ_TMO e)).raise SWC.STATUS_RESEQ
    s.releaseLoop i 12672
  else s

/-- The queue that a frame's mirrored copy goes to, if any (R230, R231, R232). -/
def State.mirrorQueue (s : State) (l : Lookup) (dests : Nat) (req : Bool) : Option Nat :=
  let ap := s.getF SWC.MIR_CFG_APORT
  let wanted := (s.getF SWC.MIR_CFG_INGMASK).testBit l.frame.info.inPort ||
    decide (dests &&& s.rd SWC.MIR_EG ≠ 0) || req
  if s.flag SWC.MIR_CFG_EN ∧ wanted ∧ ¬ dests.testBit ap then some (ap * 8 + s.getF SWC.MIR_CFG_MIR_TC) else none

/-- A lookup completes (R201, R203, R208); a parity error abandons it without a report. -/
def State.lookupDone (s : State) (i n : Nat) (parity : Bool) : State :=
  match s.swc.looking.find? fun l => l.frame.info.inPort = i ∧ l.seq = n with
  | none => s
  | some l =>
    let s := s.onSwc fun w => { w with looking := w.looking.erase l }
    if parity then (s.bump SWC.LOOKUP_ERR).raise SWC.STATUS_LOOKUP_ERR
    else
      let (res, tc, mir) := s.lookup l
      let s := s.when (decide (res = 0)) (·.bump (SWC.PNODEST i))
      s.report i ⟨l, res, tc, s.mirrorQueue l res mir, decide (res = 0), none⟩

/-! ## Drain counts and epochs -/

/-- Distinct frames among lookups and copies, by number. -/
def distinctCount : List Nat → Nat
  | [] => 0
  | x :: xs => (if xs.contains x then 0 else 1) + distinctCount xs

/-- Frames counted in the drain counts: in lookup, held for a queue that has not taken them, or in a queue, by a choice of epoch
(R235, R263); a mirrored copy is no frame of its own there. -/
def State.drainOf (s : State) (lk : Lookup → Nat) (qe : QEntry → Nat) (e : Nat) : Nat :=
  let a := (s.swc.looking.filter fun l => lk l = e).map (·.fid)
  let b := ((s.swc.reseq.map fun (_, r) => r.held.filter fun h =>
    (maskPorts h.dests).any (fun p => { h with copy := none }.waitsFor r (p * 8 + h.tc)) && decide (lk h.look = e)).flatten).map
      (·.look.fid)
  let c := (s.swc.entries.filter fun x => !x.mirror ∧ qe x = e).map (·.fid)
  distinctCount (a ++ b ++ c)

/-- Drain count of a forwarding epoch (R235). -/
def State.fdbDrain (s : State) (e : Nat) : Nat := s.drainOf (·.fdbEp) (·.fdbEp) e

/-- Drain count of a classifier epoch (R235). -/
def State.clsDrain (s : State) (e : Nat) : Nat := s.drainOf (·.clsEp) (·.clsEp) e

/-- Drain count of a proxy epoch (R263). -/
def State.proxyDrain (s : State) (e : Nat) : Nat := s.drainOf (·.proxyEp) (·.proxyEp) e

/-- A forwarding epoch takes writes (R236). -/
def State.fdbOpen (s : State) (e : Nat) : Bool := decide (e ≠ s.swc.fdbAct ∧ s.fdbDrain e = 0)

/-- A classifier epoch takes writes (R236). -/
def State.clsOpen (s : State) (e : Nat) : Bool := decide (e ≠ s.swc.clsAct ∧ s.clsDrain e = 0)

/-- A write to a VLAN or classifier entry (R236, R243). -/
def State.swcTableWrite (s : State) (e : Nat) (w : SwcWrite) : State :=
  match w with
  | .vlan v x =>
    if s.fdbOpen e then s.wr (SWC.VLAN e v.val) (x.toNat &&& 0xFFF0FFF0FFF) else s.raise SWC.STATUS_EPOCH_REFUSED
  | .cls n k x =>
    if ¬ s.clsOpen e then s.raise SWC.STATUS_EPOCH_REFUSED
    else
      let v := x.toNat
      match k.val with
      | 0 => s.wr (SWC.CLS_W0 e n.val) v
      | 1 => s.wr (SWC.CLS_W1 e n.val) v
      | 2 => s.wr (SWC.CLS_W2 e n.val) v
      | 3 => s.wr (SWC.CLS_W3 e n.val) v
      | 4 => s.wr (SWC.CLS_W4 e n.val) (v &&& 0xFFFF7FFF)
      | _ =>
        let w := v &&& 0xFF000FFF
        let w := if bits v 29 28 = 3 then putBits w 29 28 (s.getF (SWC.CLS_W5_ACTION e n.val)) else w
        s.wr (SWC.CLS_W5 e n.val) w

/-- Store the result of an address table command that wrote, deleted or found an entry (R242). -/
def State.fdbResult (s : State) (index code : Nat) : State := s.wr SWC.FDB_RES (index * 2 ^ 16 + code * 2)

/-- Store the result of an address table command that did not: RES.INDEX keeps its value (R242). -/
def State.fdbCode (s : State) (code : Nat) : State := s.fdbResult (s.getF SWC.FDB_RES_INDEX) code

/-- Store an address table entry. -/
def State.fdbPut (s : State) (e i : Nat) (x : Nat × Nat × Nat) : State :=
  s.onSwc fun w => { w with fdb := smapSet (fun _ => (0, 0, 0)) w.fdb (e * 65536 + i) x }

/-- D0 to D2 as an entry (R242). -/
def State.fdbData (s : State) : Nat × Nat × Nat := (s.rd SWC.FDB_D0, s.rd SWC.FDB_D1, s.rd SWC.FDB_D2)

/-- An address table command that stores or clears is refused in an epoch that is in use: CODE 3 (R236, R242). -/
def State.fdbGuard (s : State) (e : Nat) (f : State → State) : State :=
  if s.fdbOpen e then f s else (s.fdbCode 3).raise SWC.STATUS_EPOCH_REFUSED

/-- A command of the address table leaves its OP, EPOCH and INDEX in SWC_FDB_CMD (R242); one without an index leaves INDEX as it
stands. It completes in its own step, so BUSY is never seen. -/
def State.fdbNote (s : State) (op e : Nat) (index : Option Nat) : State :=
  ((s.setF SWC.FDB_CMD_OP op).setF SWC.FDB_CMD_EPOCH e).setF SWC.FDB_CMD_INDEX (index.getD (s.getF SWC.FDB_CMD_INDEX))

/-- FDB READ (R242). -/
def State.fdbRead (s : State) (e i : Nat) : State :=
  let x := s.fdbEntry e i
  (((s.wr SWC.FDB_D0 x.1).wr SWC.FDB_D1 x.2.1).wr SWC.FDB_D2 x.2.2).fdbCode 0

/-- FDB WRITE (R242). -/
def State.fdbWrite (s : State) (e i : Nat) : State := s.fdbGuard e fun s => (s.fdbPut e i s.fdbData).fdbResult i 0

/-- VID and MAC of the key in D0 and D1 (R242). -/
def State.fdbCmdKey (s : State) : Nat × Nat := (fdbKey s.fdbData).2

/-- FDB INSERT (R242): VALID = 1 whatever D1 holds; at the matching key, else the lowest invalid way. -/
def State.fdbInsert (s : State) (e : Nat) : State :=
  s.fdbGuard e fun s =>
    let (vid, mac) := s.fdbCmdKey
    let x := (s.rd SWC.FDB_D0, putBits (s.rd SWC.FDB_D1) 31 31 1, s.rd SWC.FDB_D2)
    match s.fdbFind e vid mac with
    | some i => (s.fdbPut e i x).fdbResult i 0
    | none =>
      match s.fdbFreeWay e vid mac with
      | some i => (s.fdbPut e i x).fdbResult i 0
      | none => s.fdbCode 2

/-- FDB DELETE (R242). -/
def State.fdbDelete (s : State) (e : Nat) : State :=
  s.fdbGuard e fun s =>
    let (vid, mac) := s.fdbCmdKey
    match s.fdbFind e vid mac with
    | some i => (s.fdbPut e i (0, 0, 0)).fdbResult i 0
    | none => s.fdbCode 1

/-- FDB SEARCH (R242). -/
def State.fdbSearch (s : State) (e : Nat) : State :=
  let (vid, mac) := s.fdbCmdKey
  match s.fdbFind e vid mac with
  | some i => s.fdbResult i 0
  | none => s.fdbCode 1

/-- A write of a queue's MIN and K (R217, R241). -/
def State.thrWrite (s : State) (p c v : Nat) : State :=
  let k := bits v 19 16
  let m := bits v 12 0
  let s := if 4 ≤ k ∧ k ≤ 11 then s else s.setF (SWC.QTHR_K p c) k
  if m < 1 ∨ 4096 < m then s
  else
    let others := (((List.range 96).filter fun q => q ≠ p * 8 + c).map fun q => s.qMin q).sum
    if 32768 < others + m then s.raise SWC.STATUS_CFG_REFUSED else s.setF (SWC.QTHR_MIN p c) m

/-! ## Transmit -/

/-- The transmit tag stage (R149, R804, R150). -/
def State.txTagStage (s : State) (p : Nat) (info : FrameInfo) (b : List Byte) : List Byte :=
  let vid := s.vxlat p true info.vid
  let pvid := s.getF (PCX.RXCTL_PVID p)
  let keep := overlay b 14 (beBytes 2 (beAt b 14 2 / 4096 * 4096 + vid % 4096))
  let drop := removeAt b 12 4
  match s.getF (PCX.TXCTL_EGMODE p) with
  | 1 => if hasTag b then (if vid = pvid then drop else keep) else b
  | 2 => if hasTag b then drop else b
  | 3 =>
    if hasTag b then keep
    else insertAt b 12 (beBytes 2 0x8100 ++ beBytes 2 (info.tc * 8192 + pvid))
  | _ => if hasTag b then keep else b

/-- A copy as its port would send it, before checksums and padding (R140, R222). -/
def State.asSent (s : State) (p : Nat) (e : QEntry) : List Byte :=
  let b := if e.mirror then e.frame.bytes else s.rdeTransmit p e.red e.frame.bytes
  s.txTagStage p e.frame.info b

/-- A frame is too long for an egress (R222). -/
def State.tooLong (s : State) (p : Nat) (b : List Byte) : Bool := decide (s.getF (PCX.CFG_MAXLEN p) + 6 < frameLen b)

/-- Transparent clock is selected (R83). -/
def State.isTc (s : State) : Bool := decide (s.getF TAB.PTP_CFG_ROLE = 2)

/-- The term of R86 and R87 in 2^-16 ns: scaled residence time plus ingress peer delay. DESIGN CHOICE (log 16): how the scaled
residence time is rounded to 2^-16 ns is open. -/
def State.tcTerm (s : State) (inPort rxNs txNs : Nat) : Int :=
  let res : Int := ((txNs : Int) - rxNs)
  let ratio := toSigned 32 (s.rd TAB.TC_RATIO)
  roundOpen ((res : Rat) * 65536 * (1 + (ratio : Rat) / (65536 * 1000000000))) +
    ((s.rd (TAB.PDELAY inPort) : Int) + toSigned 32 (s.rd (TAB.ASYM inPort))) * 65536

/-- The transparent clock's work on a frame it forwards (R86, R88): the bytes, or none when a Follow_Up is dropped. PRESUMED
(log 31): networkTimeInaccuracy wraps modulo 2^32, and the first IEEE_C37_238 TLV of an Announce is corrected. -/
def State.tcForward (s : State) (p : Nat) (info : FrameInfo) (b : List Byte) (txNs : Nat) : State × Option (List Byte) :=
  match ptpAt b with
  | none => (s, some b)
  | some h =>
    if ¬ s.isTc ∨ 10 ≤ info.inPort ∨ ptpDomain b h ≠ s.getF TAB.PTP_CFG_DOMAIN then (s, some b)
    else
      let term := s.tcTerm info.inPort info.rxNs txNs
      let pend := smapGet (fun _ => []) s.tab.tcPend p
      let setPend (s : State) (q : List TcPending) : State :=
        s.onTab fun t => { t with tcPend := smapSet (fun _ => []) t.tcPend p q }
      match ptpType b h with
      | 0 =>
        if ptpTwoStep b h then
          let q := if 16 ≤ pend.length then pend.drop 1 else pend
          (setPend s (q ++ [⟨ptpSeq b h, ptpSource b h, term⟩]), some b)
        else (s, some (ptpCorrect b h term))
      | 8 =>
        match pend.find? fun x => x.seqId = ptpSeq b h ∧ x.source = ptpSource b h with
        | some x => (setPend s (pend.erase x), some (ptpCorrect b h x.corr))
        | none => ((s.bump (TAB.FUDROP p)).raise TAB.STATUS_FU_DROP, none)
      | 11 =>
        if s.flag TAB.PTP_CFG_TC_TLV then
          match c37Field b.length b (h + 64) with
          | some o => (s, some (overlay b o (beBytes 4 ((beAt b o 4 + s.rd TAB.TC_INACC) % 2 ^ 32))))
          | none => (s, some b)
        else (s, some b)
      | _ => (s, some b)

/-- The transmit checksum stage (R145). -/
def State.txCsum (s : State) (p : Nat) (info : FrameInfo) (b : List Byte) : State × List Byte :=
  if info.csumIns ∧ s.flag (PCX.TXCTL_CSUM_EN p) then
    match csumInsert b with
    | some c => (s, c)
    | none => (s.cnt PCX.TX_CSUM_SKIP p, b)
  else (s, b)

/-- A one-step Sync of the local clock takes its own transmit timestamp as originTimestamp, with twoStepFlag 0 (R83). PRESUMED (log
133): IEEE 1588-2019 gives the places; the spec says only that ONESTEP_TX selects it. -/
def State.oneStep (s : State) (b : List Byte) (txNs : Nat) : List Byte :=
  match ptpAt b with
  | some h =>
    if s.flag TAB.PTP_CFG_ONESTEP_TX ∧ ptpType b h = 0 ∧ ptpDomain b h = s.getF TAB.PTP_CFG_DOMAIN then
      overlay (overlay b (h + 6) (beBytes 1 (beAt b (h + 6) 1 &&& 0xFD))) (h + 34)
        (beBytes 6 (txNs / 1000000000) ++ beBytes 4 (txNs % 1000000000))
    else b
  | none => b

/-- A frame goes out on a lane: PTP work, checksums, padding, timestamps (R138, R139, R151 to R155); its counters count when it is out
(R182). `cut` is where a cut-through frame found too long ends (R222); a mirrored copy goes out as it entered SWC (R232). PRESUMED (log
133): of TAB_PTP_CFG and TAB_p_PORT only ONESTEP_TX changes a frame here; PDELAY_EN is stored for software. -/
def State.putOnWire (s : State) (p c : Nat) (info : FrameInfo) (b : List Byte) (bad : Bool) (tag : Option Nat)
    (cut : Option Nat) (asEntered : Bool) : State :=
  let txNs := s.stampNs p true
  let (s, b?) := if asEntered then (s, some b) else s.tcForward p info (if info.inPort = 11 then s.oneStep b txNs else b) txNs
  match b? with
  | none => s
  | some b =>
    let (s, b) := if asEntered then (s, b) else s.txCsum p info b
    let b := match cut with
      | some n => b.take n
      | none => padTo 60 b
    let s := if info.inPort = 11 ∧ ¬ asEntered then s.ptpRecord p b true txNs else s
    let s := match tag with
      | some t => s.tsqPush p ⟨t, bad, txNs⟩
      | none => s
    let endAt := s.tab.mono + (((frameLen b + 8) * s.byteTime p * nsUnit / 100 : Nat) : Int)
    (s.onPort p fun q => { q with sending := some ⟨c, endAt, b, bad, false⟩ }).emit (.frame p b bad s.tab.ns)

/-- A frame found bad waits at other queues that have not begun to send it: it is discarded there (R229). -/
def State.dropElsewhere (s : State) (fid : Nat) : State :=
  s.onSwc fun w => { w with queues := smapMap (fun _ => []) (fun _ q => q.filter fun e => e.fid ≠ fid || e.begun) w.queues }

/-- Where a frame that leaves by cut-through ends when it is found too long (R222). -/
def State.cutAt (s : State) (p : Nat) (long : Bool) : Option Nat := if long then some (s.getF (PCX.CFG_MAXLEN p) + 2) else none

/-- A frame's length as sent exceeds MAXLEN + 6 (R222), or its egress stomps it (R228): the counters. -/
def State.countBad (s : State) (p : Nat) (long bad : Bool) : State :=
  let s := s.when long fun s => (s.bump (SWC.PLEN_DROP p)).raise SWC.STATUS_LEN_DROP
  s.when bad fun s => (s.bump (SWC.PSTOMP p)).raise SWC.STATUS_STOMP

/-- Send an entry of a switch queue (R139, R222, R227 to R229); `parity`: a cell of it carries an uncorrectable parity error. -/
def State.sendSwitch (s : State) (p c : Nat) (parity : Bool) (e : QEntry) : State :=
  let b := s.asSent p e
  let long := s.tooLong p b
  let bad := e.bad || long || parity
  let s := s.setQueue p c ((s.queue p c).erase e)
  let s := (s.countBad p long bad).when parity (·.dropElsewhere e.fid)
  s.putOnWire p c e.frame.info b bad e.reqTag (s.cutAt p long) e.mirror

/-- The forwarded frames of a class at a ring egress. -/
def State.ringQueue (s : State) (p c : Nat) : List RingEntry := smapGet (fun _ => []) s.rde.ring (p * 8 + c)

/-- A forwarded frame as its ring port sends it: it keeps its tag (R149, R266). -/
def State.ringSent (s : State) (p : Nat) (e : RingEntry) : List Byte := s.txTagStage p e.frame.info e.frame.bytes

/-- Take the head off a ring-forward queue. -/
def State.ringPop (s : State) (p c : Nat) : State :=
  s.onRde fun r => { r with ring := smapUpd (fun _ => []) r.ring (p * 8 + c) (fun q => q.drop 1) }

/-- Send the head of a ring-forward queue (R222, R269, R270). -/
def State.sendRing (s : State) (p c : Nat) (e : RingEntry) : State :=
  let b := s.ringSent p e
  let long := s.tooLong p b
  ((s.ringPop p c).countBad p long (e.bad || long)).putOnWire p c e.frame.info b (e.bad || long) none (s.cutAt p long) false

/-- The length that the gate guard takes for a forwarded frame (R175, R270). -/
def State.ringGuard (s : State) (p : Nat) (e : RingEntry) : Nat :=
  if s.flag RDE.CFG_RING_CT then s.getF (PCX.CFG_MAXLEN p) + 6 else frameLen (s.ringSent p e)

/-- Whether a class's head may start (R168, R175, R222, R269, R270): none, or whether it is a forwarded frame. -/
def State.headStarts (s : State) (p c : Nat) : Option Bool :=
  match s.ringQueue p c with
  | e :: _ =>
    if e.bad ∨ (s.flag RDE.CFG_RING_CT ∨ ¬ s.tooLong p (s.ringSent p e)) ∧ s.mayStart p c (s.ringGuard p e) then some true else none
  | [] =>
    match s.queue p c with
    | [] => none
    | e :: _ =>
      let b := s.asSent p e
      if e.begun ∨ e.ct ∧ s.mayStart p c (s.getF (PCX.CFG_MAXLEN p) + 6) then some false
      else if ¬ e.ct ∧ ¬ s.tooLong p b ∧ s.mayStart p c (frameLen (padTo 60 b)) then some false else none

/-- The frame that transmission selection starts next (R168): the class, and whether it is a forwarded one. A cut-through frame that
has begun goes on; else it is the highest class whose head may start. -/
def State.selected (s : State) (p : Nat) : Option (Nat × Bool) :=
  let classes := [7, 6, 5, 4, 3, 2, 1, 0]
  match classes.find? fun c => (s.ringQueue p c).head?.any (·.bad) with
  | some c => some (c, true)
  | none =>
    match classes.find? fun c => (s.queue p c).any (·.begun) with
    | some c => some (c, false)
    | none => classes.findSome? fun c => (s.headStarts p c).map fun ring => (c, ring)

/-- Start the frame that was selected. -/
def State.startSelected (s : State) (p : Nat) (parity : Bool) : Nat × Bool → State
  | (c, true) => match s.ringQueue p c with
    | e :: _ => s.sendRing p c e
    | [] => s
  | (c, false) => match ((s.queue p c).find? (·.begun)).or (s.queue p c).head? with
    | some e => s.sendSwitch p c parity e
    | none => s

/-- Transmission selection (R168) on a lane that may start frames, is not held by PAUSE and has nothing in transmission. -/
def State.txStart (s : State) (p : Nat) (parity : Bool) : State :=
  if ¬ s.mayTransmit p ∨ (s.port p).paused ∨ s.isHalyard p then s
  else ((s.selected p).map (s.startSelected p parity)).getD s

/-- A forwarded ring frame starts, where transmission selection comes to it (R168, R269, R270). -/
def State.ringStart (s : State) (p : Nat) : State :=
  match s.selected p with
  | some (_, true) => s.txStart p false
  | _ => s

/-! ## Discards and internal egress -/

/-- Remove a queue's head when a condition on it holds. -/
def State.dropHead (s : State) (p c : Nat) (ok : QEntry → Bool) (count : State → State) : State :=
  match s.queue p c with
  | [] => s
  | e :: es => if ok e then count (s.setQueue p c es) else s

/-- The head of a queue of a port that is not up is discarded (R220); in Lull, that of an INGEST queue (R740). -/
def State.downDrop (s : State) (p c : Nat) : State :=
  if (p < 10 ∧ (s.port p).link ≠ .up ∧ (s.port p).link ≠ .rfault) ∨ (p = 10 ∧ s.sys.power = .lull) then
    s.dropHead p c (fun _ => true) (·.bump (SWC.PDOWN_DROP p))
  else s

/-- The head waited AGELIM ms (R221). -/
def State.ageDrop (s : State) (p c : Nat) : State :=
  if s.getF SWC.CFG_AGELIM = 0 then s
  else s.dropHead p c (fun _ => true) fun s => (s.bump (SWC.PAGE_DROP p)).raise SWC.STATUS_AGE_DROP

/-- A stored head too long for its egress (R222), be it a forwarded ring frame or a frame of the switch queue. -/
def State.lenDrop (s : State) (p c : Nat) : State :=
  if 10 ≤ p then s
  else match s.ringQueue p c with
  | e :: _ =>
    if ¬ s.flag RDE.CFG_RING_CT ∧ ¬ e.bad ∧ s.tooLong p (s.ringSent p e) then (s.ringPop p c).countBad p true false else s
  | [] => s.dropHead p c (fun e => !e.ct && s.tooLong p (s.asSent p e)) fun s =>
    (s.bump (SWC.PLEN_DROP p)).raise SWC.STATUS_LEN_DROP

/-- The next frame of an internal egress, while its consumer has returned a credit (R196): one that has begun by cut-through, else by
strict priority. A frame found bad its consumer drops (R227 to R229); `parity`: a cell of it carries an uncorrectable parity error. -/
def State.popInternal (s : State) (p : Nat) (parity : Bool) : State × Option Frame :=
  let classes := [7, 6, 5, 4, 3, 2, 1, 0]
  let next := (classes.findSome? fun c => ((s.queue p c).find? (·.begun)).map fun e => (c, e)).or
    (classes.findSome? fun c => (s.queue p c).head?.map fun e => (c, e))
  match next with
  | none => (s, none)
  | some (c, e) =>
    if ¬ (e.begun || s.internalFree p c) then (s, none)
    else
      let s := s.setQueue p c ((s.queue p c).erase e)
      let bad := e.bad || parity
      ((s.countBad p false bad).when parity (·.dropElsewhere e.fid), if bad then none else some e.frame)

/-- A frame from HOST enters the switch (R195): its VID is that of its tag, or 0. -/
def State.hostToSwitch (s : State) (b : List Byte) (tc : Nat) (info : FrameInfo) : State :=
  let f : Frame := ⟨b, { info with inPort := 11, vid := tagVid b, pcp := tagPcp b, tc := tc }⟩
  s.onSwc fun w => { w with toSwitch := w.toSwitch ++ [f] }

/-! ## Port reset -/

/-- The class L fields of port `p` return to their reset values (R30, R220). -/
def isPortField (p : Nat) (r : RegDesc) (is : List Nat) (f : FieldDesc) : Bool :=
  decide (f.cls = .l ∧ is.head? = some p) && decide (0x3000100000 ≤ r.base ∧ r.base < 0x3000400000)

/-- PTR of port `p` (R220): its fields of class L, its lane and stages, then every frame queued to it. -/
def State.portReset (s : State) (p : Nat) : State :=
  let hal := s.isHalyard p && decide ((s.port p).link = .up)
  let s := { s with regs := smapMap regDefault (resetWord (isPortField p)) s.regs }
  let s := s.onPort p fun _ => {}
  let s := s.when hal (·.raise RDE.STATUS_LANE_DOWN)
  let n := ((List.range 8).map fun c => (s.queue p c).length).sum
  let s := (List.range 8).foldl (fun s c => (s.setQueue p c []).onRde fun r =>
    { r with ring := smapSet (fun _ => []) r.ring (p * 8 + c) [] }) s
  s.bumpBy (SWC.PDOWN_DROP p) n

end Sys2Proof.Machine
end

