-- ==== Sys2Proof/Machine/Pub.lean ====
section
/-!
DEFINITION. Machine/Pub.lean: publications, their states, numbers, repeats and frames, held trips, sampled-value publications,
received GOOSE and the SAFE_OUT lines (chapter 12, R276 to R280).
-/

namespace Sys2Proof.Machine

/-! ## Publications and their entries -/

/-- Change PUB's own state. -/
def State.onPub (s : State) (f : PubBlock → PubBlock) : State := { s with pub := f s.pub }

/-- One publication's state. -/
def State.pb (s : State) (n : Nat) : Pub := smapGet (fun _ => {}) s.pub.pubs n

/-- Change one publication's state. -/
def State.onPb (s : State) (n : Nat) (f : Pub → Pub) : State :=
  s.onPub fun b => { b with pubs := smapUpd (fun _ => {}) b.pubs n f }

/-- A field of a publication's entry in the active epoch (R571). -/
def State.pubF (s : State) (f : Nat → Nat → FieldRef) (n : Nat) : Nat := s.getF (f s.pub.act n)

/-- KIND of a publication (R569). -/
def State.pubKind (s : State) (n : Nat) : Nat := s.pubF PUB.W0_KIND n

/-- OWNER of a publication (R570). -/
def State.pubOwner (s : State) (n : Nat) : Nat := s.pubF PUB.W0_OWNER n

/-- The publication's entry in the active epoch is enabled (R573). -/
def State.pubLive (s : State) (n : Nat) : Bool := decide (s.pubF PUB.W0_EN n = 1)

/-- PUB builds frames (R605), and the publication is enabled. -/
def State.pubOn (s : State) (n : Nat) : Bool := s.flag PUB.CTL_EN && s.pubLive n

/-- A publication of GOOSE (R569). -/
def State.pubGoose (s : State) (n : Nat) : Bool := decide (s.pubKind n < 3)

/-- The enabled publications, in ascending index. -/
def State.pubsLive (s : State) : List Nat := (s.listed (PUB.W0 s.pub.act 0) 0x40 4352).filter s.pubLive

/-- The publications that build frames, in ascending index. -/
def State.pubsOn (s : State) : List Nat := s.pubsLive.filter s.pubOn

/-- The enabled publications of a tenant. -/
def State.pubsOf (s : State) (t : Nat) : List Nat := s.pubsLive.filter fun n => s.pubOwner n = t

/-- One entry of an attribute map (R574). -/
structure AttrMap where
  typ : Nat
  voff : Nat
  safeMode : Bool
  qoff : Nat
  safeVal : Nat
  ch : Nat
  deriving DecidableEq, Repr

/-- Entry `a` of the attribute map at a physical address (R574). -/
def State.attrAt (s : State) (base a : Nat) : AttrMap :=
  let w (i : Nat) := s.readLe (base + 16 * a + 4 * i) 4
  ⟨bits (w 0) 31 24, bits (w 0) 15 0, bit (w 1) 16, bits (w 1) 15 0, w 2, bits (w 3) 13 0⟩

/-- The attribute map of a publication. -/
def State.pubMap (s : State) (n : Nat) : List AttrMap :=
  (List.range (s.pubF PUB.W1_NATTR n)).map fun a => s.attrAt (s.pubF PUB.W3_AMAP n * 256) a

/-! ## Values -/

/-- The identifier of a publication attribute (R452). -/
def attrPoint (n a : Nat) : Nat := 3 * 2 ^ 28 + n * 256 + a

/-- The identifier of an attribute of a received GOOSE (R452). -/
def rxPoint (m a : Nat) : Nat := 2 * 2 ^ 28 + m * 256 + a

/-- The identifier of a SAFE_OUT line (R452). -/
def linePoint (l : Nat) : Nat := 4 * 2 ^ 28 + l

/-- Quality bits: validity invalid, inaccurate, source substituted (R315). -/
def qInvalid : Nat := 1

/-- Source substituted. -/
def qSubst : Nat := 2 ^ 10

/-- The owner's state makes PUB send safe values (R390, R591). -/
def State.ownerSafe (s : State) (t : Nat) : Bool := s.cyc.wdHalt || decide (s.tenSt t ≠ .active ∧ s.tenSt t ≠ .moving)

/-- Safe values apply to a publication (R591, R592). -/
def State.pubSafe (s : State) (n : Nat) : Bool := s.ownerSafe (s.pubOwner n) || (s.pb n).safe

/-- The tenant's subscriptions of GOOSE: those that deliver to it (R599). -/
def State.rxTenants (s : State) (m : Nat) : List Nat :=
  let w6 := s.rd (PUB.RXW6 m)
  let w7 := s.rd (PUB.RXW7 m)
  let one (w : Nat) := (if bit w 31 then [bits w 9 0] else []) ++ (if bit w 30 then [bits w 25 16] else [])
  one w6 ++ one w7

/-- A force acts on an input of a tenant (R453): on an SV channel in its subscription set, or on a GOOSE subscription that
delivers to it. -/
def State.inputForced (s : State) (t : Nat) : Bool :=
  s.cyc.inForce.any fun (p, f) => f.isSome &&
    (if p / 2 ^ 28 = 1 then
      (s.tenantStreams t).any fun st => (s.channels st).contains (p % 2 ^ 28)
    else p / 2 ^ 28 = 2 && s.flag (PUB.RXW0_EN (p / 256 % 4096)) && (s.rxTenants (p / 256 % 4096)).contains t)

/-- The mark of R586 on a quality word. -/
def markQuality (q : Nat) : Nat :=
  let q := if bits q 1 0 = 1 ∨ bits q 1 0 = 2 then q else putBits q 1 0 3
  q ||| 2 ^ 9

/-- An attribute before force, safe value and mark: ARMED and the identity of a kind 2 publication stand in its registers. -/
def State.baseVal (s : State) (n a : Nat) : Nat × Nat :=
  if s.pubKind n = 2 ∧ a = 0 then (s.getF (PUB.PSTATE_ARMED n), Config.unsentQuality n 0)
  else if s.pubKind n = 2 ∧ a = 1 then (s.rd (PUB.ARMID n), Config.unsentQuality n 1)
  else (smapGet (fun _ => none) (s.pb n).base a).getD (Config.unsentValue n a, Config.unsentQuality n a)

/-- The tenant's point is substituted in the tick of R465. -/
def State.pointSubst (s : State) (n a : Nat) : Bool :=
  let t := s.tenant (s.pubOwner n)
  t.substOn && t.subst.contains (attrPoint n a)

/-- What an attribute is sent as (R453, R454, R586, R590, R591); a sampled value under safe values is SAFE, whatever SAFEMODE is (R594). -/
def State.attrVal (s : State) (n a : Nat) (m : AttrMap) (subst : Bool) : SentVal :=
  let sub (q : Nat) := if subst then q ||| qSubst else q
  match s.forceOn (attrPoint n a) with
  | some f => ⟨f.value, qSubst, false⟩
  | none =>
    let b := s.baseVal n a
    if s.pubSafe n || s.pointSubst n a then
      let last := if s.pubKind n = 2 ∧ a < 2 then true else m.safeMode && s.pubGoose n
      let v := if last then ((s.pb n).sent[a]?).elim b.1 (·.value) else m.safeVal
      ⟨v, sub qInvalid, true⟩
    else ⟨b.1, sub (if (s.pb n).mark ∧ (m.qoff ≠ 0xFFFF ∨ s.pubKind n = 3) then markQuality b.2 else b.2), false⟩

/-- What a publication's attributes are to be sent as. -/
def State.pubVals (s : State) (n : Nat) : List SentVal :=
  let subst := s.inputForced (s.pubOwner n)
  (s.pubMap n).zipIdx.map fun (m, a) => s.attrVal n a m subst

/-! ## Frames -/

/-- The bytes of a value (R576); none for an unlisted type. -/
def encodeVal (typ v : Nat) : Option (List Byte) :=
  match typ with
  | 0 => some (beBytes 1 (if v % 2 ^ 32 = 0 then 0 else 1))
  | 1 => some (beBytes 4 v)
  | 2 => some (beBytes 5 (v % 2 ^ 32))
  | 3 => some (beBytes 4 v)
  | 4 => some (beBytes 1 (v % 4 * 64))
  | _ => none

/-- The two quality bytes (R576): bit b of the word is bit b of the string, counted from the first bit sent. -/
def encodeQuality (q : Nat) : List Byte :=
  beBytes 2 (((List.range 13).map fun i => b2n (bit q i) * 2 ^ (15 - i)).sum)

/-- Write an attribute onto a frame. -/
def putAttr (b : List Byte) (m : AttrMap) (v : SentVal) : List Byte :=
  let b := match encodeVal m.typ v.value with
    | some x => overlay b m.voff x
    | none => b
  if m.qoff = 0xFFFF ∨ 4 < m.typ then b else overlay b m.qoff (encodeQuality v.quality)

/-- The template of a publication (R572). -/
def State.template (s : State) (n : Nat) : List Byte := s.readBytes (s.pubF PUB.W2_TMPL n * 256) (s.pubF PUB.W5_TLEN n)

/-- t of R578. -/
def State.utcTime (s : State) : List Byte :=
  let sec : Int := (s.tab.sec : Int) - (s.getF PUB.UTCOFF_OFFSET : Int)
  beBytes 4 (ofSigned 32 sec) ++ beBytes 3 (s.tab.nsPart * 2 ^ 24 / 1000000000) ++
    beBytes 1 (0x0A + (if s.tab.sync = .locked then 0 else 0x20))

/-- A number with five content bytes (R577). -/
def five (v : Nat) : List Byte := beBytes 5 (v % 2 ^ 32)

/-- The owner is a pair tenant in a pair mode (R276). -/
def State.pairTenant (s : State) (t : Nat) : Bool := s.pairMode && bit (s.rd (RDE.PAIRT (t / 32))) (t % 32)

/-- A tenant's pair record. -/
def State.tenRde (s : State) (t : Nat) : TenRde := smapGet (fun _ => {}) s.rde.tens t

/-- The module sends the frames of a tenant's publications (R282, R288, R290). -/
def State.publishes (s : State) (t : Nat) : Bool :=
  !s.pairTenant t || decide ((s.tenRde t).st = .active ∧ ¬ (s.tenRde t).hold ∧ s.rde.pair ≠ .seek)

/-- B_t (R278). -/
def State.pairBase (s : State) (tick : Nat) : Option Nat :=
  s.rde.ref.map fun (tr, br) =>
    (((br : Int) + toSigned 32 ((tick + 2 ^ 32 - tr % 2 ^ 32) % 2 ^ 32) * (s.getF RDE.PAIR_CFG_BLK : Int)) % 65536).toNat

/-- Give a built frame to the switch (R276, R572, R702, R705, R706): `k` is its place in the slots of tick `tick`, `ctr` the
counter of a GMAC IV. -/
def State.sendPub (s : State) (n : Nat) (b : List Byte) (tick k ctr : Nat) : State :=
  let owner := s.pubOwner n
  let pair := s.pairTenant owner
  if ¬ s.publishes owner then s
  else
    let b := if pair then overlay b 6 (beBytes 6 (s.getF RDE.PAIR_MAC_MAC)) else b
    let pcnt := s.getF (RDE.PSLOT_PCNT n)
    let seq := (s.pairBase tick).map fun bt => (bt + s.getF (RDE.PSLOT_SLOT n) + k) % 65536
    let info : FrameInfo := { pairSeq := if pair ∧ pcnt ≠ 0 then seq else none, unnumbered := pair && decide (pcnt = 0) }
    if s.pubF PUB.W0_AUTH_EN n = 0 then s.hostToSwitch b (s.pubF PUB.W5_TC n) info
    else
      let slot := s.pubF PUB.W0_KEYSLOT n
      if ¬ s.keyUsable slot (.tx owner) then s.countUnavail
      else
        let key := s.keySlot slot
        let h := etherOff b + 2
        let b := overlay b (h + 2) (beBytes 2 (beAt b (h + 2) 2 + key.extLen))
        let b := overlay b (h + 5) (beBytes 1 key.extLen)
        let iv := beBytes 2 n ++ beBytes 2 0 ++ beBytes 8 ctr
        s.hostToSwitch (b ++ key.extension iv b) (s.pubF PUB.W5_TC n) info

/-- A GOOSE frame of the state last sent (R572, R576 to R578). -/
def State.gooseFrame (s : State) (n tal : Nat) : List Byte :=
  let p := s.pb n
  let b := ((s.pubMap n).zip p.sent).foldl (fun b (m, v) => putAttr b m v) (s.template n)
  let b := overlay b (s.pubF PUB.W6_O_ST n) (five (s.rd (PUB.STNUM n)))
  let b := overlay b (s.pubF PUB.W7_O_SQ n) (five (s.rd (PUB.SQNUM n)))
  let b := overlay b (s.pubF PUB.W5_O_TAL n) (five tal)
  let b := overlay b (s.pubF PUB.W6_O_T n) p.t
  overlay b (s.pubF PUB.W7_O_SIM n) (beBytes 1 (if s.pubF PUB.W0_SIM n = 1 then 0xFF else 0))

/-- PUB as a requester; R652 gives it ports 88 and 89. -/
def pubWho : MemWho := ⟨88, false, 0⟩

/-- A PUB read that no memory delivers good (R575, R648). -/
def State.stageErr (s : State) : State := (s.bump PUB.STAGEERR).raise PUB.STATUS_STAGE_ERR

/-- PUB reads a template and an attribute map: whether every beat was good (R648). -/
def State.pubReads (s : State) (n : Nat) : State × Bool :=
  let r := s.eccRead pubWho (s.pubF PUB.W2_TMPL n * 256) (s.pubF PUB.W5_TLEN n)
  let q := r.1.eccRead pubWho (s.pubF PUB.W3_AMAP n * 256) (16 * s.pubF PUB.W1_NATTR n)
  if r.2 || q.2 then (q.1.stageErr, false) else (q.1, true)

/-- Send a GOOSE frame of the state last sent in slot `k` of a tick. -/
def State.sendGoose (s : State) (n tal tick k : Nat) : State :=
  let r := s.pubReads n
  if r.2 then r.1.sendPub n (r.1.gooseFrame n tal) tick k (r.1.rd (PUB.STNUM n) * 2 ^ 32 + r.1.rd (PUB.SQNUM n)) else r.1

/-! ## SAFE_OUT lines and binary points -/

/-- Levels of an output. -/
inductive Level3 where
  | low | high | hiZ
  deriving DecidableEq, Repr

/-- The level of a code. -/
def Level3.ofNum : Nat → Level3
  | 0 => .low | 1 => .high | _ => .hiZ

/-- The level of a truth value. -/
def Level3.ofBool (b : Bool) : Level3 := if b then .high else .low

/-- SAFE_OUT line `l` (R600, R601, R453). -/
def State.safeOut (s : State) (l : Nat) : Level3 :=
  match s.forceOn (linePoint l) with
  | some f => .ofBool (bit f.value 0)
  | none =>
    let n := s.getF (PUB.SO_PUBN l)
    let safe := Level3.ofNum (s.getF (PUB.SO_SAFE l))
    match (s.pb n).sent[s.getF (PUB.SO_ATTR l)]? with
    | none => safe
    | some v =>
      if ¬ s.flag (PUB.SO_EN l) ∨ v.safe ∨ s.cyc.wdHalt ∨ ¬ s.publishes (s.pubOwner n) then safe
      else .ofBool (decide (v.value ≠ 0) ^^ s.flag (PUB.SO_INV l))

/-- The changes of a binary point (R610). -/
def State.pointLog (s : State) (p : Nat) : List (Nat × Bool) := smapGet (fun _ => []) s.pub.points p

/-- A binary point has a value at a TOD: a change is kept, with the 8 before it (R610). -/
def State.pointNote (s : State) (p ns : Nat) (v : Bool) : State :=
  let l := s.pointLog p
  if (l.head?.map (·.2)).getD false = v then s
  else s.onPub fun b => { b with points := smapSet (fun _ => []) b.points p (((ns, v) :: l).take 9) }

/-- Levels of the SAFE_OUT lines as binary points. -/
def State.linesNote (s : State) : State :=
  (List.range 8).foldl (fun s l => s.pointNote (linePoint l) s.tab.ns (decide (s.safeOut l = .high))) s

/-- Attributes as they were sent, as binary points; a silent tenant's are not sent (R288, R610). -/
def State.sentNote (s : State) (n : Nat) : State :=
  if s.publishes (s.pubOwner n) then
    ((s.pb n).sent.zipIdx.foldl (fun s (v, a) => s.pointNote (attrPoint n a) s.tab.ns (decide (v.value ≠ 0))) s).linesNote
  else s

/-! ## States, numbers and repeats -/

/-- The number after a stNum or sqNum (R579, R581). -/
def nextNum (x : Nat) : Nat := if x = 2 ^ 32 - 1 then 1 else x + 1

/-- I_1 in ms (R581, R606). -/
def State.firstMs (s : State) (n : Nat) : Nat := s.pubF PUB.W1_FIRST n + 1

/-- The interval after an interval (R581). -/
def State.nextMs (s : State) (n i : Nat) : Nat := min (2 * i) (s.pubF PUB.W1_T0 n)

/-- ms in units of the time scale. -/
def msUnit (ms : Nat) : Int := ((ms * 1000000 * nsUnit : Nat) : Int)

/-- An entry of the correction log (R588). -/
def State.clogPut (s : State) (e : CorrEntry) : State :=
  if s.pub.clog.length < 64 then s.onPub fun b => { b with clog := b.clog ++ [e] }
  else (s.onPub fun b => { b with clogLost := min (b.clogLost + 1) 65535 }).raise PUB.STATUS_CLOG_OVF

/-- PEND and the correction log at a state change (R586 to R588): `from_` is PROV and TICK of its dispatch, if it has one. -/
def State.notePend (s : State) (n stNum : Nat) (from_ : Option (Bool × Nat)) : State :=
  match from_ with
  | some (true, tick) =>
    (s.setF (PUB.PSTATE_PEND n) 1).onPb n fun p => { p with prov := some (stNum, tick), provCorrected := false }
  | some (false, _) =>
    if s.flag (PUB.PSTATE_PEND n) then
      let s := s.setF (PUB.PSTATE_PEND n) 0
      let p := s.pb n
      let s := match p.prov with
        | some (pst, tick) =>
          if p.provCorrected then
            ((s.bump PUB.CORR).raise PUB.STATUS_CORRECTIVE).clogPut ⟨n, pst, stNum, tick⟩
          else s
        | none => s
      s.onPb n fun p => { p with prov := none, provCorrected := false }
    else s
  | none => s

/-- A state change is sent and belongs to a tick (R579). -/
def State.sendState (s : State) (n tick : Nat) (from_ : Option (Bool × Nat)) : State :=
  let p := s.pb n
  let st := if p.started then nextNum (s.rd (PUB.STNUM n)) else 1
  let first := s.firstMs n
  let s := (s.wr (PUB.STNUM n) st).wr (PUB.SQNUM n) 0
  let s := s.onPb n fun p => { p with
    sent := s.pubVals n
    started := true
    t := s.utcTime
    ticks := (tick :: p.ticks).take 4
    merged := none
    waiting := []
    ival := first
    sumD := first
    due := s.tab.mono + msUnit first
    deferred := [] }
  (((s.sentNote n).setF (PUB.PSTATE_DEFERRED n) 0).notePend n st from_).sendGoose n (2 * first) tick 0

/-- What of some attributes is sent (R574, R576, R579): values, and the 13 bits of the qualities that have bytes; nothing of an
unlisted type. -/
def sentKey (ms : List AttrMap) (vs : List SentVal) : List (Option (Nat × Option Nat)) :=
  (ms.zip vs).map fun (m, v) =>
    if 4 < m.typ then none else some (v.value, if m.qoff = 0xFFFF then none else some (v.quality % 2 ^ 13))

/-- The values to be sent differ from those last sent, or none were. -/
def State.pubDiffers (s : State) (n : Nat) : Bool :=
  !(s.pb n).started || decide (sentKey (s.pubMap n) (s.pubVals n) ≠ sentKey (s.pubMap n) (s.pb n).sent)

/-- A change arises (R579, R580): the values to be sent differ from those that wait for the next tick boundary, where some wait,
else from those last sent. -/
def State.pubNews (s : State) (n : Nat) : Bool :=
  if s.flag (PUB.PSTATE_DEFERRED n) then
    decide (sentKey (s.pubMap n) (s.pubVals n) ≠ sentKey (s.pubMap n) (s.pb n).waiting)
  else s.pubDiffers n

/-- Attributes that come to or leave their safe values without any value changing: nothing is sent, and SAFE_OUT follows (R601). -/
def State.noteSafe (s : State) (n : Nat) : State :=
  let vs := s.pubVals n
  if s.flag (PUB.PSTATE_DEFERRED n) ∨ ((s.pb n).sent.zip vs).all (fun x => x.1.safe == x.2.safe) then s
  else (s.onPb n fun p => { p with sent := p.sent.zipWith (fun x y => { x with safe := y.safe }) vs }).linesNote

/-- Something may have changed what a GOOSE publication sends (R579, R580). -/
def State.pubChange (s : State) (n tick : Nat) (from_ : Option (Bool × Nat)) : State :=
  if ¬ s.pubOn n ∨ ¬ s.pubGoose n then s
  else if ¬ s.pubNews n then s.noteSafe n
  else if (s.pb n).ticks.contains tick ∨ s.flag (PUB.PSTATE_DEFERRED n) then
    let vs := s.pubVals n
    let s := (s.bump PUB.DEFER).raise PUB.STATUS_DEFER
    (s.setF (PUB.PSTATE_DEFERRED n) 1).onPb n fun p => { p with
      merged := if from_.isSome then from_ else p.merged
      waiting := vs }
  else s.sendState n tick from_

/-- The k that the next frame of a tick takes, from `first` on (R279). -/
def Pub.nextK (p : Pub) (first tick : Nat) : Nat := ((p.slots.find? fun x => x.1 = tick).map (·.2)).getD first

/-- A frame of a tick took `k`. -/
def Pub.tookK (p : Pub) (tick k : Nat) : Pub := { p with slots := ((tick, k + 1) :: p.slots.filter (·.1 ≠ tick)).take 64 }

/-- A repeat of tick `tick` would reach PCNT (R280). -/
def State.slotsFull (s : State) (n tick : Nat) : Bool :=
  let pcnt := s.getF (RDE.PSLOT_PCNT n)
  s.pairTenant (s.pubOwner n) && decide (pcnt ≠ 0 ∧ pcnt ≤ (s.pb n).nextK 1 tick)

/-- A repeat is deferred (R280): the count and its STATUS bit. -/
def State.countDefer (s : State) : State := (s.bump RDE.SLOT_DEFER).raise RDE.STATUS_SLOT_DEFER

/-- A repeat or anchored frame is sent as a frame of a tick: it takes the next k (R279, R581). -/
def State.repeatNow (s : State) (n tal tick : Nat) : State :=
  let k := (s.pb n).nextK 1 tick
  ((s.wr (PUB.SQNUM n) (nextNum (s.rd (PUB.SQNUM n)))).sendGoose n tal tick k).onPb n (·.tookK tick k)

/-- The repeats that wait go out in order once their tick is there; one that finds it full too waits for the tick after (R280). -/
def State.drainRepeats (s : State) (n : Nat) : Nat → State
  | 0 => s
  | fuel + 1 =>
    match (s.pb n).deferred with
    | [] => s
    | (tal, tick) :: rest =>
      if ¬ tickReached s.tickNow tick then s
      else if s.slotsFull n tick then
        ((s.onPb n fun p => { p with deferred := (tal, tickAdd tick 1) :: rest }).countDefer).drainRepeats n fuel
      else ((s.onPb n fun p => { p with deferred := rest }).repeatNow n tal tick).drainRepeats n fuel

/-- At a tick boundary the merged changes are sent (R580) and then the deferred repeats (R280). -/
def State.pubBoundary (s : State) : State :=
  let tick := s.tickNow
  s.pubsOn.foldl (fun s n =>
    (if s.flag (PUB.PSTATE_DEFERRED n) then
        if s.pubDiffers n then s.sendState n tick (s.pb n).merged
        else (s.setF (PUB.PSTATE_DEFERRED n) 0).onPb n fun p => { p with merged := none, waiting := [] }
      else s).drainRepeats n 256) s

/-- A repeat or anchored frame of a tick (R279, R280, R581, R802): it takes the next k, or waits for the next tick of its publication;
what comes after a frame that waits follows it. -/
def State.sendRepeat (s : State) (n tal tick : Nat) : State :=
  if s.slotsFull n tick then
    ((s.onPb n fun p => { p with deferred := p.deferred ++ [(tal, tickAdd tick 1)] }).countDefer).drainRepeats n 256
  else if (s.pb n).deferred ≠ [] then
    (s.onPb n fun p => { p with deferred := p.deferred ++ [(tal, tick)] }).drainRepeats n 256
  else s.repeatNow n tal tick

/-- The tick of the repeat that is due (R582). -/
def State.repeatTick (s : State) (n : Nat) : Nat :=
  let f := if s.flag TAB.CTL_NOMF then 60 else 50
  let d := 2 ^ (s.getF TAB.CTL_TICKDIV + 2)
  ((s.pb n).ticks.headD 0 + (s.pb n).sumD * f * d / 1000) % 2 ^ 32

/-- When the next repeat of a publication falls due (R581): none where it repeats nothing. -/
def State.repeatAt (s : State) (n : Nat) : Option Int :=
  if s.pubOn n ∧ s.pubGoose n ∧ (s.pb n).started then some (s.pb n).due else none

/-- A repeat interval ends (R581): nothing before it does. -/
def State.gooseRepeat (s : State) (n : Nat) : State :=
  if ¬ (s.repeatAt n).any (· ≤ s.tab.mono) then s
  else
    let tick := s.repeatTick n
    let next := s.nextMs n (s.pb n).ival
    let s := s.sendRepeat n (2 * next) tick
    s.onPb n fun p => { p with ival := next, sumD := p.sumD + next, due := p.due + msUnit next }

/-- A comparator whose DEST is publication anchor fires (R802). The numbers of a SILENT owner's publication advance, and its frame
is not sent (R583, R288). -/
def State.pubAnchor (s : State) (n : Nat) : State :=
  if ¬ s.pubOn n ∨ ¬ s.pubGoose n ∨ ¬ (s.pb n).started then s
  else
    let wait := max 0 ((s.pb n).due - s.tab.mono)
    s.sendRepeat n ((2 * wait + msUnit 1 - 1) / msUnit 1).toNat s.tickNow

/-! ## Commits, trips, ARM and STAND-DOWN -/

/-- A staged attribute lies in a STAGE window of the owner (R575). -/
def State.stageAllowed (s : State) (t a : Nat) : Bool :=
  (s.wins t).any fun w => decide (w.kind = .stage ∧ w.pbase ≤ a ∧ a + 8 ≤ w.pbase + w.size)

/-- The attributes that PUBV commits (R569). -/
def firstStaged (kind : Nat) : Nat := match kind with
  | 1 => 1 | 2 => 2 | _ => 0

/-- The staged attributes of a publication, value and quality; none where a read is not permitted (R575). -/
def State.staging (s : State) (n : Nat) : Option (List (Nat × Nat × Nat)) :=
  let from_ := firstStaged (s.pubKind n)
  ((List.range (s.pubF PUB.W1_NATTR n)).filter fun a => from_ ≤ a).mapM fun a =>
    let p := s.pubF PUB.W4_STAGE n * 256 + 8 * a
    if s.stageAllowed (s.pubOwner n) p then some (a, s.readLe p 4, s.readLe (p + 4) 4) else none

/-- Store attribute values (R591 step 3). -/
def State.putBase (s : State) (n : Nat) (vs : List (Nat × Nat × Nat)) : State :=
  s.onPb n fun p => { p with
    base := vs.foldl (fun b (a, v, q) => smapSet (fun _ => none) b a (some (v, q))) p.base }

/-- The safe values of a tenant that is ACTIVE again end at its first commit or TRIP (R592). -/
def State.endSafe (s : State) (t : Nat) : State :=
  if s.ownerSafe t then s
  else (s.pubsOf t).foldl (fun s n => s.onPb n fun p => { p with safe := false }) s

/-- The state changes that the end of safe values makes in a tenant's other publications. -/
def State.ownerChanges (s : State) (t tick : Nat) : State :=
  (s.pubsOf t).foldl (fun s n => if (s.pb n).started then s.pubChange n tick none else s) s

/-- A kind 3 or 4 frame of the ASDUs that wait (R593, R594): it belongs to a tick, with its place there and its IV counter. -/
def State.sendSv (s : State) (n tick ctr : Nat) : State :=
  let b := s.template n
  let alen := s.pubF PUB.W5_O_TAL n
  let synch := match s.tab.sync with
    | .locked => 2 | .holdover => 1 | _ => 0
  let wrap := s.pubF PUB.W1_WRAP n
  let b := ((s.pb n).asdus.zipIdx).foldl (fun b ((j, vs), i) =>
    let b := overlay b (s.pubF PUB.W6_O_ST n + i * alen) (beBytes 2 (if wrap = 0 then j else j % wrap))
    let b := overlay b (s.pubF PUB.W6_O_T n + i * alen) (beBytes 1 synch)
    vs.zipIdx.foldl (fun b (v, a) =>
      overlay b (s.pubF PUB.W7_O_SQ n + i * alen + 8 * a) (beBytes 4 v.value ++ beBytes 4 v.quality)) b) b
  let o := s.pubF PUB.W7_O_SIM n
  let b := overlay b o (beBytes 1 (putBits (beAt b o 1) 7 7 (s.pubF PUB.W0_SIM n)))
  let k := (s.pb n).nextK 0 tick
  let r := s.pubReads n
  (if r.2 then r.1.sendPub n b tick k ctr else r.1).onPb n fun p => { (p.tookK tick k) with asdus := [] }

/-- An ASDU is built, and its frame when it is the last one (R593, R594). -/
def State.addAsdu (s : State) (n j tick ctr : Nat) (vs : List SentVal) : State :=
  let s := (s.onPb n fun p => { p with asdus := p.asdus ++ [(j, vs)], sent := vs, started := true }).sentNote n
  if s.pubF PUB.W1_NASDU n ≤ (s.pb n).asdus.length then s.sendSv n tick ctr else s

/-- One publication takes its staged values at a commit (R575, R594, R648): whether it did. -/
def State.takeStaged (s : State) (n : Nat) (prov : Bool) : State × Bool :=
  match s.staging n with
  | none => (s.stageErr, false)
  | some vs =>
    let owner := s.pubOwner n
    let r := s.eccRead ⟨88, true, owner⟩ (s.pubF PUB.W4_STAGE n * 256) (8 * s.pubF PUB.W1_NATTR n)
    if r.2 then (r.1.stageErr.onTenant owner fun t => { t with dig := { t.dig with fault := true } }, false)
    else ((r.1.putBase n vs).onPb n fun p => { p with mark := prov }, true)

/-- A commit at YIELD (R435, R537, R575, R592, R594): the publications marked written, in the order they were marked. -/
def State.pubCommit (s : State) (t : Nat) (ns : List Nat) (prov : Bool) (tick : Nat) : State :=
  let ns := ns.filter s.pubLive
  if ns = [] then s
  else
    let r := ns.foldl (fun (sn : State × List Nat) n =>
      let x := sn.1.takeStaged n prov
      (x.1, if x.2 then sn.2 ++ [n] else sn.2)) (s, [])
    let s := if r.2 = [] then r.1 else r.1.endSafe t
    let s := r.2.foldl (fun s n =>
      if s.pubKind n = 3 then
        let c := (s.pb n).commits
        let u := s.onPb n fun p => { p with commits := c + 1 }
        if s.pubOn n then (u.notePend n (s.rd (PUB.STNUM n)) (some (prov, tick))).addAsdu n c tick (c + 1) (s.pubVals n) else u
      else s.pubChange n tick (some (prov, tick))) s
    s.ownerChanges t tick

/-- The tenant trips on predicted samples (R584). -/
def State.tripsOnPredicted (s : State) (t : Nat) : Bool := bit (s.rd (PUB.TOP (t / 32))) (t % 32)

/-- A TRIP goes out as the value of attribute 0 (R579, R591, R592): `from_` is PROV and TICK of its dispatch; a held trip that the
verdict releases has none, so that no output that leaves at once marks it (R586). -/
def State.tripOut (s : State) (n data stateTick : Nat) (from_ : Option (Bool × Nat)) : State :=
  let t := s.pubOwner n
  let s := s.putBase n [(0, data % 2 ^ 32, Config.unsentQuality n 0)]
  let s := match from_ with
    | some (prov, _) => s.onPb n fun p => { p with mark := prov }
    | none => s
  ((s.endSafe t).pubChange n stateTick from_).ownerChanges t stateTick

/-- A TRIP is held (R584). -/
def State.holdTrip (s : State) (n data tick : Nat) : State :=
  ((s.onPb n fun p => { p with held := some ⟨data % 2 ^ 32, tick⟩ }).setF (PUB.PSTATE_HELD n) 1).bump PUB.HELD

/-- TRIP arrives at PUB (R584, R586). -/
def State.pubTrip (s : State) (n data : Nat) (prov : Bool) (tick : Nat) : State :=
  let t := s.pubOwner n
  if ¬ s.pubLive n then s
  else if prov ∧ s.classOf t = 0 ∧ ¬ s.tripsOnPredicted t then s.holdTrip n data tick
  else s.tripOut n data tick (some (prov, tick))

/-- ARM arrives at PUB (R586, R589). -/
def State.pubArm (s : State) (n id : Nat) (prov : Bool) (tick : Nat) : State :=
  if ¬ s.pubLive n then s
  else
    let s := (s.setF (PUB.PSTATE_ARMED n) 1).wr (PUB.ARMID n) (id % 2 ^ 32)
    (s.onPb n fun p => { p with mark := prov }).pubChange n tick (some (prov, tick))

/-- A STAND-DOWN (R589): `from_` is PROV and TICK of its dispatch, none for software's. -/
def State.pubStdn (s : State) (n id tick : Nat) (from_ : Option (Bool × Nat)) : State :=
  if ¬ s.pubLive n then s
  else if s.flag (PUB.PSTATE_ARMED n) ∧ s.rd (PUB.ARMID n) = id % 2 ^ 32 then
    let s := s.setF (PUB.PSTATE_ARMED n) 0
    let s := match from_ with
      | some (prov, _) => s.onPb n fun p => { p with mark := prov }
      | none => s
    s.pubChange n tick from_
  else (s.bump PUB.STDN_MISS).raise PUB.STATUS_STDN_MISS

/-- PUB_SCMD.GO (R589, R590): a PUBN that names no publication does nothing. -/
def State.pubScmd (s : State) (n : Nat) : State :=
  if n < 4352 ∧ s.pubKind n = 2 then s.pubStdn n (s.rd PUB.SCMD_ID) s.tickNow none else s

/-- The held trip of a publication is dropped from its place. -/
def State.dropHeld (s : State) (n : Nat) : State :=
  (s.onPb n fun p => { p with held := none }).setF (PUB.PSTATE_HELD n) 0

/-- PUB learns the verdict on tick `k` for a tenant (R585, R587): 0 NONE, 1 CONFIRMED, 2 CORRECTED, 3 UNRESOLVED. -/
def State.pubVerdict (s : State) (t k verdict : Nat) : State :=
  (s.pubsOf t).foldl (fun s n =>
    let s := s.onPb n fun p => { p with
      provCorrected := p.provCorrected || (verdict == 2 && p.prov.any fun x => x.2 == k) }
    match (s.pb n).held with
    | none => s
    | some h =>
      if h.tick ≠ k then s
      else
        let s := s.dropHeld n
        if verdict = 2 ∨ (verdict = 3 ∧ s.pubF PUB.W0_HOLDPOL n = 1) then
          (s.bump PUB.HDROP).raise PUB.STATUS_HDROP
        else (s.bump PUB.HREL).tripOut n h.data (tickAdd k 1) none) s

/-! ## Safe values -/

/-- Publications in the order of R592: kinds 1 and 2 first, each group in ascending index. -/
def State.safeOrder (s : State) (ns : List Nat) : List Nat :=
  (ns.filter fun n => s.pubKind n = 1 || s.pubKind n = 2) ++ ns.filter fun n => !(s.pubKind n = 1 || s.pubKind n = 2)

/-- Safe values apply to some publications (R592). -/
def State.applySafe (s : State) (ns : List Nat) : State :=
  let s := ns.foldl (fun s n => s.onPb n fun p => { p with safe := true }) s
  (s.safeOrder ns).foldl (fun s n => s.pubChange n s.tickNow none) s

/-- The owner left ACTIVE for a state other than MOVING (R592). -/
def State.ownerLeft (s : State) (t : Nat) : State := s.applySafe (s.pubsOf t)

/-- The cluster watchdog fired (R592). -/
def State.watchdogSafe (s : State) : State := s.applySafe s.pubsLive

/-- A force acts on some attribute of a publication (R453). -/
def State.pubForced (s : State) (n : Nat) : Bool := s.cyc.inForce.any fun (p, f) => f.isSome && decide (p / 256 = 3 * 2 ^ 20 + n)

/-- Forces took effect at a tick boundary (R455, R579). A publication that sent nothing yet begins where a force acts on it. -/
def State.forceChanges (s : State) : State :=
  s.pubsOn.foldl (fun s n => if (s.pb n).started || s.pubForced n then s.pubChange n s.tickNow none else s) s

/-! ## Sampled-value publications from the windows -/

/-- The enabled stream of a channel context. -/
def State.streamOf (s : State) (c : Nat) : Option Nat :=
  s.enabledStreams.find? fun st => (s.channels st).contains c

/-- The quality word of a slot (R593). -/
def slotQuality (nib : Nat) : Nat :=
  let q := nib % 4 + (if bit nib 2 then 2 ^ 11 else 0) + 2 ^ 13
  if bit nib 3 then putBits q 1 0 3 ||| 2 ^ 9 else q

/-- One channel of an ASDU of a kind 4 publication (R593, R594): a safe value is SAFE, whatever SAFEMODE is. -/
def State.slotVal (s : State) (n a j : Nat) (m : AttrMap) : SentVal :=
  let i := j % 256
  let v := s.readLe (sampleBase + m.ch * 0x400 + i * 4) 4
  let byte := s.readLe (sampleBase + 0x1000000 + m.ch * 0x80 + i / 2) 1
  let q := slotQuality (if i % 2 = 0 then byte % 16 else byte / 16)
  match s.forceOn (attrPoint n a) with
  | some f => ⟨f.value, qSubst, false⟩
  | none =>
    if s.pubSafe n then ⟨m.safeVal, qInvalid, true⟩
    else ⟨v, if s.inputForced (s.pubOwner n) then q ||| qSubst else q, false⟩

/-- Output sample `j` of grid `g` was written for stream `st`: the kind 4 publications whose last channel it was take an ASDU (R593). -/
def State.svOutput (s : State) (st g j : Nat) : State :=
  s.pubsOn.foldl (fun s n =>
    if s.pubKind n ≠ 4 ∨ s.pubF PUB.W1_FIRST n ≠ g then s
    else
      let ms := s.pubMap n
      let sts := (ms.filterMap fun m => s.streamOf m.ch).filter fun st => s.mapped st = some g
      if ¬ sts.contains st ∨ sts.any fun st => s.nextJ st g ≤ j then s
      else
        let vs := ms.zipIdx.map fun (m, a) => s.slotVal n a j m
        let j0 := ((s.pb n).asdus.head?.map (·.1)).getD j
        s.addAsdu n j (s.tickOf g j % 2 ^ 32) j0 vs) s

/-! ## Entries and registers -/

/-- The words of an entry as they would stand. -/
structure EntryView where
  w0 : Nat
  w1 : Nat
  w5 : Nat
  w6 : Nat
  w7 : Nat
  deriving DecidableEq, Repr

/-- The checks of R573; ALEN of the SV kinds is a stride and no offset (R606). -/
def State.entryOk (s : State) (v : EntryView) : Bool :=
  let tlen := bits v.w5 26 16
  let nattr := bits v.w1 7 0
  let kind := bits v.w0 30 28
  let auth := bit v.w0 13
  let ext := if auth then (s.keySlot (bits v.w0 12 0)).extLen else 0
  let goose := kind < 3
  let offs := (if goose then [bits v.w5 10 0] else []) ++ [bits v.w6 26 16, bits v.w6 10 0, bits v.w7 26 16, bits v.w7 10 0]
  decide (60 ≤ tlen ∧ tlen ≤ 1500 ∧ tlen + 4 + ext ≤ 1522) && offs.all (fun o => o < tlen) &&
    decide (1 ≤ nattr ∧ nattr ≤ (if goose then 64 else 24)) && s.flag (CYC.TBIND_VALID (bits v.w0 25 16))

/-- A publication starts over when EN of its active entry is written 1 (R579). -/
def State.pubRestart (s : State) (n : Nat) : State :=
  let s := (s.setF (PUB.PSTATE_PEND n) 0).setF (PUB.PSTATE_HELD n) 0
  let s := (s.setF (PUB.PSTATE_DEFERRED n) 0).onPb n fun p => { base := p.base, ticks := p.ticks, slots := p.slots }
  if s.pubOn n ∧ s.ownerSafe (s.pubOwner n) then s.applySafe [n] else s

/-- W1 of an entry of a kind after software writes `v` over `old` (R23, R24, R606): bits [11:8] are reserved for GOOSE; T0, NASDU,
WRAP and NATTR keep their value under one that is not listed. -/
def w1After (kind old v : Nat) : Nat :=
  let keep (ok : Bool) (hi lo new : Nat) : Nat := if ok then new else putBits new hi lo (bits old hi lo)
  let t0 := bits v 27 12
  let nasdu := bits v 27 24
  let nattr := bits v 7 0
  if kind < 3 then
    keep (decide (1 ≤ nattr ∧ nattr ≤ 64)) 7 0
      (keep (decide (bits v 31 28 + 1 ≤ t0 ∧ t0 ≤ 60000)) 27 12 (putBits v 11 8 0))
  else
    keep (decide (1 ≤ nattr ∧ nattr ≤ 24)) 7 0
      (keep (decide (1 ≤ nasdu ∧ nasdu ≤ 8)) 27 24 (keep (decide (bits v 23 8 ≠ 0)) 23 8 v))

/-- A write to word `w` of a publication entry (R571, R573). PUB builds a frame within the command that causes it, so no frame
of another epoch is in build when a write comes. -/
def State.pubEntryWrite (s : State) (e n w v : Nat) : State :=
  let a := PUB.W0 e n + 4 * w
  if s.pub.act = e then s.raise PUB.STATUS_EPOCH_REFUSED
  else
    let new := if w = 1 then w1After (s.getF (PUB.W0_KIND e n)) (s.rd a) v else s.plain a v
    let view : EntryView := ⟨if w = 0 then new else s.rd (PUB.W0 e n), s.rd (PUB.W1 e n), s.rd (PUB.W5 e n),
      s.rd (PUB.W6 e n), s.rd (PUB.W7 e n)⟩
    if w = 0 ∧ bit new 31 ∧ ¬ s.entryOk view then s.raise PUB.STATUS_CFG_REFUSED
    else s.wr a new

/-- PUB_CMD.FLIP (R571): a publication that the flip enables starts over with stNum 1 (R579). -/
def State.pubFlip (s : State) : State :=
  let old := s.pubsLive
  let s := s.onPub fun b => { b with act := 1 - b.act }
  let new := s.pubsLive.filter fun n => !old.contains n
  new.foldl (fun s n => s.pubRestart n) s

/-- PUB_CMD.CNT_CLR (R605). -/
def State.pubCntClr (s : State) : State :=
  s.zeroAll [PUB.HELD, PUB.HREL, PUB.HDROP, PUB.CORR, PUB.DEFER, PUB.STDN_MISS, PUB.RXNOMATCH, PUB.RXREJ, PUB.STAGEERR]

/-- A read of PUB_CLOG_W3 gives the head's tick and removes the head (R588, R605). -/
def State.clogPop (s : State) (who : Requester) : State :=
  match s.pub.clog with
  | [] => s.respond who (.data 0)
  | e :: es => (s.onPub fun b => { b with clog := es }).respond who (.data e.tick)

/-- A write to a subscription word: while EN = 1 the first six words keep their value (R607). -/
def State.rxWrite (s : State) (m w v : Nat) : State :=
  if s.flag (PUB.RXW0_EN m) ∧ w < 6 then s.raise PUB.STATUS_CFG_REFUSED
  else
    let s := s.plainWrite (PUB.RXW0 m + 4 * w) v
    if s.flag (PUB.RXW0_EN m) ∧ w = 0 then s.onPub fun b => { b with subs := smapSet (fun _ => {}) b.subs m {} } else s

/-- A write to PUB_CTL (R605): a publication that starts to build frames sends its safe values if its owner's state asks for
them (R591, R592). -/
def State.pubCtlWrite (s : State) (v : Nat) : State :=
  let old := s.pubsOn
  let s := s.plainWrite PUB.CTL v
  let new := s.pubsOn.filter fun n => !old.contains n && s.ownerSafe (s.pubOwner n)
  (if new = [] then s else s.applySafe new).linesNote

/-! ## ALIVE and FORCE_ACT_N -/

/-- CYC_STATE.CLUSTER (R468): 0 STOPPED, 1 RUN, 2 WDHALT. -/
def State.cluster (s : State) : Nat := if s.cyc.wdHalt then 2 else if s.flag CYC.CTL_EN then 1 else 0

/-- ALIVE runs (R602). -/
def State.aliveRuns (s : State) : Bool := s.flag PUB.CTL_ALIVE_EN && decide (s.cluster = 1)

/-- The level of ALIVE. -/
def State.aliveLevel (s : State) : Bool := s.aliveRuns && s.pub.alive

/-- Half a period of ALIVE ends (R602). While a rail is out of its range with PWR_GOOD high, ALIVE makes at most the transitions
that are left (R788). -/
def State.aliveToggle (s : State) : State :=
  let next := s.aliveRuns && !s.pub.alive
  if next = s.pub.alive then s
  else match s.sys.railOut with
    | none => s.onPub fun b => { b with alive := next }
    | some 0 => s
    | some (n + 1) => { s with sys := { s.sys with railOut := some n } }.onPub fun b => { b with alive := next }

/-- FORCE_ACT_N is driven low (R455, R603): a command left a valid entry and no tick boundary has made the last removal effective
since, or LAMP is set. -/
def State.forceLamp (s : State) : Bool := s.flag PUB.CTL_LAMP || s.cyc.forceLit

/-! ## Received GOOSE -/

/-- What PUB takes from a received GOOSE frame. -/
structure Goose where
  appid : Nat
  ref : List Byte
  tal : Nat
  stNum : Nat
  sqNum : Nat
  sim : Bool
  confRev : Nat
  deriving DecidableEq, Repr

/-- Read the elements of a GOOSE APDU. -/
def readGoose (b : List Byte) : Nat → Nat → Nat → Goose → Goose
  | 0, _, _, g => g
  | n + 1, o, lim, g =>
    match berAt b o lim with
    | none => g
    | some (tag, v, len) =>
      let x := beAt b v len
      let g := match tag with
        | 0x80 => { g with ref := sliceD 0 b v len }
        | 0x81 => { g with tal := x % 2 ^ 32 }
        | 0x85 => { g with stNum := x % 2 ^ 32 }
        | 0x86 => { g with sqNum := x % 2 ^ 32 }
        | 0x87 => { g with sim := decide (x ≠ 0) }
        | 0x88 => { g with confRev := x % 2 ^ 32 }
        | _ => g
      readGoose b n (v + len) lim g

/-- The GOOSE fields of a frame: what it does not carry reads as zero or empty. -/
def gooseOf (b : List Byte) : Goose :=
  let h := etherOff b + 2
  let g : Goose := ⟨beAt b h 2, [], 0, 0, 0, false, 0⟩
  match berAt b (h + 8) (min b.length (h + beAt b (h + 2) 2)) with
  | some (0x61, v, len) => readGoose b 16 v (v + len) g
  | _ => g

/-- Subscription `m` matches a frame (R596). -/
def State.rxMatch (s : State) (m : Nat) (b : List Byte) (g : Goose) : Bool :=
  let len := s.getF (PUB.RXW0_REFLEN m)
  s.flag (PUB.RXW0_EN m) &&
    decide (frameDa b = s.rd (PUB.RXW1 m) + s.getF (PUB.RXW2_DA_HI m) * 2 ^ 32) &&
    decide (g.appid = s.getF (PUB.RXW2_APPID m)) && decide (g.ref.length = len) &&
    decide (g.ref = s.readBytes (s.rd (PUB.RXW4 m) * 256) len)

/-- The attribute map of a subscription (R597). -/
def State.rxMap (s : State) (m : Nat) : List AttrMap :=
  (List.range (s.getF (PUB.RXW0_NATTR m))).map fun a => s.attrAt (s.rd (PUB.RXW4 m) * 256 + 64) a

/-- Bytes a value takes (R576). -/
def valLen (typ : Nat) : Nat := match typ with
  | 0 => 1 | 1 => 4 | 2 => 5 | 3 => 4 | 4 => 1 | _ => 0

/-- An offset of the map lies beyond the frame (R597). -/
def AttrMap.beyond (m : AttrMap) (len : Nat) : Bool :=
  decide (m.typ ≤ 4 ∧ (len < m.voff + valLen m.typ ∨ (m.qoff ≠ 0xFFFF ∧ len < m.qoff + 2)))

/-- The value word of an attribute in a frame, as R576 encodes it. -/
def decodeVal (b : List Byte) (m : AttrMap) : Nat :=
  match m.typ with
  | 0 => b2n (beAt b m.voff 1 ≠ 0)
  | 2 => beAt b (m.voff + 1) 4
  | 4 => beAt b m.voff 1 / 64
  | _ => beAt b m.voff 4

/-- The quality word of two quality bytes (R576). -/
def decodeQuality (w : Nat) : Nat := ((List.range 13).map fun i => b2n (bit w (15 - i)) * 2 ^ i).sum

/-- Where a subscription's record lies (R597). -/
def State.rxRecord (s : State) (m : Nat) : Nat := s.rd (PUB.RXW5 m) * 256

/-- Store a word of a record; a record lies in the common SRAM that holds no SVC data (R607). -/
def State.rxPut (s : State) (a v : Nat) : State := if inFreeSram a 4 then s.writeLe a 4 v else s

/-- Write one attribute of a record (R597, R610). -/
def State.rxAttr (s : State) (m a : Nat) (b : List Byte) (x : AttrMap) (ns : Nat) : State :=
  let at_ := s.rxRecord m + 16 + 8 * a
  match s.forceOn (rxPoint m a) with
  | some f => (s.rxPut at_ f.value).rxPut (at_ + 4) f.qv
  | none =>
    if 4 < x.typ then s
    else
      let q := if x.qoff = 0xFFFF then Config.rxNoQuality m a % 2 ^ 32 else decodeQuality (beAt b x.qoff 2)
      ((s.rxPut at_ (decodeVal b x)).rxPut (at_ + 4) q).pointNote (rxPoint m a) ns (decide (decodeVal b x ≠ 0))

/-- Post an event to every tenant a subscription notifies (R599). -/
def State.rxPost (s : State) (m code stNum sqNum ns : Nat) : State :=
  (s.rxTenants m).foldl (fun s t =>
    (s.evPut t ⟨2 * 2 ^ 29 + m * 2 ^ 16 + code, stNum, evTod ns, sqNum⟩).1) s

/-- A frame is rejected (R597, R599). -/
def State.rxReject (s : State) (m : Nat) (g : Goose) (ns : Nat) : State :=
  ((s.bump PUB.RXREJ).raise PUB.STATUS_RXREJ).rxPost m 4 g.stNum g.sqNum ns

/-- One subscription's supervision. -/
def State.rxSub (s : State) (m : Nat) : RxSub := smapGet (fun _ => {}) s.pub.subs m

/-- A matched frame that passed every check (R597 to R599). -/
def State.rxAccept (s : State) (m : Nat) (f : Frame) (g : Goose) : State :=
  let maps := s.rxMap m
  let s := maps.zipIdx.foldl (fun s (x, a) => s.rxAttr m a f.bytes x f.info.rxNs) s
  let test := maps.any fun x => x.typ ≤ 4 ∧ x.qoff ≠ 0xFFFF ∧ bit (decodeQuality (beAt f.bytes x.qoff 2)) 11
  let r := s.rxRecord m
  let s := ((s.rxPut r g.stNum).rxPut (r + 4) g.sqNum).rxPut (r + 8) (evTod f.info.rxNs)
  let s := s.rxPut (r + 12) (b2n test * 2 + b2n g.sim * 4)
  let last := (s.rxSub m).last
  let s := s.onPub fun b => { b with
    subs := smapSet (fun _ => {}) b.subs m { last := some (g.stNum, g.sqNum), lives := s.tab.mono + msUnit g.tal } }
  match last with
  | some (st, sq) =>
    if st ≠ g.stNum then s.rxPost m 1 g.stNum g.sqNum f.info.rxNs
    else if g.sqNum ≠ nextNum sq ∧ g.sqNum ≠ sq then s.rxPost m 3 g.stNum g.sqNum f.info.rxNs else s
  | none => s.rxPost m 1 g.stNum g.sqNum f.info.rxNs

/-- PUB examines a GOOSE frame delivered on HOST (R596, R597). -/
def State.gooseFrameIn (s : State) (f : Frame) : State :=
  let g := gooseOf f.bytes
  match (s.listed (PUB.RXW0 0) 0x20 4096).find? fun m => s.rxMatch m f.bytes g with
  | none => s.bump PUB.RXNOMATCH
  | some m =>
    if g.confRev ≠ s.rd (PUB.RXW3 m) ∨ (g.sim ∧ ¬ s.flag (PUB.RXW0_SIMOK m)) ∨
        (s.rxMap m).any (fun x => x.beyond f.bytes.length) then s.rxReject m g f.info.rxNs
    else if s.flag (PUB.RXW0_AUTH_EN m) then
      let r := s.authVerify (s.getF (PUB.RXW0_KEYSLOT m)) f.bytes (etherOff f.bytes + 2)
      if r.2 then r.1.rxAccept m f g else r.1.rxReject m g f.info.rxNs
    else s.rxAccept m f g

/-- The oldest GOOSE frame that waits is examined. -/
def State.gooseReceive (s : State) : State :=
  match s.pub.inbox with
  | [] => s
  | f :: fs => (s.onPub fun b => { b with inbox := fs }).gooseFrameIn f

/-- When the timeAllowedtoLive of a subscription's last accepted frame ends (R598): none where nothing is supervised. -/
def State.talAt (s : State) (m : Nat) : Option Int :=
  let x := s.rxSub m
  if s.flag (PUB.RXW0_EN m) ∧ x.last.isSome ∧ ¬ x.expired then some x.lives else none

/-- A subscription's timeAllowedtoLive passes (R598, R599): nothing before it does. -/
def State.gooseExpire (s : State) (m : Nat) : State :=
  let x := s.rxSub m
  match x.last with
  | none => s
  | some (st, sq) =>
    if ¬ (s.talAt m).any (· ≤ s.tab.mono) then s
    else
      let r := s.rxRecord m
      let s := (List.range (s.getF (PUB.RXW0_NATTR m))).foldl (fun s a =>
        if (s.forceOn (rxPoint m a)).isSome then s
        else s.rxPut (r + 20 + 8 * a) (putBits (s.readLe (r + 20 + 8 * a) 4) 1 0 1)) s
      let s := s.rxPut (r + 12) (s.readLe (r + 12) 4 ||| 1)
      let s := s.onPub fun b => { b with subs := smapSet (fun _ => {}) b.subs m { x with expired := true } }
      s.rxPost m 2 st sq s.tab.ns

/-- Forces on received attributes act at once on the records that stand (R453, R597). -/
def State.rxForces (s : State) : State :=
  s.cyc.inForce.foldl (fun s (p, f) =>
    match f with
    | some f =>
      if p / 2 ^ 28 = 2 then
        let at_ := s.rxRecord (p / 256 % 4096) + 16 + 8 * (p % 256)
        ((s.rxPut at_ f.value).rxPut (at_ + 4) f.qv).pointNote p s.tab.ns (decide (f.value ≠ 0))
      else s
    | none => s) s

end Sys2Proof.Machine
end

