-- ==== Sys2Proof/Machine/Cap.lean ====
section
/-!
DEFINITION. Machine/Cap.lean: the record units of CAP: rows, trigger terms, triggering, the ring and the directory (chapter 13).
-/

namespace Sys2Proof.Machine

/-- One record unit. -/
def State.cu (s : State) (u : Nat) : CapUnit := smapGet (fun _ => {}) s.cap.units u

/-- Change one record unit. -/
def State.onCu (s : State) (u : Nat) (f : CapUnit → CapUnit) : State :=
  { s with cap := { s.cap with units := smapUpd (fun _ => {}) s.cap.units u f } }

/-- The state of a unit (R623): 0 OFF, 1 ARMED, 2 POST, 3 CLOSING, 4 WAIT, 5 HALT. -/
def State.capSt (s : State) (u : Nat) : Nat := s.getF (CAP.USTATE_STATE u)

/-- Change the state of a unit. -/
def State.setCapSt (s : State) (u st : Nat) : State := s.setF (CAP.USTATE_STATE u) st

/-! ## Inputs -/

/-- The value of a binary point at an instant, and whether it was lost (R610). -/
def binAt (tau : Int) (log : List (Nat × Bool)) : Bool × Bool :=
  match log.find? fun x => decide ((x.1 : Int) ≤ tau) with
  | some x => (x.2, false)
  | none =>
    if 8 < log.length then (((log[7]?).map (·.2)).getD false, true)
    else (((log.getLast?).map fun x => !x.2).getD false, false)

/-- The binary points of a unit. -/
def State.capPoints (s : State) (u : Nat) : List Nat :=
  (List.range (s.getF (CAP.UCNT_NB u))).map fun i => s.getF (CAP.BPT_POINT u i)

/-- CAP's port for a unit (R652). -/
def capWho (u : Nat) : MemWho := ⟨84 + u / 4, false, 0⟩

/-- One analog input of output sample `j` (R337, R609); what is not delivered good is missing (R648). -/
def State.capVal (s : State) (u i j : Nat) : State × CapVal :=
  let c := s.getF (CAP.ACH_CH u i)
  let av := sampleBase + c * 0x400 + j % 256 * 4
  let aq := sampleBase + 0x1000000 + c * 0x80 + j % 256 / 2
  let r := s.eccRead (capWho u) av 4
  let q := r.1.eccRead (capWho u) aq 1
  let s := q.1
  let byte := s.readLe aq 1
  let nib := if j % 2 = 0 then byte % 16 else byte / 16
  (s, ⟨toSigned 32 (s.readLe av 4), r.2 || q.2 || decide (nib % 4 = 1), bit nib 3⟩)

/-- The analog inputs from number `i` on, `n` of them. -/
def State.capVals (s : State) (u j : Nat) : Nat → Nat → State × List CapVal
  | _, 0 => (s, [])
  | i, n + 1 =>
    let r := s.capVal u i j
    let q := r.1.capVals u j (i + 1) n
    (q.1, r.2 :: q.2)

/-- One output sample as a unit reads it. -/
def State.capSamp (s : State) (u j : Nat) (tau : Int) : State × CapSamp :=
  let logs := (s.capPoints u).map s.pointLog
  let at_ := logs.map (binAt tau)
  let chg := match (s.cu u).hist with
    | [] => logs.map fun _ => []
    | x :: _ => logs.map fun l =>
      ((l.filter fun e => decide (x.tau < (e.1 : Int) ∧ (e.1 : Int) ≤ tau)).reverse).map fun e => ((e.1 : Int), e.2)
  let v := s.capVals u j 0 (s.getF (CAP.UCNT_NA u))
  (v.1, ⟨j, tau, v.2, at_.map (·.1), chg, at_.any (·.2)⟩)

/-- The evaluation instant of an output sample of a unit's grid (R358). -/
def State.capTau (s : State) (u j : Nat) : Option Int :=
  let g := s.getF (CAP.UCFG_GRID u)
  (s.gridInstant g j).map fun x => x.t - (s.rd (SVC.GD g) : Int)

/-- The output samples of a tick on a unit's grid (R354, R611), without the points a step of TOD skipped (R377). -/
def State.capTick (s : State) (u tick : Nat) : List Nat :=
  let g := s.getF (CAP.UCFG_GRID u)
  if ¬ s.gridOn g then []
  else match s.lastOfTick g tick with
    | none => []
    | some hi =>
      let prev := s.prevTick tick
      let lo := match prev.bind (s.lastOfTick g) with
        | some l => l + 1
        | none => hi + 1 - 256
      let since := prev.bind s.tickRec
      ((List.range (hi + 1 - lo)).map (lo + ·)).filter fun j =>
        decide ((s.grid g).first ≤ j) && !(s.grid g).skipped j &&
          since.all fun r => (s.gridInstant g j).all fun x => decide (r.mono < x.mono)

/-! ## Trigger terms -/

/-- A term's configuration (R635), times in ns. -/
structure TermCfg where
  ty : Nat
  bin : Bool
  dir : Nat
  pw : Nat
  cubic : Bool
  k : Nat
  idx : Nat
  level : Int
  level2 : Int
  wa : Int
  wb : Int
  hold : Int
  deriving DecidableEq, Repr

/-- Term `t` of a unit. -/
def State.termCfg (s : State) (u t : Nat) : TermCfg :=
  { ty := s.getF (CAP.TRM_W0_TYPE u t), bin := s.flag (CAP.TRM_W0_BIN u t), dir := s.getF (CAP.TRM_W0_DIR u t)
    pw := s.getF (CAP.TRM_W0_PWMODE u t), cubic := s.flag (CAP.TRM_W0_CUBIC u t), k := s.getF (CAP.TRM_W0_K u t)
    idx := s.getF (CAP.TRM_W0_IDX u t), level := toSigned 32 (s.rd (CAP.TRM_W1 u t))
    level2 := toSigned 32 (s.rd (CAP.TRM_W2 u t)), wa := (s.rd (CAP.TRM_W3 u t) : Int) * 1000
    wb := (s.rd (CAP.TRM_W4 u t) : Int) * 1000, hold := (s.getF (CAP.TRM_W5_HOLD u t) : Int) * 1000000 }

/-- The cubic of R618 through four samples at u − 1, 0, 1, 2. -/
def cubicAt (a b c d : Int) (u : Rat) : Rat :=
  -(a : Rat) * u * (u - 1) * (u - 2) / 6 + (b : Rat) * (u + 1) * (u - 1) * (u - 2) / 2 -
    (c : Rat) * (u + 1) * u * (u - 2) / 2 + (d : Rat) * (u + 1) * u * (u - 1) / 6

/-- The halvings of R618. -/
def cubicSeek (a b c d l : Int) : Nat → Nat → Nat → Nat
  | 0, lo, _ => lo
  | n + 1, lo, hi =>
    let mid := (lo + hi) / 2
    let y := cubicAt a b c d ((mid : Rat) / 256) - (l : Rat)
    let z : Rat := ((b - l : Int) : Rat)
    if (0 < y ∧ 0 < z) ∨ (y < 0 ∧ z < 0) ∨ (y = 0 ∧ z = 0) then cubicSeek a b c d l n mid hi
    else cubicSeek a b c d l n lo mid

/-- q of R618: samples before, at, after and one further on; the outer two where they are valid and the term is cubic. -/
def crossFrac (before : Option Int) (x0 x1 : Int) (next : Option Int) (l : Int) : Nat :=
  match before, next with
  | some a, some d => cubicSeek a x0 x1 d l 8 0 256
  | _, _ => ((256 * (l - x0)).fdiv (x1 - x0)).toNat

/-- The valid value of an analog input in a sample. -/
def CapSamp.val (x : CapSamp) (i : Nat) : Option Int :=
  match x.vals[i]? with
  | some v => if v.inv then none else some v.v
  | none => none

/-- A crossing: instant, q, rising, and whether the hysteresis lets it count (R617). -/
structure Crossing where
  t : Int
  q : Nat
  rise : Bool
  counts : Bool
  deriving DecidableEq, Repr

/-- The crossing of a term's level between the two newest samples of a window (R616 to R618); `next` is the sample after them. -/
def crossingOf (c : TermCfg) (r : TermRun) (w : List CapSamp) (next : Option CapSamp) : Option Crossing :=
  match w with
  | b :: a :: rest =>
    match a.val c.idx, b.val c.idx with
    | some x0, some x1 =>
      let rise := decide (x0 < c.level ∧ c.level ≤ x1)
      let fall := decide (c.level ≤ x0 ∧ x1 < c.level)
      if ¬ rise ∧ ¬ fall then none
      else
        let outer (x : Option CapSamp) : Option Int := if c.cubic then x.bind (·.val c.idx) else none
        let q := crossFrac (outer rest.head?) x0 x1 (outer next) c.level
        some ⟨a.tau + ((q : Int) * (b.tau - a.tau)).fdiv 256, q, rise, if rise then r.low else r.high⟩
    | _, _ => none
  | _ => none

/-- One edge of a pulse (R616): its instant and direction; events found are added. -/
def pulseEdge (c : TermCfg) (r : TermRun × List Int) (t : Int) (rise : Bool) : TermRun × List Int :=
  if rise then
    match r.1.pulse with
    | some _ => r
    | none => ({ r.1 with pulse := some t, hit := false }, r.2)
  else match r.1.pulse with
    | none => r
    | some a =>
      let w := t - a
      let evs := match c.pw with
        | 0 => if ¬ r.1.hit ∧ c.wa ≤ w then [a + c.wa] else []
        | 1 => if w < c.wa then [t] else []
        | _ => if c.wa ≤ w ∧ w ≤ c.wb then [t] else []
      ({ r.1 with pulse := none, hit := false }, r.2 ++ evs)

/-- A pulse that still lasts at an instant reaches WA (R616). -/
def pulseLasts (c : TermCfg) (tau : Int) (r : TermRun × List Int) : TermRun × List Int :=
  match r.1.pulse with
  | some a => if c.pw = 0 ∧ ¬ r.1.hit ∧ a + c.wa ≤ tau then ({ r.1 with hit := true }, r.2 ++ [a + c.wa]) else r
  | none => r

/-- A timeout runs out at or before an instant and restarts from its own event (R616): of several in one sample, the first and the
last. -/
def timeoutLasts (c : TermCfg) (tau : Int) (r : TermRun × List Int) : TermRun × List Int :=
  if r.1.base + c.wa ≤ tau then
    let n := max 1 ((tau - r.1.base).fdiv (max 1 c.wa))
    let last := r.1.base + n * c.wa
    ({ r.1 with base := last }, r.2 ++ (if n = 1 then [last] else [r.1.base + c.wa, last]))
  else r

/-- A timeout looks at one edge (R616). -/
def timeoutEdge (c : TermCfg) (r : TermRun × List Int) (t : Int) : TermRun × List Int :=
  let r := timeoutLasts c t r
  ({ r.1 with base := t }, r.2)

/-- A runt (R616). -/
def runtStep (c : TermCfg) (r : TermRun) (x : Int) (cr : Option Crossing) : TermRun × List Int :=
  let up := r.runtUp && decide (x < c.level2)
  let dn := r.runtDn && decide (c.level2 < x)
  match cr with
  | none => ({ r with runtUp := up, runtDn := dn }, [])
  | some k =>
    if k.rise then
      ({ r with runtUp := decide (x < c.level2), runtDn := false }, if r.runtDn ∧ bit c.dir 1 then [k.t] else [])
    else
      ({ r with runtUp := false, runtDn := decide (c.level2 < x) }, if r.runtUp ∧ bit c.dir 0 then [k.t] else [])

/-- A slew comparison (R616). -/
def slewStep (c : TermCfg) (r : TermRun) (h : List CapSamp) : TermRun × List Int :=
  let xs := (h.take (c.k + 1)).map fun x => x.val c.idx
  match h.head?, xs.head?, xs.getLast? with
  | some n, some (some x1), some (some x0) =>
    if xs.length ≤ c.k ∨ xs.any (·.isNone) then (r, [])
    else
      let d := x1 - x0
      if (d.natAbs : Int) < c.level then ({ r with slew := true }, [])
      else if r.slew ∧ ((0 < d ∧ bit c.dir 0) ∨ (d < 0 ∧ bit c.dir 1)) then ({ r with slew := false }, [n.tau])
      else (r, [])
  | _, _, _ => (r, [])

/-- One term on one output sample, the newest of `h`: the events, with the q of a crossing (R616 to R618). -/
def termEvents (c : TermCfg) (r : TermRun) (h : List CapSamp) : TermRun × List (Int × Nat) :=
  let plain (x : TermRun × List Int) : TermRun × List (Int × Nat) := (x.1, x.2.map fun t => (t, 0))
  match h with
  | [] => (r, [])
  | now :: older =>
    if c.bin then
      let edges := now.chg.getD c.idx []
      match c.ty with
      | 2 => plain (pulseLasts c now.tau (edges.foldl (fun x e => pulseEdge c x e.1 e.2) (r, [])))
      | 4 => plain (timeoutLasts c now.tau (edges.foldl (fun x e => timeoutEdge c x e.1) (r, [])))
      | _ => (r, [])
    else
      let late := c.cubic && decide (c.ty ≠ 5)
      let w := if late then older else h
      match w with
      | [] => (r, [])
      | x :: _ =>
        match x.val c.idx with
        | none =>
          let r := { r with pulse := none, hit := false, runtUp := false, runtDn := false, slew := true }
          if c.ty = 4 then plain (timeoutLasts c x.tau (r, [])) else (r, [])
        | some v =>
          let cr := crossingOf c r w (if late then some now else none)
          let hyst := if c.ty = 1 ∨ c.ty = 2 then c.level2 else 0
          let rose := cr.any (·.rise)
          let fell := cr.any fun k => !k.rise
          let r' := { r with low := (r.low && !rose) || decide (v ≤ c.level - hyst)
                             high := (r.high && !fell) || decide (c.level + hyst ≤ v) }
          match c.ty with
          | 1 => (r', match cr with
            | some k => if k.counts ∧ bit c.dir (if k.rise then 0 else 1) then [(k.t, k.q)] else []
            | none => [])
          | 2 => plain (pulseLasts c x.tau (match cr with
            | some k => if k.counts then pulseEdge c (r', []) k.t k.rise else (r', [])
            | none => (r', [])))
          | 3 => plain (runtStep c r' v cr)
          | 4 => plain (timeoutLasts c x.tau (match cr with
            | some k => timeoutEdge c (r', []) k.t
            | none => (r', [])))
          | 5 => plain (slewStep c r' h)
          | _ => (r', [])

/-- A term's state after a sample (R619). -/
def termStep (c : TermCfg) (r : TermRun) (h : List CapSamp) (tau : Int) : TermRun × List (Int × Nat) :=
  let (r, evs) := termEvents c r h
  match evs.getLast? with
  | some e => ({ r with on := true, until_ := e.1 + c.hold }, evs)
  | none => ({ r with on := r.on && decide (tau < r.until_) }, [])

/-- The output of a unit's trigger logic for the sum of its term states (R620). -/
def State.capLut (s : State) (u sum : Nat) : Bool := bit (s.rd (CAP.LUT u (sum / 32))) (sum % 32)

/-- The term number of a trigger that no term's event made: the manual names none (R620, R632). -/
def noTerm : Nat := 256

/-- The terms and the trigger logic on one output sample: the trigger, when the output rises (R620). -/
def State.capTerms (s : State) (u : Nat) (x : CapSamp) : State × Option CapTrig :=
  let r := s.cu u
  let hist := (x :: r.hist).take 18
  let runs := (List.range 8).map fun t => termStep (s.termCfg u t) (r.terms.getD t {}) hist x.tau
  let sum := ((runs.zipIdx).map fun (y, t) => b2n y.1.on * 2 ^ t).sum
  let out := s.capLut u sum
  let ev := (runs.zipIdx).findSome? fun (y, t) => (y.2.head?).map fun e => (t, e)
  let trig : CapTrig := match ev with
    | some (t, e) => ⟨e.1, t, e.2⟩
    | none => ⟨x.tau, noTerm, 0⟩
  let s' := (s.onCu u fun r => { r with hist := hist, terms := runs.map (·.1), lut := out }).setF (CAP.USTATE_TERMS u) sum
  (s', if out ∧ ¬ r.lut then some trig else none)

/-! ## Rows -/

/-- A missing analog value (R613). -/
def capMissing : Nat := 0x80000000

/-- One row without N and TS (R612, R613). -/
structure RowData where
  t : Int
  vals : List Nat
  bins : List Bool
  pred : Bool
  lost : Bool
  deriving DecidableEq, Repr

/-- The row of a group of samples, newest first (R613). -/
def State.rowOf (s : State) (u : Nat) (g : List CapSamp) : RowData :=
  let n := g.length
  let avg (i : Nat) : Nat :=
    let xs := g.map fun x => x.val i
    if xs.any (·.isNone) then capMissing
    else
      let sum : Int := (xs.map fun x => x.getD 0).sum
      ofSigned 32 (clampSigned 32 (if n ≤ 1 then sum else rheRat (((sum * 2 ^ s.getF (CAP.UCFG_AVSH u) : Int) : Rat) / (n : Rat))))
  { t := ((g.map fun (x : CapSamp) => x.tau).sum).fdiv n
    vals := (List.range (s.getF (CAP.UCNT_NA u))).map avg
    bins := (g.head?.map (·.bins)).getD []
    pred := g.any fun x => x.vals.any (·.pred)
    lost := g.head?.any (·.lost) }

/-- The words of a row's binary points (R612). -/
def binWords (bs : List Bool) : List Byte :=
  ((List.range ((bs.length + 15) / 16)).map fun w =>
    leBytes 2 (((List.range 16).map fun i => b2n (bs.getD (16 * w + i) false) * 2 ^ i).sum)).flatten

/-- The length of a unit's rows (R612). -/
def State.rowLen (s : State) (u : Nat) : Nat :=
  8 + 4 * s.getF (CAP.UCNT_NA u) + 2 * ((s.getF (CAP.UCNT_NB u) + 15) / 16)

/-- Where a ring pointer points (R627). -/
def State.ringAddr (s : State) (u p : Nat) : Nat := s.rd (CAP.URBASE u) + p % 2 ^ s.getF (CAP.URSIZE_RSIZE u)

/-- Store bytes into the ring from a pointer on (R627): it lies in DRAM. -/
def State.ringWrite (s : State) (u p : Nat) (bs : List Byte) : State :=
  (bs.zipIdx).foldl (fun s (b, i) => s.when (isDram (s.ringAddr u (p + i))) (·.writeByte (s.ringAddr u (p + i)) b)) s

/-- N and TS of row `n` (from 1) at an instant, counted from a first row (R614). -/
def State.rowHead (s : State) (u n : Nat) (first t : Int) : List Byte :=
  leBytes 4 n ++ leBytes 4 (((t - first).fdiv (max 1 (s.getF (CAP.UTSUNIT_TSUNIT u)) : Nat)).toNat)

/-- The distance between two pointers (R627). -/
def ptrDist (a b : Nat) : Nat := (b + 2 ^ 31 - a % 2 ^ 31) % 2 ^ 31

/-- A unit enters ARMED only with room in directory and ring (R629, R630). -/
def State.dirFull (s : State) (u : Nat) : Bool :=
  decide ((s.getF (CAP.UDIRIDX_WIDX u) + 128 - s.getF (CAP.UDIRIDX_RIDX u)) % 128 = 64)

/-- The two conditions of R630. -/
def State.capMayArm (s : State) (u : Nat) : Bool :=
  let size := 2 ^ s.getF (CAP.URSIZE_RSIZE u)
  !s.dirFull u && decide (min (size / 4) (2 ^ 20) + ptrDist (s.rd (CAP.URDPTR u)) (s.rd (CAP.UWRPTR u)) ≤ size)

/-- Rows that no record holds leave the ring. -/
def State.dropRows (s : State) (u : Nat) : State :=
  (s.wr (CAP.UWRPTR u) (s.rd (CAP.UENDPTR u))).onCu u fun r => { r with rows := [], count := 0, first := none, dropped := none }

/-- A unit enters WAIT (R623, R627, R630). -/
def State.capWait (s : State) (u : Nat) : State :=
  let s := (s.dropRows u).setCapSt u 4
  s.when (s.dirFull u) (·.raise (CAP.USTATUS_DIRFULL u))

/-- A unit enters ARMED, or WAIT when it may not (R623, R630). -/
def State.capArm (s : State) (u : Nat) : State :=
  let s := s.dropRows u
  if s.capMayArm u then
    (s.setCapSt u 1).onCu u fun r => { r with trig := none, retrig := 0, shortPre := false, trunc := false, exam := none }
  else s.capWait u

/-- While nothing is unreleased, rows that no longer lie within PRE of the newest leave the ring (R627). -/
def State.capAdvance (s : State) (u : Nat) : State :=
  let rows := (s.cu u).rows
  match rows.getLast? with
  | none => s
  | some n =>
    if s.rd (CAP.URDPTR u) ≠ s.rd (CAP.UENDPTR u) ∨ s.capSt u ≠ 1 then s
    else
      let from_ := n.t - (s.getF (CAP.UPRE_PRE u) : Int) * 1000000
      let keep := rows.filter fun x => decide (from_ ≤ x.t)
      match (rows.filter fun x => decide (x.t < from_)).getLast?, keep.head? with
      | some d, some k => ((s.wr (CAP.URDPTR u) k.ptr).wr (CAP.UENDPTR u) k.ptr).onCu u fun r =>
          { r with rows := keep, dropped := some d.t }
      | _, _ => s

/-- The last instant of a record's window (R626). -/
def State.windowEnd (s : State) (u : Nat) (g : CapTrig) : Int := g.t + (s.getF (CAP.UPOST_POST u) : Int) * 1000000

/-- The first instant of a record's window (R626). -/
def State.windowStart (s : State) (u : Nat) (g : CapTrig) : Int := g.t - (s.getF (CAP.UPRE_PRE u) : Int) * 1000000

/-- The next points of a grid. -/
def gridNexts (g : Grid) : Nat → Nat → List Nat
  | 0, _ => []
  | n + 1, j => g.after j :: gridNexts g n (g.after j)

/-- The instant of the row after the one that ends with sample `j`, when it is known. -/
def State.nextRowAt (s : State) (u j : Nat) : Option Int :=
  let n := max 1 (s.getF (CAP.UCFG_AVN u))
  let ts := (gridNexts (s.grid (s.getF (CAP.UCFG_GRID u))) n j).map (s.capTau u)
  if ts.any (·.isNone) then none else some (((ts.map fun (t : Option Int) => t.getD 0).sum).fdiv n)

/-- A row of a unit is built (R614, R626 to R628). -/
def State.capRow (s : State) (u : Nat) (d : RowData) : State :=
  let st := s.capSt u
  let len := s.rowLen u
  let wr := s.rd (CAP.UWRPTR u)
  let room := decide (ptrDist (s.rd (CAP.URDPTR u)) wr + len ≤ 2 ^ s.getF (CAP.URSIZE_RSIZE u))
  let put (s : State) : State :=
    let r := s.cu u
    let first := r.first.getD d.t
    let s := s.ringWrite u wr (s.rowHead u (r.count + 1) first d.t ++ (d.vals.map (leBytes 4)).flatten ++ binWords d.bins)
    (s.wr (CAP.UWRPTR u) ((wr + len) % 2 ^ 31)).onCu u fun r => { r with
      rows := r.rows ++ [⟨wr, d.t, d.pred, d.vals.contains capMissing, d.lost⟩], count := r.count + 1, first := some first }
  if st = 1 then
    if room then (put s).capAdvance u
    else ((s.raise (CAP.USTATUS_RINGFULL u)).bump (CAP.UOVF u)).capWait u
  else if st = 2 then
    match (s.cu u).trig with
    | none => s
    | some g =>
      if d.t < s.windowStart u g then s
      else if s.windowEnd u g < d.t then s.setCapSt u 3
      else if room then put s
      else ((((s.raise (CAP.USTATUS_TRUNC u)).bump (CAP.UOVF u)).onCu u fun r => { r with trunc := true })).setCapSt u 3
  else s

/-! ## Triggering -/

/-- A trigger that finds the unit recording or waiting (R622). -/
def State.capExtra (s : State) (u : Nat) : State :=
  let st := s.capSt u
  if st = 2 ∨ st = 3 then (s.bump (CAP.URETRIG u)).onCu u fun r => { r with retrig := r.retrig + 1 }
  else if st = 4 ∨ st = 5 then (s.bump (CAP.UMISSED u)).raise (CAP.USTATUS_MISSED u)
  else if st = 1 then s.bump (CAP.URETRIG u)
  else s

/-- A trigger moves the unit to POST: the record starts with the oldest row of its window, and N and TS of the rows it keeps are
rewritten (R614, R623, R626). -/
def State.capTake (s : State) (u : Nat) (g : CapTrig) : State :=
  let r := s.cu u
  let from_ := s.windowStart u g
  let rows := r.rows.filter fun x => decide (from_ ≤ x.t)
  let covered := r.rows.any (fun x => decide (x.t ≤ from_)) || r.dropped.any (fun t => decide (t < from_)) ||
    decide (s.getF (CAP.UPRE_PRE u) = 0)
  let first := rows.head?.map (·.t)
  let s := (rows.zipIdx).foldl (fun s (x, i) => s.ringWrite u x.ptr (s.rowHead u (i + 1) (first.getD 0) x.t)) s
  let s := s.when (!covered) (·.raise (CAP.USTATUS_SHORTPRE u))
  (s.onCu u fun r => { r with rows := rows, count := rows.length, first := first, trig := some g, shortPre := !covered }).setCapSt u 2

/-- The trigger with the earliest instant; of equals the first. -/
def earliest : List CapTrig → Option CapTrig
  | [] => none
  | g :: gs => match earliest gs with
    | some x => some (if x.t < g.t then x else g)
    | none => some g

/-- The samples of a tick pass through rows and triggers in ascending order; `pick` is the trigger that this build takes. -/
def State.capWalk (s : State) (u : Nat) (pick : Option CapTrig) : List (CapSamp × Option CapTrig) → State
  | [] => s
  | (x, lut) :: rest =>
    let s := if s.capSt u = 1 then s.onCu u fun r => { r with exam := some (r.exam.getD x.tau) } else s
    let isPick := decide (lut = pick)
    let s := match pick with
      | some g =>
        if s.capSt u = 1 ∧ (isPick ∨ (254 ≤ g.term ∧ g.term < 256 ∧ g.t ≤ x.tau)) then s.capTake u g else s
      | none => s
    let s := match lut with
      | some _ => if isPick ∧ s.capSt u = 2 then s else s.capExtra u
      | none => s
    let group := x :: (s.cu u).group
    let n := max 1 (s.getF (CAP.UCFG_AVN u))
    let whole := decide (x.j % n = n - 1)
    let s := s.onCu u fun r => { r with group := if whole then [] else group }
    let s := if whole ∧ group.length = n then
        let s := s.capRow u (s.rowOf u group)
        match (s.cu u).trig, s.nextRowAt u x.j with
        | some g, some t => if s.capSt u = 2 ∧ s.windowEnd u g < t then s.setCapSt u 3 else s
        | _, _ => s
      else s
    s.capWalk u pick rest

/-- The terms over the samples of a tick. -/
def State.capScan (s : State) (u : Nat) : List Nat → State × List (CapSamp × Option CapTrig)
  | [] => (s, [])
  | j :: js =>
    match s.capTau u j with
    | none => s.capScan u js
    | some tau =>
      let (s, x) := s.capSamp u j tau
      let s := s.when x.lost (·.raise (CAP.USTATUS_BINLOST u))
      let (s, g) := s.capTerms u x
      let (s, rest) := s.capScan u js
      (s, (x, g) :: rest)

/-- One unit builds the rows of a tick (R611, R620 to R622). -/
def State.capBuild (s : State) (u tick : Nat) : State :=
  if s.capSt u = 0 then s
  else
    let (s, xs) := s.capScan u (s.capTick u tick)
    let ext := (s.cu u).ext
    let s := s.onCu u fun r => { r with ext := [] }
    let pick := if s.capSt u = 1 then earliest (ext ++ xs.filterMap (·.2)) else none
    let s := s.capWalk u pick xs
    let late := ext.find? fun g => some g = pick
    let taken := match late, s.capSt u with
      | some g, 1 => s.capTake u g
      | _, _ => s
    let rest := match late with
      | some g => if taken.capSt u = 2 ∨ taken.capSt u = 3 then ext.erase g else ext
      | none => ext
    rest.foldl (fun s _ => s.capExtra u) taken

/-- The tick whose rows a unit builds when TAB raises a tick (R611): the one raised LAG ticks before it, which is the one LAG
below it where no new TICKDIV numbered the ticks between anew (R104). -/
def State.capDue (s : State) (lag : Nat) : Option Nat :=
  match s.tab.ticks[lag]? with
  | some r => some r.idx
  | none => if lag ≤ s.tab.raised then some (s.tab.raised - lag) else none

/-- TAB raised a tick: every unit builds the rows of the tick LAG before it (R611). -/
def State.capTickRaised (s : State) : State :=
  (List.range 16).foldl (fun s u =>
    match s.capDue (s.getF (CAP.UCFG_LAG u)) with
    | some k => s.capBuild u k
    | none => s) s

/-- A comparator fires at a unit, or software triggers it (R621, R622). -/
def State.capTrigger (s : State) (u : Nat) (g : CapTrig) : State :=
  if s.capSt u = 1 then s.onCu u fun r => { r with ext := r.ext ++ [g] } else s.capExtra u

/-! ## Records -/

/-- A record closes: its directory entry is written, then WIDX rises (R624, R626, R629, R632). -/
def State.recordClose (s : State) (u : Nat) : State :=
  if s.capSt u ≠ 3 then s
  else
    let r := s.cu u
    let g := r.trig.getD ⟨0, noTerm, 0⟩
    let start := (r.rows.head?.map (·.ptr)).getD (s.rd (CAP.UWRPTR u))
    let wr := s.rd (CAP.UWRPTR u)
    let (f0, s) := if r.rows.isEmpty then s.takeFree else (0, s)
    let (f1, s) := if g.term = noTerm then s.takeFree else (0, s)
    let ns (t : Int) : Nat := (t.fmod 1000000000).toNat
    let sec (t : Int) : Nat := (t.fdiv 1000000000 % 2 ^ 32).toNat
    let first : Nat × Nat := match r.rows with
      | x :: _ => (sec x.t, ns x.t)
      | [] => (f0 % 2 ^ 32, f0 / 2 ^ 32 % 2 ^ 32)
    let dead : Nat := match r.exam, r.lastRow with
      | some e, some l => min (e - l).toNat (2 ^ 32 - 1)
      | _, _ => 0
    let words : List Nat :=
      [ (if g.term = noTerm then f1 % 256 else g.term) * 256 + b2n r.trunc + 2 * b2n r.shortPre + 4 * b2n (r.rows.any (·.lost)),
        start, ptrDist start wr, r.rows.length, first.1, first.2, sec g.t, ns g.t,
        (r.rows.filter fun x => decide (x.t ≤ g.t)).length, g.frac, dead, r.retrig,
        (r.rows.filter (·.pred)).length, (r.rows.filter (·.inv)).length,
        s.getF (CAP.UCNT_NA u) * 2 ^ 16 + s.rowLen u, r.seq + 1 ]
    let widx := s.getF (CAP.UDIRIDX_WIDX u)
    let at_ := s.getF (CAP.UDIRBASE_DIRBASE u) * 4096 + widx % 64 * 64
    let s := s.when (isDram at_) (·.writeBytes at_ ((words.map (leBytes 4)).flatten))
    let s := (((s.setF (CAP.UDIRIDX_WIDX u) ((widx + 1) % 128)).wr (CAP.UENDPTR u) wr).bump (CAP.URECS u)).raise (CAP.USTATUS_RECORD u)
    let s := s.onCu u fun r => { r with seq := r.seq + 1, lastRow := (r.rows.getLast?.map (·.t)).or r.lastRow }
    if s.flag (CAP.UCFG_AUTO u) then s.capArm u else (s.dropRows u).setCapSt u 5

/-- A unit in WAIT enters ARMED once it may (R623, R630). -/
def State.capRearm (s : State) (u : Nat) : State := if s.capSt u = 4 ∧ s.capMayArm u then s.capArm u else s

/-- Lull begins: a record under way closes with the rows it has (R625). -/
def State.capLull (s : State) : State :=
  (List.range 16).foldl (fun s u =>
    if s.capSt u = 2 then ((s.raise (CAP.USTATUS_TRUNC u)).onCu u fun r => { r with trunc := true }).setCapSt u 3 else s) s

/-! ## Registers -/

/-- CAP_u_CMD.ARM (R623). -/
def State.capCmdArm (s : State) (u : Nat) : State := if s.capSt u = 5 then s.capArm u else s

/-- CAP_u_CMD.DISARM (R623). -/
def State.capCmdDisarm (s : State) (u : Nat) : State :=
  if s.capSt u = 1 ∨ s.capSt u = 4 then (s.dropRows u).setCapSt u 5 else s

/-- CAP_u_CMD.TRIG (R621). -/
def State.capCmdTrig (s : State) (u : Nat) : State := s.capTrigger u ⟨s.tab.ns, 0xFF, 0⟩

/-- A write of CAP_u_CMD. -/
def State.capCmdWrite (s : State) (u v : Nat) : State :=
  ((s.when (bit v 0) (·.capCmdArm u)).when (bit v 1) (·.capCmdDisarm u)).when (bit v 2) (·.capCmdTrig u)

/-- A software write is refused (R631, R634). -/
def State.capRefuse (s : State) (u : Nat) : State := s.raise (CAP.USTATUS_REFUSED u)

/-- The check of R634. -/
def State.capMayEnable (s : State) (u : Nat) : Bool :=
  let g := s.getF (CAP.UCFG_GRID u)
  let na := s.getF (CAP.UCNT_NA u)
  let nb := s.getF (CAP.UCNT_NB u)
  let d := 2 ^ s.tab.divEff
  let perTick := if s.isTimeGrid g then (1000000000 * 256 + s.rd (SVC.PERIOD g) * 40 * d - 1) / (s.rd (SVC.PERIOD g) * 40 * d)
    else (s.gridPoints g + d - 1) / d
  s.gridOn g &&
    ((List.range na).all fun i => match s.streamOf (s.getF (CAP.ACH_CH u i)) with
      | some st => decide (s.mapped st = some g)
      | none => false) &&
    ((s.capPoints u).all fun p => decide (2 ≤ p / 2 ^ 28 ∧ p / 2 ^ 28 ≤ 4)) &&
    ((List.range 8).all fun t =>
      let c := s.termCfg u t
      decide (c.ty = 0 ∨ c.idx < if c.bin then nb else na)) &&
    decide ((s.getF (CAP.UCFG_LAG u) + 1) * perTick ≤ 256) &&
    decide (s.rd (CAP.URBASE u) % 2 ^ s.getF (CAP.URSIZE_RSIZE u) = 0)

/-- A unit goes OFF: a record in POST or CLOSING is abandoned (R623). -/
def State.capOff (s : State) (u : Nat) : State :=
  ((((s.dropRows u).setF (CAP.UCFG_EN u) 0).setCapSt u 0).setF (CAP.USTATE_TERMS u) 0).onCu u fun _ => {}

/-- A write of CAP_u_CFG (R623, R634). -/
def State.capCfgWrite (s : State) (u v : Nat) : State :=
  let a := CAP.UCFG u
  let old := s.rd a
  let new := s.plain a v
  if bit old 31 then
    let s := s.when (decide (new % 2 ^ 30 ≠ old % 2 ^ 30)) (·.capRefuse u)
    let s := s.setF (CAP.UCFG_AUTO u) (b2n (bit new 30))
    if bit new 31 then s else s.capOff u
  else if ¬ bit new 31 then s.wr a new
  else
    let off := s.wr a (new % 2 ^ 31)
    if ¬ off.capMayEnable u then off.capRefuse u
    else
      let on := (s.wr a new).onCu u fun _ =>
        { terms := List.replicate 8 { base := s.tab.ns }, lut := off.capLut u 0 }
      on.capArm u

/-- A write to a register that a running unit keeps (R634). -/
def State.capHeldWrite (s : State) (u a v : Nat) : State :=
  if s.flag (CAP.UCFG_EN u) then s.capRefuse u else s.plainWrite a v

/-- A write of CAP_u_TRM_t_W0: a type that watches only analog channels is unlisted for a binary point (R616). -/
def State.capTermWrite (s : State) (u t v : Nat) : State :=
  let a := CAP.TRM_W0 u t
  let new := s.plain a v
  let ty := bits new 31 29
  if bit new 28 ∧ (ty = 1 ∨ ty = 3 ∨ ty = 5) then s.wr a (putBits new 31 28 (bits (s.rd a) 31 28)) else s.wr a new

/-- A write of CAP_u_RDPTR (R631). -/
def State.rdptrWrite (s : State) (u v : Nat) : State :=
  let old := s.rd (CAP.URDPTR u)
  let d := ptrDist old (v % 2 ^ 31)
  if 0 < d ∧ d ≤ ptrDist old (s.rd (CAP.UENDPTR u)) then (s.wr (CAP.URDPTR u) (v % 2 ^ 31)).capAdvance u else s.capRefuse u

/-- A write of CAP_u_DIRIDX: its RIDX (R631). -/
def State.ridxWrite (s : State) (u v : Nat) : State :=
  let old := s.getF (CAP.UDIRIDX_RIDX u)
  let d (x : Nat) : Nat := (x + 128 - old) % 128
  if 0 < d (v % 128) ∧ d (v % 128) ≤ d (s.getF (CAP.UDIRIDX_WIDX u)) then s.setF (CAP.UDIRIDX_RIDX u) (v % 128) else s.capRefuse u

/-- CAP_STATUS (R635). -/
def State.capSummary (s : State) : Nat :=
  ((List.range 16).map fun u => b2n (decide (s.rd (CAP.USTATUS u) &&& s.rd (CAP.UENABLE u) ≠ 0)) * 2 ^ u).sum

end Sys2Proof.Machine
end

