-- ==== Sys2Proof/Machine/CpuMem.lean ====
section
/-!
DEFINITION. Machine/CpuMem.lean: the caches of the cycle cores (R436, R437, R478 to R481) and a tenant's accesses through its
windows (R394, R395, R417, R501, R504).
-/

namespace Sys2Proof.Machine

/-! ## Lines -/

/-- The set of a line: its low eight number bits. -/
def setOf (line : Nat) : Nat := line % 256

/-- A cache holds a line. -/
def cacheFind (ls : List CLine) (line : Nat) : Option CLine := ls.find? fun x => x.line = line

/-- A line becomes the most recently used one. -/
def cacheFront (ls : List CLine) (x : CLine) : List CLine := x :: ls.filter fun y => y.line ≠ x.line

/-- Lines of a set. -/
def cacheSet (ls : List CLine) (set_ : Nat) : List CLine := ls.filter fun x => setOf x.line = set_

/-- The line that a fill replaces (R436, R437): of a full set, the unlocked line used least recently. -/
def cacheVictim (ls : List CLine) (line : Nat) : Option CLine :=
  let ways := cacheSet ls (setOf line)
  if ways.length < 4 then none else (ways.filter fun x => !x.locked).getLast?

/-- A dirty line is written back to memory. -/
def State.storeLine (s : State) (x : CLine) : State := if x.dirty then s.writeBytes (x.line * 64) x.bytes else s

/-- One bank access more in a tenant's dispatch (R479). -/
def State.countMiss (s : State) (t n : Nat) : State :=
  s.onTenant t fun x => { x with disp := x.disp.map fun d => { d with misses := d.misses + n } }

/-- Who a tenant's access on a core is (R392, R652). -/
def coreWho (c t : Nat) : MemWho := ⟨c, true, t⟩

/-- Make room in the D-cache for a line, writing back what leaves (R436). -/
def State.dcRoom (s : State) (c line : Nat) : State × Nat :=
  match cacheVictim (s.core c).dl line with
  | none => (s, 0)
  | some v =>
    ((s.storeLine v).onCore c fun k => { k with dl := k.dl.filter fun y => y.line ≠ v.line }, b2n v.dirty)

/-- Bring a line into the D-cache (R478, R479): the line, none where a beat is poisoned; bank accesses are counted for `t` when
`count` says so. -/
def State.dcLine (s : State) (c t line : Nat) (kind : WinKind) (count : Bool) : State × Option CLine :=
  match cacheFind (s.core c).dl line with
  | some x => (s.onCore c fun k => { k with dl := cacheFront k.dl x }, some x)
  | none =>
    let r := s.dcRoom c line
    let q := r.1.memRead (coreWho c t) (line * 64) 64
    let s := if count then q.1.countMiss t (1 + r.2) else q.1
    match q.2 with
    | none => (s, none)
    | some b =>
      let x : CLine := ⟨line, b, false, [], decide (kind = .code), decide (kind = .sample), t⟩
      (s.onCore c fun k => { k with dl := x :: k.dl }, some x)

/-- Touch a line in the I-cache, filling it on a miss (R478, R479): false where a beat is poisoned. -/
def State.icLine (s : State) (c t line : Nat) (count : Bool) : State × Bool :=
  match cacheFind (s.core c).il line with
  | some x => (s.onCore c fun k => { k with il := cacheFront k.il x }, true)
  | none =>
    let s := match cacheVictim (s.core c).il line with
      | none => s
      | some v => s.onCore c fun k => { k with il := k.il.filter fun y => y.line ≠ v.line }
    let q := s.memRead (coreWho c t) (line * 64) 64
    let s := if count then q.1.countMiss t 1 else q.1
    match q.2 with
    | none => (s, false)
    | some b => (s.onCore c fun k => { k with il := ⟨line, b, false, [], true, false, t⟩ :: k.il }, true)

/-- Write back a tenant's dirty lines on its core (R480). -/
def State.cleanTenant (s : State) (t : Nat) : State :=
  let c := s.coreOf t
  let ls := (s.core c).dl
  let s := (ls.filter fun x => x.burgee = t).foldl State.storeLine s
  s.onCore c fun k => { k with dl := k.dl.map fun x => if x.burgee = t then { x with dirty := false } else x }

/-- A tenant gives up its lock on a line (R411, R463); another tenant's lock stays (R437). -/
def CLine.unlock (t : Nat) (x : CLine) : CLine := { x with locks := x.locks.filter (· ≠ t) }

/-- A tenant's lines leave a cache, but for those that another tenant locked (R437). -/
def dropLines (t : Nat) (ls : List CLine) : List CLine :=
  (ls.map (CLine.unlock t)).filter fun x => x.burgee ≠ t || x.locked

/-- Write back a tenant's D-cache lines, then invalidate and unlock them (R411, R421). -/
def State.flushTenant (s : State) (t : Nat) : State :=
  (s.cleanTenant t).onCore (s.coreOf t) fun k => { k with dl := dropLines t k.dl }

/-- The same of both caches of its core, for a move (R421). -/
def State.evictTenant (s : State) (t : Nat) : State :=
  (s.flushTenant t).onCore (s.coreOf t) fun k => { k with il := dropLines t k.il }

/-- Unlock a tenant's lines (R463). -/
def State.unlockTenant (s : State) (t : Nat) : State :=
  s.onCore (s.coreOf t) fun k => { k with dl := k.dl.map (CLine.unlock t), il := k.il.map (CLine.unlock t) }

/-- An exchange or START invalidates the unlocked I-cache lines and the D-cache lines filled through CODE windows (R481). -/
def State.dropCode (s : State) (c : Nat) : State :=
  s.onCore c fun k => { k with il := k.il.filter (·.locked), dl := k.dl.filter fun x => !x.code }

/-- Every SAMPLE line is invalidated at a dispatch's start or resume (R478). -/
def State.dropSamples (s : State) (c : Nat) : State :=
  s.onCore c fun k => { k with dl := k.dl.filter fun x => !x.sample }

/-! ## Locked and warm ranges -/

/-- The lines of a tenant range that a window of a kind holds: physical line and kind. -/
def State.rangeLines (s : State) (t base size : Nat) (ok : WinKind → Bool) : List (Nat × WinKind) :=
  (List.range ((size + 63) / 64)).filterMap fun i =>
    match s.winAt t (base + 64 * i) 64 with
    | some w => if ok w.kind then some (s.physIn t w (base + 64 * i) / 64, w.kind) else none
    | none => none

/-- Kinds whose data path is the D-cache (R478). -/
def WinKind.cached (k : WinKind) : Bool := k = .code || k = .data || k = .sample

/-- A tenant locks a line that a cache holds, unless its set holds three locked lines already (R437). -/
def lockIn (t : Nat) (ls : List CLine) (line : Nat) : List CLine × Bool :=
  if !(cacheFind ls line).any (·.locked) && decide (3 ≤ ((cacheSet ls (setOf line)).filter (·.locked)).length) then (ls, false)
  else (ls.map fun x => if x.line = line then { x with locks := t :: x.locks.filter (· ≠ t) } else x, true)

/-- Load and lock one D-cache line. -/
def State.lockD (s : State) (c t : Nat) (x : Nat × WinKind) : State :=
  let s := (s.dcLine c t x.1 x.2 true).1
  let r := lockIn t (s.core c).dl x.1
  let s := s.onCore c fun k => { k with dl := r.1 }
  if r.2 then s else s.raise (CYC.CSTATUS_LOCK_FULL c)

/-- Load and lock one I-cache line. -/
def State.lockI (s : State) (c t : Nat) (x : Nat × WinKind) : State :=
  let s := (s.icLine c t x.1 true).1
  let r := lockIn t (s.core c).il x.1
  let s := s.onCore c fun k => { k with il := r.1 }
  if r.2 then s else s.raise (CYC.CSTATUS_LOCK_FULL c)

/-- The locked ranges of a tenant's active image are loaded and locked (R437, R563). -/
def State.lockRanges (s : State) (c t : Nat) : State :=
  let slot := s.activeSlot t
  (List.range 4).foldl (fun s i =>
    let s := (s.rangeLines t (s.headerWord t slot (0x40 + 8 * i)) (s.headerWord t slot (0x44 + 8 * i))
      (fun k => k = .code)).foldl (fun s x => s.lockI c t x) s
    (s.rangeLines t (s.headerWord t slot (0x60 + 8 * i)) (s.headerWord t slot (0x64 + 8 * i))
      WinKind.cached).foldl (fun s x => s.lockD c t x) s) s

/-- The warm range of a candidate is pre-rolled (R438): code into the I-cache, data into the D-cache. -/
def State.preroll (s : State) (c t : Nat) : State :=
  let slot := s.activeSlot t
  let size := min (s.headerWord t slot 0x30) 16384
  (s.rangeLines t (s.headerWord t slot 0x2C) size WinKind.cached).foldl (fun s (line, kind) =>
    if kind = .code then (s.icLine c t line false).1 else (s.dcLine c t line kind false).1) s

/-! ## Guards' regions -/

/-- The region of a guard: its first byte and the byte after its last (R417, R426). -/
def State.guardRegion (s : State) (g : Nat) : Nat × Nat :=
  let b := 0x1000000000 + s.getF (CYC.GBASE_GBASE g) * 256
  (b, b + s.getF (CYC.GLEN_LEN g) * 256)

/-- The enabled guards. -/
def State.guardsOn (s : State) : List Nat :=
  (s.listed (CYC.GRDCFG 0) 0x10 4096).filter fun g => s.flag (CYC.GRDCFG_EN g)

/-- The enabled guard whose region holds an address; regions do not overlap (R417). -/
def State.guardAt (s : State) (p : Nat) : Option Nat :=
  s.guardsOn.find? fun g => decide ((s.guardRegion g).1 ≤ p ∧ p < (s.guardRegion g).2)

/-! ## A tenant's accesses -/

/-- What a tenant's access does. -/
inductive AccKind where
  | read | write | atomic
  deriving DecidableEq, Repr

/-- The fault causes of R409 by their codes. -/
def causeNoWin : Nat := 0x01
def causePerm : Nat := 0x02
def causeAlign : Nat := 0x03
def causeIllegal : Nat := 0x04
def causePriv : Nat := 0x05
def causeBudget : Nat := 0x08
def causeYieldHeld : Nat := 0x09
def causeGuardRank : Nat := 0x10
def causeGuardDenied : Nat := 0x11
def causeGuardHold : Nat := 0x12
def causeGuardNest : Nat := 0x13
def causeGuardNotHeld : Nat := 0x14
def causeGuardAccess : Nat := 0x15
def causeEcc : Nat := 0x18
def causeParity : Nat := 0x19
def causeKey : Nat := 0x20
def causeOutput : Nat := 0x21

/-- A GUARD window's rule on an access (R417). -/
def State.guardAllows (s : State) (t p : Nat) (k : AccKind) : Bool :=
  match s.guardAt p with
  | some g => (s.tenant t).held.contains g || (decide (k = .read) && !s.flag (CYC.GRDCFG_RDREQ g))
  | none => decide (k = .read)

/-- A window permits an access (R395, R501, R504): the cause where it does not. -/
def State.winAllows (s : State) (t : Nat) (w : Win) (p : Nat) (k : AccKind) : Option Nat :=
  match w.kind with
  | .code | .sample | .sharedRo => if k = .read then none else some causePerm
  | .data | .stage | .sharedRw | .scratch => none
  | .guard => if s.guardAllows t p k then none else some causeGuardAccess

/-- The checks of an access, alignment first (R500, R509): the window and physical address, or the cause. -/
def State.accCheck (s : State) (t a n : Nat) (k : AccKind) : Except Nat (Win × Nat) :=
  if a % n ≠ 0 then .error causeAlign
  else match s.winAt t a n with
    | none => .error causeNoWin
    | some w =>
      let p := s.physIn t w a
      match s.winAllows t w p k with
      | some c => .error c
      | none => .ok (w, p)

/-- How an access to memory ended: bytes read, a poisoned beat, or memory that does not answer yet. -/
inductive AccRes where
  | ok (s : State) (bytes : List Byte)
  | poison (s : State)
  | wait
  deriving DecidableEq, Repr

/-- Read `n` bytes through a window (R478, R479). -/
def State.winLoad (s : State) (c t : Nat) (w : Win) (p n : Nat) : AccRes :=
  if ¬ s.memReady p then .wait
  else if w.kind = .scratch then .ok s (s.readBytes p n)
  else if w.kind.cached then
    match s.dcLine c t (p / 64) w.kind true with
    | (s, some x) => .ok s (sliceD 0 x.bytes (p % 64) n)
    | (s, none) => .poison s
  else
    match (s.countMiss t 1).memRead (coreWho c t) p n with
    | (s, some b) => .ok s b
    | (s, none) => .poison s

/-- Store bytes through a window (R478, R502). -/
def State.winStore (s : State) (c t : Nat) (w : Win) (p : Nat) (b : List Byte) : AccRes :=
  if ¬ s.memReady p then .wait
  else if w.kind = .scratch then .ok (s.writeBytes p b) []
  else if w.kind.cached then
    match s.dcLine c t (p / 64) w.kind true with
    | (s, some x) =>
      .ok (s.onCore c fun k => { k with
        dl := cacheFront k.dl { x with bytes := overlay x.bytes (p % 64) b, dirty := true, burgee := t } }) []
    | (s, none) => .poison s
  else .ok ((s.countMiss t 1).writeBytes p b) []

/-- One indivisible read and write through a window (R504): `f` gives the new bytes from the old, none to leave them. -/
def State.winAtomic (s : State) (c t : Nat) (w : Win) (p n : Nat) (f : List Byte → Option (List Byte)) : AccRes :=
  match (if w.kind.cached && (cacheFind (s.core c).dl (p / 64)).any (fun x => !x.locked) then s.countMiss t 1 else s).winLoad c t w p n with
  | .ok s old =>
    match f old with
    | none => .ok s old
    | some new =>
      if w.kind = .data then
        match s.winStore c t w p new with
        | .ok s _ => .ok s old
        | r => r
      else .ok (s.writeBytes p new) old
  | r => r

end Sys2Proof.Machine
end

