-- ==== Sys2Proof/Machine/Mem.lean ====
section
/-!
DEFINITION. Machine/Mem.lean: bursts and the bank arbiter, the reactions to memory errors, scrubbing and the commands of MEM
(chapter 14).
-/

namespace Sys2Proof

/-- The beats of a burst; an atomic is a read beat, then a write beat (R652). -/
def Burst.beats (b : Burst) : Nat :=
  match b.kind with
  | .read n => n
  | .write bs => bs.length
  | .atomic _ => 2

/-- Who presents a burst. -/
def Burst.who (b : Burst) : Machine.MemWho := ⟨b.port.val, b.tv, b.burgee.val⟩

/-- The address of a beat. -/
def Burst.beatAddr (b : Burst) (k : Nat) : Nat :=
  match b.kind with
  | .atomic _ => b.addr.toNat
  | _ => b.addr.toNat + 32 * k

/-- A beat is a read. -/
def Burst.reads (b : Burst) (k : Nat) : Bool :=
  match b.kind with
  | .read _ => true
  | .write _ => false
  | .atomic _ => k = 0

/-- What a burst writes at one of its beats. -/
def Burst.writes (b : Burst) (k : Nat) : Option (List (Option Byte)) :=
  match b.kind with
  | .read _ => none
  | .write bs => bs[k]?
  | .atomic new => if k = 1 then some new else none

end Sys2Proof

namespace Sys2Proof.Machine

/-! ## Physical memory -/

/-- How an access to physical memory outside the register space ended (R48, R49, R640, R648). -/
inductive PhysRes where
  | ok (s : State) (bytes : List Byte)
  | fault
  | poison (s : State)
  | wait
  deriving DecidableEq, Repr

/-- The regions of R47 that hold memory. -/
inductive PhysRegion where
  | ram | scratch | readOnly
  deriving DecidableEq, Repr

/-- The region that a byte lies in; none: the register space, or no address of R47. -/
def physRegion (a : Nat) : Option PhysRegion :=
  if isDram a || isSram a then some .ram
  else if 0x2800000000 ≤ a ∧ a < 0x2801000000 then some .scratch
  else if (0x2000000000 ≤ a ∧ a < 0x2040000000) ∨ (0x3FFFF00000 ≤ a ∧ a < 0x4000000000) then some .readOnly
  else none

/-- A byte of a scratch window that no scratch stands behind (R50). -/
def scratchHole (a : Nat) : Bool := decide (0x10000 ≤ (a - 0x2800000000) % 0x40000)

/-- Bytes of the scratch windows: zero where no scratch stands (R50). -/
def State.scratchLoad (s : State) (a n : Nat) : List Byte :=
  (List.range n).map fun i => if scratchHole (a + i) then 0 else s.readByte (a + i)

/-- Store bytes into the scratch windows: those without scratch behind them are dropped (R50). -/
def State.scratchStore (s : State) (a : Nat) : List Byte → State
  | [] => s
  | b :: bs => (if scratchHole a then s else s.writeByte a b).scratchStore (a + 1) bs

/-- The region that all of `n` bytes lie in. -/
def rangeRegion (a n : Nat) : Option PhysRegion := if physRegion (a + (n - 1)) = physRegion a then physRegion a else none

/-- Read bytes of physical memory inside one region (R47 to R50). -/
def State.physLoad (s : State) (who : MemWho) (a n : Nat) : PhysRes :=
  match rangeRegion a n with
  | none => .fault
  | some .ram =>
    if ¬ s.memReady a then .wait
    else match s.memRead who a n with
      | (s, some b) => .ok s b
      | (s, none) => .poison s
  | some .scratch => .ok s (s.scratchLoad a n)
  | some .readOnly => .ok s (s.readBytes a n)

/-- Store bytes into physical memory inside one region (R47 to R50): a store that runs past its end stores nothing. -/
def State.physStore (s : State) (a : Nat) (b : List Byte) : PhysRes :=
  match rangeRegion a b.length with
  | none => .fault
  | some .ram => if s.memReady a then .ok (s.writeBytes a b) [] else .wait
  | some .scratch => .ok (s.scratchStore a b) []
  | some .readOnly => .fault

/-! ## Banks and bursts -/

/-- The bank of an address (R637, R641): SRAM banks 0 to 63, DRAM channels 64 to 71. -/
def bankOf (a : Nat) : Option Nat :=
  if isSram a then some ((a - 0x1000000000) / 0x8000 % 64)
  else if isDram a then some (64 + a / 256 % 8)
  else none

/-- The parameters of a port in REQ_CFG (R652, R666). -/
def State.reqCfg (s : State) (r : Nat) : Nat := s.rd (MEM.REQ_CFG (r - 64))

/-- The longest burst of a port (R652). -/
def State.longest (s : State) (r : Nat) : Nat :=
  if r < 64 then 2 else if r < 92 then bits (s.reqCfg r) 30 20 else if r < 96 then 2 else 1

/-- BASE of a burst (R439, R652). -/
def State.burstBase (s : State) (b : Burst) : Nat :=
  if b.port.val < 64 then
    if b.preroll then 1
    else match s.classOf b.burgee.val with
      | 0 => 15 | 1 => 12 | 2 => 9 | 3 => 6 | _ => 3
  else bits (s.reqCfg b.port.val) 19 16

/-- What a round lost adds to an age, in units of 1/128 (R655). -/
def State.burstStep (s : State) (b : Burst) : Nat :=
  let sh := if b.port.val < 64 then
      if b.preroll then 7
      else match s.classOf b.burgee.val with
        | 0 => 0 | 1 => 1 | 2 => 2 | 3 => 3 | _ => 7
    else bits (s.reqCfg b.port.val) 2 0
  128 / 2 ^ sh

/-- A burst that a requester may present (R653): whole beats inside one unit, no longer than its port's longest. -/
def State.burstOk (s : State) (b : Burst) : Bool :=
  let a := b.addr.toNat
  let size := if isSram a then 0x8000 else 256
  let span := match b.kind with
    | .atomic _ => 1
    | _ => b.beats
  (bankOf a).isSome && decide (a % 32 = 0 ∧ 1 ≤ b.beats ∧ b.beats ≤ s.longest b.port.val ∧ a % size + 32 * span ≤ size)

/-! ## Reactions to errors -/

/-- A value that an SV writer could not store is marked invalid in its quality entry (R648). -/
def State.slotInvalid (s : State) (a : Nat) : State :=
  if sampleBase ≤ a ∧ a < sampleBase + 0x1000000 then
    let c := (a - sampleBase) / 0x400
    let i := (a - sampleBase) % 0x400 / 4
    let q := sampleBase + 0x1000000 + c * 0x80 + i / 2
    let old := (s.readByte q).toNat
    s.writeByte q (BitVec.ofNat 8 (if i % 2 = 0 then putBits old 1 0 1 else putBits old 5 4 1))
  else s

/-- A requester receives a poisoned or parity-failed beat, or the error of a write (R648): `cause` is ECC or PARITY. The movers of
frame data find a poisoned beat as they read it. -/
def State.memReact (s : State) (b : Burst) (cause a : Nat) (write : Bool) : State :=
  let p := b.port.val
  if p < 64 then
    if b.tv ∧ ¬ b.preroll then
      s.onTenant b.burgee.val fun x => { x with late := some (cause, a / 64 * 64), dig := { x.dig with fault := true } }
    else s
  else if p < 80 then
    match (smapGet (fun _ => {}) s.dmv.movers (p - 64)).job with
    | some j =>
      if j.err ≠ 0 then s
      else
        let f := s.takeFree
        { f.2 with dmv := { f.2.dmv with movers := smapUpd (fun _ => {}) f.2.dmv.movers (p - 64) fun m =>
          { m with job := some ⟨if write then 6 else 5, f.1 % (j.moved + 1)⟩ } } }
    | none => s
  else if p < 84 then
    if write then (List.range (8 * b.beats)).foldl (fun s i => s.slotInvalid (b.addr.toNat + 4 * i)) s else s
  else if p < 88 then s
  else if p < 90 then
    let s := if write then s else s.stageErr
    if b.tv then s.onTenant b.burgee.val fun x => { x with dig := { x.dig with fault := true } } else s
  else if p < 92 then
    if cause = causeParity then { s with dmv := { s.dmv with failed := s.dmv.failed ++ [(write, a)] } } else s
  else if p < 96 then
    { s with sup := { s.sup with cores := smapUpd (fun _ => {}) s.sup.cores (p - 92) fun c => { c with late := some (cause, a) } } }
  else s.respond .debug .accessFault

/-! ## The arbiter -/

/-- A request at an arbiter (R655, R657): the cycle in which it was presented, its BASE, step and age, the first of its beats that
is still to move, what it read, whether a beat was poisoned, whether this is the repeat of R646, the cycle of its first beat, and
the ports of lower BASE granted since it was seen. -/
structure ArbReq where
  b : Burst
  since : Nat
  base : Nat
  step : Nat
  age : Nat
  from_ : Nat
  data : List Byte
  poison : Bool
  again : Bool
  first : Option Nat
  lower : List Nat
  deriving DecidableEq, Repr

/-- An arbiter in one cycle: bursts not presented yet, requests that wait, the holder with the beats it moved in this tenure, the
commit cycles left, and the grant that takes effect in this cycle (R654, R660). -/
structure Arb where
  todo : List Burst
  wait : List ArbReq
  hold : Option (ArbReq × Nat)
  commit : Nat
  grant : Option ArbReq
  deriving DecidableEq, Repr

/-- The effective priority of a request (R655). -/
def ArbReq.eff (r : ArbReq) : Nat := min (r.base + r.age / 128) 31

/-- A fresh request of a burst. -/
def State.present (s : State) (b : Burst) (n : Nat) : ArbReq := ⟨b, n, s.burstBase b, s.burstStep b, 0, 0, [], false, false, none, []⟩

/-- Bursts whose cycle has come are presented, at most one of each port (R653). -/
def State.arbPresent (s : State) (n : Nat) : List Burst → Arb → Arb
  | [], k => k
  | b :: bs, k =>
    let has (r : ArbReq) : Bool := r.b.port = b.port
    let busy := k.wait.any has || (k.hold.any fun h => has h.1) || k.grant.any has || k.todo.any fun c => c.port = b.port
    if n < b.start ∨ busy then s.arbPresent n bs { k with todo := k.todo ++ [b] }
    else s.arbPresent n bs { k with wait := k.wait ++ [s.present b n] }

/-- Round-robin distance of a port after the one granted last (R656). -/
def rrDist (last p : Nat) : Nat := (p + 97 - (last + 1) % 97) % 97

/-- Of two requests the one that a decision grants (R656). -/
def arbBetter (last : Nat) (a b : ArbReq) : ArbReq :=
  if b.eff < a.eff then a
  else if a.eff < b.eff then b
  else if b.base < a.base then a
  else if a.base < b.base then b
  else if rrDist last a.b.port.val ≤ rrDist last b.b.port.val then a else b

/-- The request that a decision grants. -/
def arbBest (last : Nat) : List ArbReq → Option ArbReq
  | [] => none
  | r :: rs => match arbBest last rs with
    | none => some r
    | some x => some (arbBetter last r x)

/-- The decision of cycle `n` among the requests seen by then (R654, R656 to R658); `holder` is one that goes on. -/
def arbDecide (last n : Nat) (wait : List ArbReq) (holder : Option ArbReq) : Option ArbReq :=
  let seen := wait.filter fun r => decide (r.since < n)
  let free := seen.filter fun q => !(seen.any fun r => decide (q.base < r.base) && r.lower.contains q.b.port.val)
  match holder with
  | none => arbBest last free
  | some h => arbBest last (free.filter fun r => decide (h.base < r.base ∧ h.base + 2 ≤ r.eff))

/-- A grant leaves the list of requests that wait, and those of higher BASE seen by then note it (R657). -/
def arbGrant (n : Nat) (g : ArbReq) (wait : List ArbReq) : List ArbReq :=
  (wait.filter fun r => r.b.port ≠ g.b.port).map fun r =>
    if r.since < n ∧ g.base < r.base then { r with lower := g.b.port.val :: r.lower } else r

/-- Store the masked bytes of one beat (R638). -/
def State.storeBeat (s : State) (a : Nat) (beat : List (Option Byte)) : State :=
  let old := s.readBytes a 32
  let new := (old.zipIdx).map fun (o, i) => ((beat[i]?).bind id).getD o
  let touched := (List.range 4).filter fun w => (sliceD none beat (8 * w) 8).any (·.isSome)
  touched.foldl (fun s w => s.writeBytes (a + 8 * w) (sliceD 0 new (8 * w) 8)) s

/-- One read beat (R647, R648). -/
def State.readBeat (s : State) (r : ArbReq) (k : Nat) : State × ArbReq :=
  if r.b.reads k then
    let a := r.b.beatAddr k
    let q := s.eccRead r.b.who a 32
    (q.1, { r with data := r.data ++ q.1.readBytes a 32, poison := r.poison || q.2 })
  else (s, r)

/-- What a request's parity fails in this try. -/
def ArbReq.badBeats (r : ArbReq) : List Nat := if r.again then r.b.badAgain else r.b.bad

/-- One parity failure is logged (R645, R649). -/
def State.parityErr (s : State) (b : Burst) (k kind : Nat) : State :=
  ((s.when (decide (kind = 5)) (·.bump MEM.PAR)).raise MEM.STATUS_PARITY).logMemErr b.who (b.beatAddr k / 8 * 8) kind

/-- The requester learns how its burst ended. -/
def State.burstDone (s : State) (r : ArbReq) (error : Bool) : State :=
  s.onMc fun m => { m with served := m.served ++ [⟨r.b.port.val, r.first.getD 0, if error then [] else r.data, error⟩] }

/-- A tenure ends after the beats `from` to `to - 1`: reads are delivered, writes commit (R645 to R648, R660); an atomic that read
a poisoned word writes none. The state, whether anything commits, and the repeat of R646. -/
def State.tenureEnd (s : State) (r : ArbReq) (upTo : Nat) (whole : Bool) : State × Bool × Option ArbReq :=
  let ks := (List.range (upTo - r.from_)).map (r.from_ + ·)
  let failed := ks.filter fun k => r.badBeats.contains k
  let writes := ks.any (fun k => (r.b.writes k).isSome) && !r.poison
  let badW := failed.filter fun k => !r.b.reads k
  let badR := failed.filter r.b.reads
  let s := badW.foldl (fun s k => s.parityErr r.b k 5) s
  let s := badR.foldl (fun s k => s.parityErr r.b k 6) s
  if ¬ badW.isEmpty then
    let p := r.b.port.val
    if 64 ≤ p ∧ p < 92 ∧ ¬ r.again then (s, false, some { r with again := true, age := 0, data := [], poison := false })
    else ((s.memReact r.b causeParity (r.b.beatAddr (badW.headD 0)) true).burstDone r true, false, none)
  else
    let s := if writes then ks.foldl (fun s k => match r.b.writes k with
        | some beat => s.storeBeat (r.b.beatAddr k) beat
        | none => s) s
      else s
    let s := if r.poison then s.memReact r.b causeEcc r.b.addr.toNat false
      else if ¬ badR.isEmpty then s.memReact r.b causeParity (r.b.beatAddr (badR.headD 0)) false else s
    ((if whole then s.burstDone r (r.poison || !badR.isEmpty) else s), writes, none)

/-- The wait of a first beat (R666): in DRAM the manual leaves timing open between its bounds. -/
def State.noteWait (s : State) (bank : Nat) (r : ArbReq) (n : Nat) : State :=
  if r.first.isSome then s
  else
    let f := if bank < 64 then (n - r.since, s) else (s.takeFree.1 % 65536, s.takeFree.2)
    let a := MEM.WAITMAX bank
    f.2.wr a (max (f.2.rd a) (min f.1 65535))

/-- One cycle of an arbiter. -/
def State.arbCycle (s : State) (bank n : Nat) (k : Arb) : State × Arb :=
  let k := s.arbPresent n k.todo { k with todo := [] }
  let lose (r : ArbReq) : ArbReq := { r with age := r.age + r.step }
  let k := match k.grant with
    | some g => { k with wait := k.wait.map lose, hold := some (g, 0), grant := none }
    | none => k
  let k := if k.hold.isNone ∧ 0 < k.commit then { k with commit := k.commit - 1 } else k
  let last := smapGet (fun _ => 96) s.mc.last bank
  let give (s : State) (k : Arb) (g : Option ArbReq) : State × Arb :=
    match g with
    | none => (s, k)
    | some g => (s.onMc fun m => { m with last := smapSet (fun _ => 96) m.last bank g.b.port.val },
        { k with grant := some g, wait := arbGrant n g k.wait })
  match k.hold with
  | none => if k.commit = 0 then give s k (arbDecide last n k.wait none) else (s, k)
  | some (h, moved) =>
    let s := s.noteWait bank h n
    let (s, h) := s.readBeat { h with first := some (h.first.getD n) } (h.from_ + moved)
    let upTo := h.from_ + moved + 1
    let whole := decide (h.b.beats ≤ upTo)
    let cut := !whole && decide (s.getF MEM.ARB_CFG_HOLDLIM ≤ moved + 1)
    if whole || cut then
      let (s, commits, again) := s.tenureEnd h upTo whole
      let s := if cut then
          let s := if s.flag MEM.STATUS_HOG then s
            else s.wr MEM.HOG_INFO (2 ^ 31 + b2n h.b.tv * 2 ^ 30 + (if h.b.tv then h.b.burgee.val else 0) * 2 ^ 20 +
              h.b.port.val * 2 ^ 12 + bank)
          (s.bump MEM.HOG).raise MEM.STATUS_HOG
        else s
      let back : List ArbReq := match again with
        | some r => [{ r with since := n + 1, lower := [] }]
        | none => if cut then [{ h with since := n + 1, age := 0, from_ := upTo, lower := [] }] else []
      let k := { k with hold := none, wait := k.wait ++ back, commit := if commits then 2 else 0 }
      if commits then (s, k) else give s k (arbDecide last n k.wait none)
    else
      match arbDecide last n k.wait (some h) with
      | none => (s, { k with hold := some (h, moved + 1) })
      | some g =>
        let h := { h with data := h.data.take (32 * h.from_), poison := false, since := min h.since n }
        let (s, k) := give (s.bump MEM.PREEMPT) k (some g)
        (s, { k with hold := none, wait := k.wait ++ [h] })

/-- The arbiter runs until everything is served. -/
def State.arbRun (s : State) (bank : Nat) : Nat → Nat → Arb → State
  | 0, _, _ => s
  | fuel + 1, n, k =>
    if k.todo.isEmpty ∧ k.wait.isEmpty ∧ k.hold.isNone ∧ k.grant.isNone then s
    else
      let r := s.arbCycle bank n k
      r.1.arbRun bank fuel (n + 1) r.2

/-- The bursts that a bank is asked for; those of other banks are no part of its arbitration. -/
def State.serve (s : State) (bs : List Burst) : State :=
  match bs with
  | [] => s
  | b :: _ =>
    match bankOf b.addr.toNat with
    | none => s
    | some bank =>
      let bs := bs.filter fun x => s.burstOk x && decide (bankOf x.addr.toNat = some bank)
      let last := (bs.map (·.start)).foldl max 0
      s.arbRun bank (last + 2 ^ 24) 0 ⟨bs, [], none, 0, none⟩

/-- MEM_REQUEST: what is asked of memory that does not answer yet waits (R640, R644). -/
def State.memRequest (s : State) (bs : List Burst) : State :=
  match bs with
  | [] => s
  | b :: _ =>
    if s.memReady b.addr.toNat then
      let s := s.onMc fun m => { m with served := [], selfRefresh := m.selfRefresh && !isDram b.addr.toNat }
      s.serve bs
    else s.onMc fun m => { m with waiting := m.waiting ++ [bs] }

/-- Memory begins to answer: what waited for it is served in order. -/
def State.serveWaiting (s : State) : State :=
  let ready (bs : List Burst) : Bool := match bs with
    | [] => true
    | b :: _ => s.memReady b.addr.toNat
  let now := s.mc.waiting.filter ready
  let s := s.onMc fun m => { m with waiting := m.waiting.filter fun bs => !ready bs, served := [] }
  now.foldl State.serve s

/-! ## Scrub, readiness, refresh -/

/-- The scrubber's accesses (R650). -/
def scrubWho : MemWho := ⟨127, false, 0⟩

/-- The scrubber reads a word (R650). -/
def State.scrubRead (s : State) (a : Nat) : State :=
  let on := if isDram a then s.flag MEM.CTL_DSCRUB_EN else isSram a && s.flag MEM.CTL_SSCRUB_EN
  if on ∧ s.memReady a then (s.eccWords scrubWho [a / 8]).1 else s

/-- A per-bank refresh: the MR4 reading sets the rate (R642, R666). -/
def State.dramRefresh (s : State) (rate : Nat) : State := s.setF MEM.STATE_REFRATE rate

/-- SRAM reads zero with valid check bits (R640). -/
def State.sramZeroDone (s : State) : State :=
  if s.flag MEM.STATE_SRAM_RDY then s
  else
    let s := { s with mem := s.mem.filter fun c => !isSram c.1 }
    let s := s.onMc fun m => { m with bad := m.bad.filter fun x => !isSram (x.1 * 8), sramInit := true }
    (s.setF MEM.STATE_SRAM_RDY 1).serveWaiting

/-- DRAM is trained and reads zero with valid check bits (R644). -/
def State.dramZeroDone (s : State) : State :=
  if s.flag MEM.STATE_DRAM_RDY ∨ s.mc.trainFailed then s
  else
    let s := { s with mem := s.mem.filter fun c => !isDram c.1 }
    let s := s.onMc fun m => { m with bad := m.bad.filter fun x => !isDram (x.1 * 8), dramInit := true }
    (s.setF MEM.STATE_DRAM_RDY 1).serveWaiting

/-- DRAM training fails (R644). -/
def State.dramTrainFail (s : State) : State :=
  if s.flag MEM.STATE_DRAM_RDY ∨ s.mc.trainFailed then s
  else ((s.raise MEM.STATUS_TRAIN_FAIL).onMc fun m => { m with trainFailed := true }).serveWaiting

/-- The DRAM devices return to self-refresh (R740). -/
def State.selfRefreshEntry (s : State) : State := s.onMc fun m => { m with selfRefresh := true }

/-! ## Commands -/

/-- MEM_CMD.INJ (R651). -/
def State.injArm (s : State) : State := s.onMc fun m => { m with inj := some (s.getF MEM.INJ_ADDR, s.getF MEM.INJ_KIND) }

/-- MEM_CMD.LOG_CLR (R649). -/
def State.memLogClr (s : State) : State := (s.wr MEM.ERR_ADDR 0).wr MEM.ERR_INFO 0

/-- MEM_CMD.CNT_CLR (R666). -/
def State.memCntClr (s : State) : State :=
  s.zeroAll [MEM.SCE, MEM.SUE, MEM.DCE, MEM.DUE, MEM.PAR, MEM.HOG, MEM.PREEMPT]

/-- A write of MEM_CMD. -/
def State.memCmdWrite (s : State) (v : Nat) : State :=
  ((s.when (bit v 0) (·.memLogClr)).when (bit v 1) (·.memCntClr)).when (bit v 2) (·.injArm)

end Sys2Proof.Machine
end

