-- ==== Sys2Proof/Machine/Dmv.lean ====
section
/-!
DEFINITION. Machine/Dmv.lean: rings, host receive and transmit, and the registers of the data movers (chapter 15).
-/

namespace Sys2Proof.Machine

/-- Change the movers. -/
def State.onDmv (s : State) (f : DmvState → DmvState) : State := { s with dmv := f s.dmv }

/-- One mover. -/
def State.mover (s : State) (m : Nat) : Mover := smapGet (fun _ => {}) s.dmv.movers m

/-- Change one mover. -/
def State.onMover (s : State) (m : Nat) (f : Mover → Mover) : State :=
  s.onDmv fun d => { d with movers := smapUpd (fun _ => {}) d.movers m f }

/-- A mover's state (R691): 0 OFF, 1 IDLE, 2 BUSY, 3 HALTED. -/
def State.moverSt (s : State) (m : Nat) : Nat := s.getF (DMV.MSTATE_STATE m)

/-- Change a mover's state. -/
def State.setMoverSt (s : State) (m st : Nat) : State := s.setF (DMV.MSTATE_STATE m) st

/-- HEAD and TAIL count modulo 131,072 (R669). -/
def dmvMod : Nat := 131072

/-- Descriptors the mover owns: from HEAD up to TAIL (R669). -/
def State.moverOwns (s : State) (m : Nat) : Nat := (s.rd (DMV.MTAIL m) + dmvMod - s.rd (DMV.MHEAD m)) % dmvMod

/-- The size of a ring in descriptors (R668). -/
def State.ringSize (s : State) (m : Nat) : Nat := 2 ^ s.getF (DMV.MCFG_RSIZE m)

/-- Where descriptor `i` lies (R669). -/
def State.descAddr (s : State) (m i : Nat) : Nat := s.rd (DMV.MRBASE m) + i % s.ringSize m * 32

/-- A mover's own accesses (R671). -/
def moverWho (m : Nat) : MemWho := ⟨64 + m, false, 0⟩

/-- Frame data of receive and transmit rings (R671). -/
def hostWho (tx : Bool) : MemWho := ⟨if tx then 91 else 90, false, 0⟩

/-- The k-th word of bytes. -/
def wordAt (b : List Byte) (k : Nat) : Nat := ofLe (sliceD 0 b (4 * k) 4)

/-- The error codes of R681. -/
inductive DmvErr where
  | len | overlap | access | regAlign | poison | wParity | desc
  deriving DecidableEq, Repr

/-- The number of an error code. -/
def DmvErr.num : DmvErr → Nat
  | .len => 1 | .overlap => 2 | .access => 3 | .regAlign => 4 | .poison => 5 | .wParity => 6 | .desc => 7

/-- A descriptor ends with an error: the mover halts behind it (R682). -/
def State.moverHalt (s : State) (m code head : Nat) : State :=
  (((s.raise (DMV.MSTATUS_ERR m)).setF (DMV.MSTATE_ERRCODE m) code).setMoverSt m 3).wr (DMV.MHEAD m) (head % dmvMod)

/-- Advance HEAD past completed descriptors (R682, R691). -/
def State.moverPass (s : State) (m n : Nat) : State :=
  (s.wr (DMV.MHEAD m) ((s.rd (DMV.MHEAD m) + n) % dmvMod)).bumpBy (DMV.MDESCS m) n

/-- A mover of a kind works its ring. -/
def State.moverRuns (s : State) (m kind : Nat) : Bool :=
  s.flag (DMV.MCFG_EN m) && decide (s.getF (DMV.MCFG_KIND m) = kind) && decide (s.moverSt m ≠ 3)

/-- Descriptors from index `i` on, `n` of them. -/
inductive DescRes where
  | ok (s : State) (ds : List (List Byte))
  /-- The descriptor with this index could not be read. -/
  | bad (s : State) (i : Nat)
  | wait
  deriving DecidableEq, Repr

/-- Read descriptors through the mover's port, up to one that `stop` names (R670, R671). -/
def State.readDescs (s : State) (m : Nat) (stop : List Byte → Bool) : Nat → Nat → DescRes
  | 0, _ => .ok s []
  | n + 1, i =>
    match s.physLoad (moverWho m) (s.descAddr m i) 32 with
    | .wait => .wait
    | .fault => .bad s i
    | .poison s => .bad s i
    | .ok s b =>
      if stop b then .ok s [b]
      else match s.readDescs m stop n (i + 1) with
        | .ok s ds => .ok s (b :: ds)
        | r => r

/-- Write words of a descriptor back. -/
def State.descStore (s : State) (m i : Nat) (ws : List (Nat × Nat)) : State :=
  ws.foldl (fun s (k, v) => match s.physStore (s.descAddr m i + 4 * k) (leBytes 4 v) with
    | .ok s _ => s
    | _ => s) s

/-! ## Host receive rings -/

/-- A frame that SWC delivers on HOST goes to the mover of its class, or is discarded (R684). -/
def State.dmvDeliver (s : State) (f : Frame) : State :=
  let c := f.info.tc % 8
  let m := s.getF (DMV.RXMAP_MOVER c)
  if s.flag (DMV.RXMAP_EN c) ∧ s.flag (DMV.MCFG_EN m) ∧ s.getF (DMV.MCFG_KIND m) = 1 then
    s.onMover m fun x => { x with rx := x.rx ++ [f] }
  else (s.bump DMV.RXNOMAP).raise DMV.STATUS_RXNOMAP

/-- The code of a checksum result (R685). -/
def CsumRes.num : CsumRes → Nat
  | .none => 0 | .good => 1 | .bad => 2 | .absent => 3

/-- The words of the SOF descriptor that tell of a frame: W4 to W7 (R685). -/
def rxInfoWords (i : FrameInfo) : List (Nat × Nat) :=
  let sec := i.rxNs / 1000000000
  let lan := match i.red with
    | some r => if r.lanB then 2 else 1
    | none => 0
  let seq := match i.red with
    | some r => r.seq % 65536
    | none => 0
  [ (4, i.rxNs % 1000000000), (5, sec % 2 ^ 32), (6, sec / 2 ^ 32 % 65536 * 65536 + i.vid % 4096),
    (7, i.ipSum.num * 2 ^ 30 + i.l4Sum.num * 2 ^ 28 + lan * 2 ^ 26 + i.tc % 8 * 2 ^ 23 + i.inPort % 16 * 2 ^ 19 + seq) ]

/-- Where a descriptor's buffer lies (R685, R689). -/
def bufAddr (d : List Byte) (align : Nat) : Nat := wordAt d 3 % 256 * 2 ^ 32 + wordAt d 2 / align * align

/-- The parts of a frame by buffer. -/
def frameParts (size : Nat) : Nat → List Byte → List (List Byte)
  | 0, _ => []
  | n + 1, b => b.take size :: frameParts size n (b.drop size)

/-- How the buffers of a frame were filled. -/
inductive FillRes where
  | ok (s : State)
  /-- The k-th buffer's address ends with an access fault (R48, R49). -/
  | fault (s : State) (k : Nat)
  | wait
  deriving DecidableEq, Repr

/-- Write the parts of a frame into buffers, the first of them the k-th. -/
def State.fillBufs (s : State) : Nat → List (List Byte × List Byte) → FillRes
  | _, [] => .ok s
  | k, (d, b) :: rest =>
    match s.physStore (bufAddr d 64) b with
    | .ok s _ => s.fillBufs (k + 1) rest
    | .wait => .wait
    | .fault | .poison _ => .fault s k

/-- A mover discards the rest of a frame; the buffers stay with it (R687). -/
def State.rxTrunc (s : State) (m : Nat) : State := (s.bump (DMV.MRXTRUNC m)).raise (DMV.MSTATUS_RXTRUNC m)

/-- Beats of a buffer failed by parity at the switch-host port (R648, R687): the state without the note of them, and whether. -/
def State.takeFailed (s : State) (write : Bool) (a n : Nat) : State × Bool :=
  let here (x : Bool × Nat) : Bool := x.1 == write && decide (0 < n ∧ a < x.2 + 32 ∧ x.2 < a + n)
  (s.onDmv fun d => { d with failed := d.failed.filter fun x => !here x }, s.dmv.failed.any here)

/-- The same over the parts of a frame: address and length of each. -/
def State.takeFailures (s : State) (write : Bool) (ps : List (Nat × Nat)) : State × Bool :=
  ps.foldl (fun (r : State × Bool) p =>
    let q := r.1.takeFailed write p.1 p.2
    (q.1, r.2 || q.2)) (s, false)

/-- An RXH mover places the next HOST frame of its ring (R685 to R688). A buffer outside the map or at an address that takes no
write ends with an error completion (R48, R49, R682); one whose data write failed twice is discarded with STATUS.ERR (R646). -/
def State.rxPlace (s : State) (m : Nat) : State :=
  let s0 := s
  match (s.mover m).rx with
  | [] => s
  | f :: rest =>
    if ¬ s.moverRuns m 1 then s
    else
      let size := s.getF (DMV.MCFG_BUFSZ m)
      let n := max 1 ((f.bytes.length + size - 1) / size)
      let own := s.moverOwns m
      let head := s.rd (DMV.MHEAD m)
      match s.readDescs m (fun _ => false) (min n own) head with
      | .wait => s
      | .bad s' i => (s'.onMover m fun x => { x with rx := rest }).moverHalt m DmvErr.desc.num (i + 1)
      | .ok s ds =>
        let s := s.onMover m fun x => { x with rx := rest }
        if own = 0 then (s.bump (DMV.MRXNOBUF m)).raise (DMV.MSTATUS_RXNOBUF m)
        else
          let parts := frameParts size n f.bytes
          match s.fillBufs 0 (ds.zip parts) with
          | .wait => s0
          | .fault s k => s.moverHalt m DmvErr.access.num (head + k + 1)
          | .ok s =>
            let r := s.takeFailures true ((ds.zip parts).map fun x => (bufAddr x.1 64, x.2.length))
            let s := r.1
            if r.2 then (s.rxTrunc m).raise (DMV.MSTATUS_ERR m)
            else if own < n then s.rxTrunc m
            else
              let last := n - 1
              let s := ((parts.zipIdx).reverse).foldl (fun s (p, k) =>
                let s := s.when (decide (k = 0)) fun s => s.descStore m head (rxInfoWords f.info)
                let s := s.when (decide (k = last)) fun s => s.descStore m (head + k) [(1, f.bytes.length % 65536)]
                s.descStore m (head + k)
                  [(0, 2 ^ 31 + b2n (decide (k = 0)) * 2 ^ 30 + b2n (decide (k = last)) * 2 ^ 29 + p.length % 65536)]) s
              (s.moverPass m n).bump (DMV.MRXFRAMES m)

/-! ## Host transmit rings -/

/-- The bytes of a frame's buffers: none where an address holds no memory; whether a beat was poisoned. -/
inductive GatherRes where
  | ok (s : State) (bytes : List Byte) (poison : Bool)
  /-- The k-th buffer's address ends with an access fault. -/
  | fault (s : State) (k : Nat)
  | wait
  deriving DecidableEq, Repr

/-- Read the buffers of a frame in ring order through port 91 (R671, R689). -/
def State.gather (s : State) : Nat → List (List Byte) → GatherRes
  | _, [] => .ok s [] false
  | k, d :: ds =>
    let n := wordAt d 0 % 65536
    match (if n = 0 then .ok s [] else s.physLoad (hostWho true) (bufAddr d 1) n) with
    | .wait => .wait
    | .fault => .fault s k
    | .poison s => match s.gather (k + 1) ds with
      | .ok s b _ => .ok s (List.replicate n 0 ++ b) true
      | r => r
    | .ok s b => match s.gather (k + 1) ds with
      | .ok s b' p => .ok s (b ++ b') p
      | r => r

/-- A TXH mover passes the next frame of its ring to SWC (R689); a beat that is poisoned or failed by parity marks it bad (R648). -/
def State.txPlace (s : State) (m : Nat) : State :=
  if ¬ s.moverRuns m 2 then s
  else
    let head := s.rd (DMV.MHEAD m)
    match s.readDescs m (fun d => bit (wordAt d 0) 29) (s.moverOwns m) head with
    | .wait => s
    | .bad s i => s.moverHalt m DmvErr.desc.num (i + 1)
    | .ok s' ds =>
      match ds.head?, ds.getLast? with
      | some d0, some dn =>
        if ¬ bit (wordAt dn 0) 29 then s
        else match s'.gather 0 ds with
          | .wait => s
          | .fault s k => s.moverHalt m DmvErr.access.num (head + k + 1)
          | .ok s b poison =>
            let w := wordAt d0 0
            let r := s.takeFailures false (ds.map fun d => (bufAddr d 1, wordAt d 0 % 65536))
            let s := r.1
            let poison := poison || r.2
            let s := s.hostToSwitch b (bits w 24 22) { tsReq := bit w 21, csumIns := bit w 20, errMark := poison }
            let s := s.when poison (·.raise (DMV.MSTATUS_ERR m))
            let s := (ds.zipIdx).foldl (fun s (d, k) => s.descStore m (head + k) [(0, wordAt d 0 ||| 2 ^ 31)]) s
            s.moverPass m ds.length
      | _, _ => s

/-! ## Registers -/

/-- A write of DMV_m_TAIL (R669). -/
def State.tailWrite (s : State) (m v : Nat) : State :=
  let new := v % dmvMod
  if s.ringSize m < (new + dmvMod - s.rd (DMV.MHEAD m)) % dmvMod then s.raise (DMV.MSTATUS_REFUSED m)
  else s.wr (DMV.MTAIL m) new

/-- A mover ends: its descriptor gets no write-back and HEAD stays on it (R683). -/
def State.moverOff (s : State) (m : Nat) : State :=
  ((s.setF (DMV.MCFG_EN m) 0).setMoverSt m 0).onMover m fun _ => {}

/-- A buffer size that R691 lists: 256 to 16,384 bytes, a multiple of 64. -/
def bufSizeOk (n : Nat) : Bool := decide (256 ≤ n ∧ n ≤ 16384 ∧ n % 64 = 0)

/-- A write of DMV_m_CFG (R683, R691). -/
def State.mcfgWrite (s : State) (m v : Nat) : State :=
  let a := DMV.MCFG m
  let old := s.rd a
  let new := s.plain a v
  let new := if bufSizeOk (bits new 14 0) then new else putBits new 14 0 (bits old 14 0)
  if bit old 31 then
    let s := s.when (decide (new % 2 ^ 31 ≠ old % 2 ^ 31)) (·.raise (DMV.MSTATUS_REFUSED m))
    if bit new 31 then s else s.moverOff m
  else (s.wr a new).when (bit new 31) (·.setMoverSt m 1)

/-- A write of DMV_m_RBASE (R691). -/
def State.mrbaseWrite (s : State) (m v : Nat) : State :=
  if s.flag (DMV.MCFG_EN m) then s.raise (DMV.MSTATUS_REFUSED m) else s.plainWrite (DMV.MRBASE m) v

/-- DMV_m_CMD.RESUME (R682). -/
def State.moverResume (s : State) (m : Nat) : State := if s.moverSt m = 3 then s.setMoverSt m 1 else s

/-- DMV_CMD.CNT_CLR (R691). -/
def State.dmvCntClr (s : State) : State :=
  (s.wr DMV.RXNOMAP 0).zeroAll (((List.range 16).map fun m =>
    [DMV.MDESCS m, DMV.MRXFRAMES m, DMV.MRXTRUNC m, DMV.MRXNOBUF m]).flatten)

/-- DMV_STATUS.UNIT (R691). -/
def State.dmvSummary (s : State) : Nat :=
  ((List.range 16).map fun m => b2n (decide (s.rd (DMV.MSTATUS m) &&& s.rd (DMV.MENABLE m) ≠ 0)) * 2 ^ m).sum

/-! ## Completion -/

/-- The descriptor in progress completes (R682). -/
def State.descComplete (s : State) (m : Nat) : State :=
  match (s.mover m).job with
  | none => s
  | some j =>
    let head := s.rd (DMV.MHEAD m)
    let w0 := s.readLe (s.descAddr m head) 4
    let s := s.onMover m fun x => { x with job := none }
    let s := s.descStore m head [(7, j.moved), (0, 2 ^ 31 + bits w0 30 28 * 2 ^ 28 + j.err * 2 ^ 24 + w0 % 2 ^ 24)]
    let s := s.moverPass m 1
    if j.err = 0 then
      (s.when (bit w0 4) (·.raise (DMV.MSTATUS_DONE m))).setMoverSt m 1
    else s.moverHalt m j.err (head + 1)

end Sys2Proof.Machine
end

