-- ==== Sys2Proof/Machine/RdeBase.lean ====
section
/-!
DEFINITION. Machine/RdeBase.lean: pair tenants, the numbered messages of the Halyard link and the page lists of a transfer, which
the executives need too, with the digests of R284 to R290 (R273, R274, R291, R293).
-/

namespace Sys2Proof.Machine

/-! ## CRC-64/XZ -/

/-- One bit of CRC-64/XZ (R284). -/
def crc64Bit (c : Nat) : Nat := if c % 2 = 1 then c / 2 ^^^ 0xC96C5795D7870F42 else c / 2

/-- One byte of CRC-64/XZ. -/
def crc64Byte (c : Nat) (b : Byte) : Nat := (List.range 8).foldl (fun c _ => crc64Bit c) (c ^^^ b.toNat)

/-- CRC-64/XZ of some bytes (R284). -/
def crc64 (b : List Byte) : Nat := b.foldl crc64Byte (2 ^ 64 - 1) ^^^ (2 ^ 64 - 1)

/-! ## Messages -/

/-- Halyard lane `h` is in UP (R275) with its transmitter on: Calm entry turns it off (R751). -/
def State.laneUp (s : State) (h : Nat) : Bool :=
  s.isHalyard (8 + h) && decide ((s.port (8 + h)).link = .up) && !s.sys.entering

/-- The EtherType of every Halyard message (R273). -/
def halyardType : Nat := 0x88B5

/-- The TYPE of a message (R273). -/
def HalMsg.type : HalMsg → Nat
  | .heartbeat .. => 1 | .tick .. => 2 | .digest .. => 3 | .pageList .. => 4 | .page .. => 5 | .pubState .. => 6 | .xferEnd .. => 7

/-- The length of a message from the destination address to the FCS (R273). DEDUCED (log 134): a digest takes 11 bytes, as 128 of them
and the rest take 1,454; R273 gives the lists of checksums and of publications a limit only. -/
def HalMsg.len : HalMsg → Nat
  | .digest _ items => max 64 (46 + 11 * items.length)
  | .page .. => 1056
  | .pageList _ _ crcs => max 64 (min 1518 (Config.halyardLen 4 crcs.length))
  | .pubState _ _ pubs => max 64 (min 1518 (Config.halyardLen 6 pubs.length))
  | _ => 64

/-- A lane's statistics counters keep counting while it carries the Halyard link (R135, R182). -/
def State.countHal (s : State) (p : Nat) (tx : Bool) (m : HalMsg) : State :=
  let base := if tx then 0x480 else 0x400
  let sizes := if tx then 0x498 else 0x41C
  let s := (s.cntBy p base m.len).cntBy p (base + 4) 1
  let s := [0, 1, 2].foldl (fun s k => s.cntBy p (base + 8 + 4 * k) (b2n (decide (Config.halyardCast = k)))) s
  s.cntBy p (sizes + 4 * sizeSlot m.len) 1

/-- A message goes out on both lanes that are in UP, with the next number (R273, R274). -/
def State.halSend (s : State) (m : HalMsg) : State :=
  let h0 := s.laneUp 0
  let h1 := s.laneUp 1
  let seq := s.rde.halTx
  let s := s.onRde fun r => { r with halTx := (seq + 1) % 65536 }
  let s := (s.when h0 (·.countHal 8 true m)).when h1 (·.countHal 9 true m)
  if h0 || h1 then s.emit (.halyard h0 h1 seq m) else s

/-- A message that arrives on a Halyard lane is heard: the lane admits frames (R133), and this module is of a pair (R282). -/
def State.halHears (s : State) (lane : Nat) : Bool :=
  s.isHalyard (8 + lane) && (s.port (8 + lane)).admits && decide (s.rde.pair ≠ .off)

/-! ## Pair tenants -/

/-- Change a pair tenant's record. -/
def State.onTenRde (s : State) (t : Nat) (f : TenRde → TenRde) : State :=
  s.onRde fun r => { r with tens := smapUpd (fun _ => {}) r.tens t f }

/-- The pair tenants (R299). -/
def State.pairTenants (s : State) : List Nat := (List.range 1024).filter s.pairTenant

/-- A tenant's data area: DBASE and DSIZE of its active image (R563). -/
def State.dataAreaOf (s : State) (t : Nat) : Nat × Nat :=
  (s.headerWord t (s.activeSlot t) 0x14, s.headerWord t (s.activeSlot t) 0x18)

/-- A pair tenant is not dispatched yet for a descriptor's tick: it waits, or that tick lies before the target tick of its transfer
(R290, R291). -/
def State.pairBars (s : State) (t tick : Nat) : Bool :=
  s.pairTenant t && (decide ((s.tenRde t).st = .wait) ||
    (decide ((s.tenRde t).st = .shadow) && (s.tenRde t).target.any fun x => !tickReached tick x))

/-- One quarter of a 4 KiB page of a tenant's data area; the bytes past its end are zero. -/
def State.quarterBytes (s : State) (t index quarter : Nat) : List Byte :=
  let (base, size) := s.dataAreaOf t
  (List.range 1024).map fun i =>
    let off := index * 4096 + quarter * 1024 + i
    if size ≤ off then 0
    else ((s.tenantBytes t (base + off) 1 (fun k => k = .data)).bind (·.head?)).getD 0

/-- A 4 KiB page of a tenant's data area. -/
def State.pageBytes (s : State) (t index : Nat) : List Byte :=
  ((List.range 4).map fun q => s.quarterBytes t index q).flatten

/-- The CRC-64 of each page of a tenant's data area (R273). -/
def State.pageCrcs (s : State) (t : Nat) : List Nat :=
  (List.range (((s.dataAreaOf t).2 + 4095) / 4096)).map fun i => crc64 (s.pageBytes t i)

/-- Checksums that one PAGELIST frame holds. DEDUCED (log 134): 1,518 bytes less the 46 that a DIGEST has besides its digests. -/
def pagesPerList : Nat := 184

/-- A list in parts of a length. -/
def chunks (n : Nat) : Nat → List Nat → List (List Nat)
  | 0, _ => []
  | fuel + 1, xs => if xs.length ≤ n then [xs] else xs.take n :: chunks n fuel (xs.drop n)

/-- The joiner asks for a tenant's transfer (R291 step 1): its PAGELIST takes as many frames as it needs (R273). -/
def State.sendPageList (s : State) (t : Nat) : State :=
  let crcs := s.pageCrcs t
  (chunks pagesPerList (crcs.length + 1) crcs).foldl (fun s part => s.halSend (.pageList t crcs.length part))
    (s.onTenRde t fun r => { r with target := none, pages := [], pubs := [], got := 0 })

/-- A pair tenant returns to WAIT (R290). -/
def State.toWait (s : State) (t : Nat) : State :=
  s.onTenRde t fun r => { r with st := .wait, matches_ := 0, lastTick := none, mine := [], theirs := [], hold := false }

/-- A TNR or CLR of a pair tenant while the partner is ALONE or PAIRED (R290, R293). -/
def State.pairReset (s : State) (t : Nat) : State :=
  if s.pairTenant t ∧ s.rde.seen ∧ (s.rde.partner = .alone ∨ s.rde.partner = .paired) then (s.toWait t).sendPageList t else s

/-! ## Pair states and digests -/

/-- The pair state becomes PAIRED. -/
def State.enterPaired (s : State) : State := (s.onRde fun r => { r with pair := .paired }).raise RDE.STATUS_PAIRED

/-- TRANSFER ends when every pair tenant has left WAIT and Windsock follows the partner; SHADOW ends when every one is ACTIVE or
SILENT (R282, R283). -/
def State.pairAdvance (s : State) : State :=
  let s := if s.rde.pair = .transfer ∧ s.tab.ws = .partner ∧ s.pairTenants.all (fun t => (s.tenRde t).st ≠ .wait) then
      s.onRde fun r => { r with pair := .shadow }
    else s
  if s.rde.pair = .shadow ∧ s.pairTenants.all (fun t => (s.tenRde t).st = .active || (s.tenRde t).st = .silent) then s.enterPaired
  else s

/-- Publications of a digest, in ascending index; those of one index in the order they were written. -/
def insertPub (x : Nat × List Byte) : List (Nat × List Byte) → List (Nat × List Byte)
  | [] => [x]
  | y :: ys => if x.1 < y.1 then x :: y :: ys else y :: insertPub x ys

/-- The digest of R284. -/
def Dig.value (g : Dig) : Nat :=
  if g.pubs.isEmpty ∧ g.ops.isEmpty then 0
  else
    let ps := g.pubs.foldl (fun l x => insertPub x l) []
    crc64 ((ps.map fun x => Config.digestIndex x.1 ++ x.2).flatten ++
      (g.ops.map fun o => Config.digestOp o.fn o.pub o.data).flatten)

/-- A sample of a tenant's subscription set for a tick is predicted now, or its validity is not good (R285). -/
def State.samplesBad (s : State) (t tick : Nat) : Bool :=
  (s.tickOuts (s.streamsFor t (s.tickIdx tick)) (s.tickIdx tick)).any fun r => r.invalid || r.quest || !r.preds.isEmpty

/-- What a tenant's dispatches did in the tick of its digest, and whether a self-check fault was among it (R285). -/
def State.selfCheck (s : State) (t : Nat) : Bool := (s.tenant t).dig.fault || s.samplesBad t (s.tenant t).dig.tick

/-- A tenant goes SILENT by the fault table (R287, R288). -/
def State.demote (s : State) (t : Nat) : State :=
  if (s.tenRde t).st = .active then (s.onTenRde t fun r => { r with st := .silent }).raise RDE.STATUS_DEMOTED else s

/-- The count of matching ticks in a row restarts (R289, R290). -/
def State.matchesEnd (s : State) (t : Nat) : State := s.onTenRde t fun r => { r with matches_ := 0 }

/-- One more matching tick in a row, and what 16 of them do (R289, R290). A SILENT tenant counts only while AUTORES = 1; in ALONE
only RDE_TCMD releases a tenant (R294). -/
def State.matched (s : State) (t : Nat) : State :=
  let counts : Bool := match (s.tenRde t).st with
    | .shadow => decide (s.rde.pair ≠ .alone)
    | .silent => s.flag RDE.PAIR_CFG_AUTORES && decide (s.rde.pair ≠ .alone)
    | _ => false
  if ¬ counts then s.matchesEnd t
  else if 16 ≤ (s.tenRde t).matches_ + 1 then s.onTenRde t fun r => { r with st := .active, matches_ := 0, hold := true }
  else s.onTenRde t fun r => { r with matches_ := r.matches_ + 1 }

/-- The two digests of tick `k` meet (R286, R287). A tick counts once among the matching ones. -/
def State.digestMeet (s : State) (t k : Nat) (mine theirs : Nat × Bool) : State :=
  let again := decide ((s.tenRde t).lastTick = some k)
  let s := s.onTenRde t fun r => { r with lastTick := some k }
  if mine.1 = theirs.1 then
    if mine.2 || theirs.2 then s.matchesEnd t else if again then s else s.matched t
  else
    let s := ((s.setF ⟨RDE.DIVF (t / 32), t % 32, 1⟩ 1).bump RDE.DIV).raise RDE.STATUS_DIVERGE
    let s := s.matchesEnd t
    match mine.2, theirs.2 with
    | true, false => s.demote t
    | true, true => if s.rde.leader then s else s.demote t
    | _, _ => s

/-- Compare the digests of a tenant, in order, while both of a tick are present (R286). -/
def State.digestCompare (s : State) (t : Nat) : Nat → State
  | 0 => s
  | fuel + 1 =>
    let r := s.tenRde t
    match r.mine with
    | [] => s
    | (k, d, f) :: rest =>
      match r.theirs.dropWhile fun x => x.1 ≠ k with
      | [] => s
      | (_, d', f') :: later =>
        let s := s.onTenRde t fun r => { r with mine := rest, theirs := later }
        ((s.digestMeet t k (d, f) (d', f')).pairAdvance).digestCompare t fuel

/-- The digests of another tick that still wait when a tenant yields are late (R286): the tick is counted and compared no more. -/
def State.digestLate (s : State) (t k : Nat) : State :=
  let r := s.tenRde t
  let old := r.mine.filter fun x => x.1 ≠ k
  if old = [] then s
  else
    let s := s.onTenRde t fun r => { r with mine := r.mine.filter fun x => x.1 = k }
    if s.rde.seen ∧ (old.any fun x => decide (r.lastTick ≠ some x.1)) then
      ((s.matchesEnd t).bump RDE.DIG_LATE).raise RDE.STATUS_DIGEST_LATE
    else s

/-- A dispatch of a pair tenant ended (R284 to R286): unless another of the same tick waits, the tick's digest goes out. -/
def State.digestSend (s : State) (t : Nat) : State :=
  let k := (s.tenant t).dig.tick
  if ¬ s.pairTenant t ∨ s.rde.pair = .off then s
  else
    let s := s.digestLate t k
    if (s.pendingOf t).any fun x => decide (descTick x.2.2 = k) then s
    else
      let d := (s.tenant t).dig.value
      let f := s.selfCheck t
      let s := s.when f (·.matchesEnd t)
      let s := (s.onTenRde t fun r => { r with mine := r.mine ++ [(k, d, f)] }).halSend (.digest k [(t, d, f)])
      s.digestCompare t 16

end Sys2Proof.Machine
end

