-- ==== Sys2Proof/Machine/Cyc.lean ====
section
/-!
DEFINITION. Machine/Cyc.lean: tenant states, faults, guards, tenant resets and moves, windows, dispatch, the cluster watchdog,
forces and the exchange of images (chapters 08 and 09).
-/

namespace Sys2Proof.Machine

/-- A core is halted by the debug port (R768). -/
def State.halted (s : State) (n : Nat) : Bool := s.flag (DBG.NSTATE_HALTED n)

/-- A tenant enters a state. -/
def State.setTenSt (s : State) (t : Nat) (x : TenSt) : State := s.setF (CYC.TSTATE_STATE t) x.num

/-! ## Guards -/

/-- RANK of a guard. -/
def State.rankOf (s : State) (g : Nat) : Nat := s.getF (CYC.GRDCFG_RANK g)

/-- The highest rank a tenant holds; 0 when it holds none (R413, R425). -/
def State.topRank (s : State) (t : Nat) : Nat := ((s.tenant t).held.map s.rankOf).foldl max 0

/-- The tenant may use a guard's group (R413). -/
def State.inGroups (s : State) (t g : Nat) : Bool :=
  let n := s.getF (CYC.GRDCFG_GROUP g)
  if n < 32 then bit (s.rd (CYC.TGRPLO t)) n else bit (s.rd (CYC.TGRPHI t)) (n - 32)

/-- Who waits for a guard, earliest first. -/
def State.waiters (s : State) (g : Nat) : List Nat := smapGet (fun _ => []) s.cyc.waiters g

/-- Replace a guard's waiters. -/
def State.setWaiters (s : State) (g : Nat) (ws : List Nat) : State :=
  s.onCyc fun c => { c with waiters := smapSet (fun _ => []) c.waiters g ws }

/-- What GACQ writes to its register at the grant (R505). -/
def State.grantWord (s : State) (g : Nat) : Nat := b2n (s.flag (CYC.GSTATE_TORN g)) + s.rankOf g * 256

/-- A guard passes to a tenant (R413, R415). -/
def State.giveGuard (s : State) (g t : Nat) : State :=
  ((s.setF (CYC.GSTATE_HELD g) 1).setF (CYC.GSTATE_HOLDER g) t).onTenant t fun x => { x with held := x.held ++ [g] }

/-- Write a general register; g0 discards it (R473). -/
def Regs.setG (r : Regs) (i : Nat) (v : Nat) : Regs :=
  if i = 0 then r else { r with g := smapSet (fun _ => 0) r.g i (BitVec.ofNat 64 v) }

/-- Read a general register; g0 reads 0. -/
def Regs.getG (r : Regs) (i : Nat) : Nat := if i = 0 then 0 else (smapGet (fun _ => (0 : DWord)) r.g i).toNat

/-- Read a vector register. -/
def Regs.getV (r : Regs) (i : Nat) : Nat := (smapGet (fun _ => (0 : BitVec 128)) r.v i).toNat

/-- Write a vector register. -/
def Regs.setV (r : Regs) (i : Nat) (v : Nat) : Regs :=
  { r with v := smapSet (fun _ => 0) r.v i (BitVec.ofNat 128 v) }

/-- A predicate; p0 is 1 (R473). -/
def Regs.getP (r : Regs) (i : Nat) : Bool := i == 0 || bit r.p.toNat i

/-- Write a predicate; p0 discards it. -/
def Regs.setP (r : Regs) (i : Nat) (b : Bool) : Regs :=
  if i = 0 then r else { r with p := BitVec.ofNat 8 (putBits r.p.toNat i i (b2n b)) }

/-- A waiting GACQ completes at the grant (R505). -/
def State.grantWaiter (s : State) (g t : Nat) : State :=
  let v := s.grantWord g
  (s.giveGuard g t).onTenant t fun x => { x with
    disp := x.disp.map fun d =>
      match d.wait with
      | some (_, rd) => { d with wait := none, regs := { (d.regs.setG rd v) with pc := ((d.regs.pc.setWidth 32) + 4).setWidth 64 } }
      | none => d }

/-- The next waiter: lowest class number, among those the earliest (R415). -/
def State.nextWaiter (s : State) (ws : List Nat) : Option Nat :=
  ws.foldl (fun b t => match b with
    | none => some t
    | some u => if s.classOf t < s.classOf u then some t else some u) none

/-- A guard that was given back goes to its next waiter, or is free (R415). -/
def State.passGuard (s : State) (g : Nat) : State :=
  let ws := s.waiters g
  match s.nextWaiter ws with
  | some t => (s.setWaiters g (ws.filter (· ≠ t))).grantWaiter g t
  | none => (s.setF (CYC.GSTATE_HELD g) 0).setF (CYC.GSTATE_HOLDER g) 0

/-- A tenant releases a guard (R415, R418): TORN is set on a forced release and cleared on a normal one. -/
def State.releaseGuard (s : State) (t g : Nat) (torn : Bool) : State :=
  let s := s.onTenant t fun x => { x with held := x.held.filter (· ≠ g) }
  (s.setF (CYC.GSTATE_TORN g) (b2n torn)).passGuard g

/-- A tenant leaves the waiters (R411, R415, R505). -/
def State.leaveWait (s : State) (t : Nat) : State :=
  let s := s.onCyc fun c => { c with waiters := smapMap (fun _ => []) (fun _ ws => ws.filter (· ≠ t)) c.waiters }
  s.onTenant t fun x => { x with disp := x.disp.map fun d => { d with wait := none } }

/-- Every guard a tenant holds is released and marked TORN (R418). -/
def State.tearGuards (s : State) (t : Nat) : State :=
  (s.tenant t).held.foldl (fun s g => s.releaseGuard t g true) (s.leaveWait t)

/-- What a guard request comes to (R413). -/
inductive GuardReq where
  | fault (cause : Nat)
  | grant
  | wait
  deriving DecidableEq, Repr

/-- A guard request is decided (R413). -/
def State.guardRequest (s : State) (t g : Nat) : GuardReq :=
  let held := (s.tenant t).held
  if ¬ s.flag (CYC.GRDCFG_EN g) ∨ ¬ s.inGroups t g then .fault causeGuardDenied
  else if held.length = 8 then .fault causeGuardNest
  else if 0 < held.length ∧ s.rankOf g ≤ s.topRank t then .fault causeGuardRank
  else if ¬ s.flag (CYC.GSTATE_HELD g) ∧ s.waiters g = [] then .grant
  else .wait

/-! ## Leaving ACTIVE, and faults -/

/-- A tenant stops running: its core is free (R409, R431). -/
def State.offCore (s : State) (t : Nat) : State :=
  let c := s.coreOf t
  if (s.core c).run = some t then s.onCore c fun k => { k with run := none, stall := 0 } else s

/-- A tenant's dispatches are given up. -/
def State.dropDispatches (s : State) (t : Nat) : State :=
  (s.offCore t).onTenant t fun x => { x with
    disp := none, initDue := false, initAt := none, tickAt := none, eventAt := none, stopReq := false }

/-- An armed exchange is cancelled (R460): TNR, DISARM, or the tenant leaving ACTIVE. -/
def State.cancelXchg (s : State) (t : Nat) : State :=
  if s.getF (CYC.XCHG_XSTATE t) = 1 then
    ((s.setF (CYC.XCHG_XSTATE t) 0).setF (CYC.XCHG_CODE t) 4).raise CYC.STATUS_XCHG_ERR
  else s

/-- A tenant leaves ACTIVE for a state other than MOVING (R388, R460, R480, R592). -/
def State.leaveActive (s : State) (t : Nat) (x : TenSt) : State :=
  (((s.cancelXchg t).cleanTenant t).setTenSt t x).ownerLeft t

/-- Record a fault (R409, R425, R511). -/
def State.recordFault (s : State) (t cause pc addr : Nat) : State :=
  let s := if s.getF (CYC.TFAULT_FIRST t) = 0 then
      (((s.setF (CYC.TFAULT_FIRST t) cause).wr (CYC.TFPC t) (pc % 2 ^ 32)).wr (CYC.TFADDR t) (addr % 2 ^ 32)).wr
        (CYC.TFTICK t) s.tab.tickNum
    else s
  let s := s.setF (CYC.TFAULT_LAST t) cause
  let s := s.setF (CYC.TFAULT_COUNT t) (min (s.getF (CYC.TFAULT_COUNT t) + 1) 255)
  s.setF ⟨CYC.TFLT (t / 32), t % 32, 1⟩ 1

/-- A dispatch ends (R431): its bank accesses and its blocking are measured (R444). -/
def State.measured (s : State) (t : Nat) : State :=
  match (s.tenant t).disp with
  | none => s
  | some d =>
    let s := s.setF (CYC.DSTAT_MISSMAX t) (max (s.getF (CYC.DSTAT_MISSMAX t)) (min d.misses 65535))
    let f := s.takeFree
    f.2.setF (CYC.BLKMAX_NS t) (max (f.2.getF (CYC.BLKMAX_NS t)) (f.1 % 65536))

/-- What a dispatch that faults leaves in the digest of its tick (R284, R285): what it issued counts, what it staged does not. -/
def State.faultNote (s : State) (t : Nat) : State :=
  s.onTenant t fun x => { x with dig := { x.dig with
    ops := x.dig.ops ++ (x.disp.map (·.ops)).getD []
    fault := true } }

/-- Where a fault takes a tenant (R388): RESETTING when its reset is automatic, FAULTED otherwise. -/
def State.faultTo (s : State) (t : Nat) (auto : Bool) : State :=
  if auto then ((s.onTenant t fun x => { x with restart := true }).leaveActive t .resetting).pairReset t
  else s.leaveActive t .faulted

/-- A tenant faults (R388, R389, R409, R418, R435): its dispatch ends and what it staged is discarded. MOVING ends by its completion
alone (R388), so a tenant whose dispatch faults there goes on only then. -/
def State.tenantFault (s : State) (t cause pc addr : Nat) : State :=
  let ran := (s.tenant t).disp.isSome
  let s := (((s.measured t).recordFault t cause pc addr).tearGuards t).faultNote t
  let s := (s.dropDispatches t).when ran (·.digestSend t)
  let auto := s.flag (CYC.TCFG_FPOL t) && decide (s.getF (CYC.TFAULT_RSTCNT t) < s.getF (CYC.TCFG_AUTORST t))
  let s := s.when auto fun s => s.setF (CYC.TFAULT_RSTCNT t) (s.getF (CYC.TFAULT_RSTCNT t) + 1)
  if s.tenSt t = .moving then s.onTenant t fun x => { x with move := x.move.map fun m => (m.1, if auto then 4 else 3) }
  else s.faultTo t auto

/-- The fault of the dispatch that runs on a tenant, at its program counter. -/
def State.faultHere (s : State) (t cause addr : Nat) : State :=
  let pc := ((s.tenant t).disp.map fun d => d.regs.pc.toNat).getD 0
  s.tenantFault t cause pc addr

/-! ## Tenant commands -/

/-- CYC_TRES after a tenant command (R389, R424). -/
def State.tres (s : State) (code : Nat) : State := s.wr CYC.TRES (code * 2)

/-- A tenant becomes ACTIVE to run its INIT entry from the next tick boundary (R388, R437, R474). -/
def State.activate (s : State) (t : Nat) : State :=
  (s.setTenSt t .active).onTenant t fun x => { x with initDue := true, fresh := true, needLock := true }

/-- TCMD START (R388, R391, R481). -/
def State.tcmdStart (s : State) (t : Nat) : State :=
  if s.tenSt t = .stopped then
    (((s.setF (CYC.TFAULT_RSTCNT t) 0).dropCode (s.coreOf t)).activate t).tres 0
  else s.tres 1

/-- A STOP takes effect (R388). -/
def State.stopNow (s : State) (t : Nat) : State := ((s.dropDispatches t).leaveWait t).leaveActive t .stopped

/-- TCMD STOP (R388). -/
def State.tcmdStop (s : State) (t : Nat) : State :=
  if s.tenSt t = .active then
    if (s.core (s.coreOf t)).run = some t then (s.onTenant t fun x => { x with stopReq := true }).tres 0
    else (s.stopNow t).tres 0
  else s.tres 1

/-- A tenant reset starts (R388, R411). -/
def State.startTnr (s : State) (t : Nat) (restart : Bool) : State :=
  let s := (s.tearGuards t).dropDispatches t
  ((s.onTenant t fun x => { x with restart := restart }).leaveActive t .resetting).pairReset t

/-- TCMD RESET (R388, R411, R412). -/
def State.tcmdReset (s : State) (t : Nat) (restart : Bool) : State :=
  match s.tenSt t with
  | .active | .stopped | .faulted => (s.startTnr t restart).tres 0
  | _ => s.tres 1

/-- The fields of class T of a tenant (R30, R411). -/
def isTenantField (t : Nat) (r : RegDesc) (is : List Nat) (f : FieldDesc) : Bool :=
  decide (f.cls = .t ∧ is.head? = some t ∧ 0x3000640000 ≤ r.base ∧ r.base < 0x3000680000)

/-- What a TNR clears of a tenant's own state (R411): D-cache lines, queues and the fields of class T. -/
def State.clearTenant (s : State) (t : Nat) : State :=
  let s := (s.flushTenant t).onTenant t fun x => { x with evq := [], gap := false, osq := [] }
  { s with regs := smapMap regDefault (resetWord (isTenantField t)) s.regs }

/-- CLR gives up a tenant's locked lines and the marks of R465 as well (R731). -/
def State.dropMarks (s : State) (t : Nat) : State := (s.unlockTenant t).onTenant t fun x => { x with subst := [], substOn := false }

/-- Windows of a kind of a tenant. -/
def State.winsOf (s : State) (t : Nat) (k : WinKind) : List Win := (s.wins t).filter fun w => w.kind = k

/-- Two physical ranges meet. -/
def Win.meets (a b : Win) : Bool := rangesMeet a.pbase a.size b.pbase b.size

/-- A tenant is on a core, or an accepted move takes it there (R420, R421). -/
def State.onOrTo (s : State) (t c : Nat) : Bool := decide (s.coreOf t = c) || (s.tenant t).move.any fun m => m.1 = c

/-- The tenant's SCRATCH windows overlap those of another tenant on a core, or on its way there (R420, R421). -/
def State.scratchClash (s : State) (t c : Nat) : Bool :=
  s.validTenants.any fun u => u ≠ t && s.onOrTo u c &&
    (s.winsOf u .scratch).any fun a => (s.winsOf t .scratch).any fun b => a.meets b

/-- Valid tenants bound to a core (R420). -/
def State.boundTo (s : State) (c : Nat) : List Nat := s.validTenants.filter fun t => s.coreOf t = c

/-- How many tenants a core holds, with those that move to it (R420, R421). -/
def State.tenantsOn (s : State) (c : Nat) : Nat := (s.validTenants.filter fun t => s.onOrTo t c).length

/-- TCMD MOVE (R388, R421). A tenant that leaves ACTIVE loses an armed exchange (R460). -/
def State.tcmdMove (s : State) (t m : Nat) : State :=
  match s.tenSt t with
  | .active | .stopped =>
    if 32 ≤ s.tenantsOn m then s.tres 2
    else if s.scratchClash t m then s.tres 3
    else
      let old := (s.tenSt t).num
      (((s.cancelXchg t).onTenant t fun x => { x with move := some (m, old) }).setTenSt t .moving).tres 0
  | _ => s.tres 1

/-- TCMD FCLEAR (R410). -/
def State.tcmdFclear (s : State) (t : Nat) : State :=
  let s := ((s.setF (CYC.TFAULT_COUNT t) 0).setF (CYC.TFAULT_LAST t) 0).setF (CYC.TFAULT_FIRST t) 0
  (s.zeroAll [CYC.TFPC t, CYC.TFADDR t, CYC.TFTICK t]).tres 0

/-! ## Forces -/

/-- A force entry. -/
def State.forceAt (s : State) (i : Nat) : Option Force := smapGet (fun _ => none) s.cyc.forces i

/-- Store a force entry. -/
def State.setForce (s : State) (i : Nat) (f : Option Force) : State :=
  s.onCyc fun c => { c with forces := smapSet (fun _ => none) c.forces i f }

/-- The identifier is one that R452 lists. -/
def pointOk (p : Nat) : Bool :=
  match bits p 31 28 with
  | 1 => decide (bits p 27 14 = 0)
  | 2 => decide (bits p 27 20 = 0)
  | 3 => decide (bits p 27 21 = 0 ∧ bits p 20 8 ≤ 4351)
  | 4 => decide (bits p 27 3 = 0)
  | _ => false

/-- No image and no mapping names a point (R457). -/
def State.pointOrphan (s : State) (p : Nat) : Bool :=
  if bits p 31 28 = 4 then !(s.flag (PUB.SO_EN (p % 8)) && s.pubsLive.contains (s.getF (PUB.SO_PUBN (p % 8))))
  else s.validTenants.all fun t => !(s.pointList t (s.activeSlot t)).contains p

/-- The orphan evaluation of R457. -/
def State.orphans (s : State) : State :=
  let news := s.cyc.forces.any fun (_, f) => f.any fun f => !f.orphan && s.pointOrphan f.point
  let s := s.onCyc fun c => { c with
    forces := c.forces.map fun (i, f) => (i, f.map fun f => { f with orphan := s.pointOrphan f.point }) }
  s.when news (·.raise CYC.STATUS_FRC_ORPHAN)

/-- PUB_CMD.FLIP (R571): the publications that SAFE_OUT lines map to may change with it (R457). -/
def State.pubFlipped (s : State) : State := s.pubFlip.orphans

/-- A write to PUB_CMD (R605). -/
def State.pubCmdWrite (s : State) (v : Nat) : State := (s.when (bit v 0) (·.pubFlipped)).when (bit v 1) (·.pubCntClr)

/-- CYC_FRC_RES after a command (R469): INDEX stays the entry that FIND found last. -/
def State.frcRes (s : State) (code : Nat) : State := s.setF CYC.FRC_RES_CODE code

/-- The valid entry that names a point. -/
def State.forceFind (s : State) (p : Nat) : Option Nat :=
  (s.cyc.forces.find? fun (_, f) => f.any fun f => f.point = p).map (·.1)

/-- A force command was written: FRC_CMD holds its INDEX and OP (R469). -/
def State.frcOp (s : State) (op : Nat) : State := s.setF CYC.FRC_CMD_OP op

/-- The same of a command that names an entry. -/
def State.frcOn (s : State) (i op : Nat) : State := (s.setF CYC.FRC_CMD_INDEX i).frcOp op

/-- POINT, VALUE and QV of an entry that was written with VALID = 0. -/
def State.idleAt (s : State) (i : Nat) : Nat × Nat × Nat := smapGet (fun _ => (0, 0, 0)) s.cyc.idleForce i

/-- Replace them. -/
def State.setIdle (s : State) (i : Nat) (x : Nat × Nat × Nat) : State :=
  s.onCyc fun c => { c with idleForce := smapSet (fun _ => (0, 0, 0)) c.idleForce i x }

/-- A force command is complete: FORCE_ACT_N is driven low when it leaves a valid entry (R455). -/
def State.frcLight (s : State) : State := s.onCyc fun c => { c with forceLit := c.forceLit || !c.forces.isEmpty }

/-- Force READ (R469). -/
def State.frcRead (s : State) (i : Nat) : State :=
  let s := match s.forceAt i with
    | some f => ((s.wr CYC.FRC_D0 f.point).wr CYC.FRC_D1 f.value).wr CYC.FRC_D2 (2 ^ 31 + b2n f.orphan * 2 ^ 30 + f.qv)
    | none =>
      let x := s.idleAt i
      ((s.wr CYC.FRC_D0 x.1).wr CYC.FRC_D1 x.2.1).wr CYC.FRC_D2 x.2.2
  s.frcRes 0

/-- Force WRITE (R452, R456, R469). -/
def State.frcWrite (s : State) (i : Nat) : State :=
  let p := s.rd CYC.FRC_D0
  let v := s.rd CYC.FRC_D1
  let q := s.getF CYC.FRC_D2_QV
  if ¬ pointOk p then s.frcRes 3
  else if ¬ s.flag CYC.FRC_D2_VALID then ((((s.setForce i none).setIdle i (p, v, q)).frcRes 0).orphans).frcLight
  else if (s.forceFind p).any fun j => j ≠ i then s.frcRes 2
  else ((((s.setForce i (some ⟨p, v, q, false⟩)).setIdle i (0, 0, 0)).frcRes 0).orphans).frcLight

/-- Force DELETE (R455): the entry is cleared. -/
def State.frcDelete (s : State) (i : Nat) : State := (((s.setForce i none).setIdle i (0, 0, 0)).frcRes 0).frcLight

/-- Force FIND (R456, R469): the index of the entry that names the point in D0 goes to the result. -/
def State.frcFind (s : State) : State :=
  if ¬ pointOk (s.rd CYC.FRC_D0) then s.frcRes 3
  else match s.forceFind (s.rd CYC.FRC_D0) with
    | some i => (s.setF CYC.FRC_RES_INDEX i).frcRes 0
    | none => s.frcRes 1

/-- Force CLEARALL (R469). -/
def State.frcClearAll (s : State) : State := (s.onCyc fun c => { c with forces := [], idleForce := [] }).frcRes 0

/-- The forces written and cleared take effect at a tick boundary (R455). -/
def State.forcesAct (s : State) : State :=
  let now := s.cyc.forces.foldl (fun (m : SMap (Option Force)) (_, f) =>
    match f with
    | some f => smapSet (fun _ => none) m f.point (some f)
    | none => m) []
  let s := s.onCyc fun c => { c with forceLit := !now.isEmpty }
  if now = s.cyc.inForce then s
  else (((s.onCyc fun c => { c with inForce := now }).rxForces).forceChanges).linesNote

/-! ## Exchange -/

/-- The data area of a slot: DBASE and DSIZE (R563). -/
def State.dataArea (s : State) (t slot : Nat) : Nat × Nat := (s.headerWord t slot 0x14, s.headerWord t slot 0x18)

/-- A tenant range lies in windows of a kind, page by page. -/
def State.rangeIn (s : State) (t base size : Nat) (k : WinKind) : Bool :=
  (List.range ((base + size + 4095) / 4096 - base / 4096)).all fun i =>
    match s.winAt t ((base / 4096 + i) * 4096) 1 with
    | some w => w.kind = k
    | none => false

/-- One entry of a carry map (R462). -/
structure Carry where
  old : Nat
  new : Nat
  typ : Nat
  len : Nat
  aux : Nat
  deriving DecidableEq, Repr

/-- The carry map from an entry on, up to END: none when it leaves its window, is too long, or lists another type (R461, R462). -/
def State.carryMap (s : State) (t : Nat) (win : Win) : Nat → Nat → Option (List Carry)
  | 0, _ => none
  | n + 1, a =>
    match (if win.holds a 16 then s.tenantBytes t a 16 (fun _ => true) else none) with
    | none => none
    | some b =>
      let w (i : Nat) := ofLe (sliceD 0 b (4 * i) 4)
      let e : Carry := ⟨w 0, w 1, bits (w 2) 31 24, bits (w 2) 15 0, w 3⟩
      if e.typ = 0 then some []
      else if 6 < e.typ then none
      else (s.carryMap t win n (a + 16)).map (e :: ·)

/-- The carry map of a tenant lies in one DATA or SHARED_RO window, with at most 16,384 entries before END (R461). -/
def State.carries (s : State) (t : Nat) : Option (List Carry) :=
  let a := s.getF (CYC.CMAP_MAP t) * 16
  match s.winAt t a 16 with
  | some w => if w.kind = .data ∨ w.kind = .sharedRo then s.carryMap t w 16385 a else none
  | none => none

/-- An entry is aligned and lies within both data areas (R461). -/
def Carry.fits (e : Carry) (oldSize newSize : Nat) : Bool :=
  decide (e.old % 4 = 0 ∧ e.new % 4 = 0 ∧ e.old + e.len ≤ oldSize ∧ e.new + e.len ≤ newSize)

/-- The checks of R461: 0, or the refusal's code. -/
def State.xchgCheck (s : State) (t : Nat) : Nat :=
  let o := s.activeSlot t
  let n := 1 - o
  let a := s.dataArea t o
  let b := s.dataArea t n
  if ¬ s.headerOk t n ∨ ¬ s.rangeIn t b.1 b.2 .data ∨ rangesMeet a.1 a.2 b.1 b.2 then 2
  else match s.carries t with
    | none => 3
    | some es => if es.all fun e => e.fits a.2 b.2 then 0 else 3

/-- Store bytes at tenant addresses, straight to memory. -/
def State.tenantStore (s : State) (t a : Nat) (b : List Byte) : State :=
  b.zipIdx.foldl (fun s (x, i) =>
    match s.winAt t (a + i) 1 with
    | some w => s.writeByte (s.physIn t w (a + i)) x
    | none => s) s

/-- One entry of the carry map takes effect (R462, R463). -/
def State.carryOne (s : State) (t db dn : Nat) (e : Carry) : State :=
  match e.typ with
  | 1 | 2 | 4 => s.tenantStore t (dn + e.new) ((s.tenantBytes t (db + e.old) e.len (fun _ => true)).getD [])
  | 3 => s.tenantStore t (dn + e.new) (List.replicate e.len 0)
  | 5 => s.tenantStore t (dn + e.new) (leBytes 4 0xFFFFFFFF)
  | _ => s.onTenant t fun x => { x with subst := x.subst ++ [e.aux] }

/-- Bytes an entry writes (R464). -/
def Carry.bytes (e : Carry) : Nat := match e.typ with
  | 5 => 4 | 6 => 0 | _ => e.len

/-- The carry-over and the switch (R463, R464, R480, R481). -/
def State.carryOver (s : State) (t : Nat) : State :=
  let o := s.activeSlot t
  let es := (s.carries t).getD []
  let s := s.flushTenant t
  let db := (s.dataArea t o).1
  let dn := (s.dataArea t (1 - o)).1
  let s := s.onTenant t fun x => { x with subst := [], substOn := false }
  let s := es.foldl (fun s e => s.carryOne t db dn e) s
  let bound := 1000 + 8 * es.length + ((es.map Carry.bytes).sum + 15) / 16
  let f := s.takeFree
  let s := f.2.wr (CYC.XCOPY t) (f.1 % (bound + 1))
  let s := ((s.unlockTenant t).setF (CYC.XCHG_ACT t) (1 - o)).dropCode (s.coreOf t)
  let s := s.onTenant t fun x => { x with fresh := true, needLock := true }
  (((s.setF (CYC.XCHG_XSTATE t) 0).setF (CYC.XCHG_CODE t) 0).raise CYC.STATUS_XCHG_DONE).orphans

/-- An exchange that copies completes (R460). -/
def State.finishCopy (s : State) (t : Nat) : State := if s.getF (CYC.XCHG_XSTATE t) = 2 then s.carryOver t else s

/-! ## Completion of a tenant reset and of a move -/

/-- A TNR completes (R388, R411); a copy under way completes before it (R460). The pair state of a pair tenant is RDE's (R293). -/
def State.tnrDone (s : State) (t : Nat) : State :=
  let s := (s.finishCopy t).clearTenant t
  if (s.tenant t).restart then s.activate t else s.setTenSt t .stopped

/-- Copy one SCRATCH window between two cores (R421). -/
def State.copyScratch (s : State) (c m : Nat) (w : Win) : State :=
  s.writeBytes (scratchBase m + w.pbase) (s.readBytes (scratchBase c + w.pbase) w.size)

/-- The state that follows MOVING (R388): a STOP that waited, or a fault, takes effect now. -/
def State.moveEnds (s : State) (t old : Nat) : State :=
  match old with
  | 1 => s.setTenSt t .stopped
  | 3 => s.faultTo t false
  | 4 => s.faultTo t true
  | _ =>
    let s := s.setTenSt t .active
    if (s.tenant t).stopReq then s.stopNow t else s.eventReady t

/-- A move completes once the tenant is not running (R421, R422). -/
def State.moveDone (s : State) (t : Nat) : State :=
  match (s.tenant t).move with
  | none => s
  | some (m, old) =>
    let c := s.coreOf t
    if s.tenSt t ≠ .moving ∨ (s.core c).run = some t then s
    else
      let s := (s.finishCopy t).evictTenant t
      let s := (s.winsOf t .scratch).foldl (fun s w => s.copyScratch c m w) s
      let s := (s.setF (CYC.TBIND_CORE t) m).onTenant t fun x => { x with move := none, needLock := true }
      s.moveEnds t old

/-! ## Binding, windows and lists -/

/-- A write of CYC_t_BIND with VALID = 1 (R388, R420, R457). SCRATCH windows that would overlap on the core bar it (R420). -/
def State.tenantBind (s : State) (t v : Nat) : State :=
  let s := match s.tenSt t with
    | .empty =>
      let core := bits v 5 0
      let s := s.setF (CYC.TBIND_CORE t) core
      if s.tenantsOn core < 32 ∧ (s.winsOf t .code) ≠ [] ∧ ¬ s.scratchClash t core then
        (s.setF (CYC.TBIND_VALID t) 1).setTenSt t .stopped
      else s
    | _ => s
  s.orphans

/-- Every window of a tenant is disabled (R388). -/
def State.closeWindows (s : State) (t : Nat) : State :=
  (List.range 16).foldl (fun s w => s.setF (CYC.WIN_W0_EN t w) 0) s

/-- A write of CYC_t_BIND with VALID = 0 (R388, R420, R457). -/
def State.tenantUnbind (s : State) (t v : Nat) : State :=
  let s := match s.tenSt t with
    | .stopped | .faulted => (((s.finishCopy t).setF (CYC.TBIND_VALID t) 0).closeWindows t).setTenSt t .empty
    | .empty => s.setF (CYC.TBIND_CORE t) (bits v 5 0)
    | _ => s
  s.orphans

/-- CYC_WIN_RES after a command. -/
def State.winRes (s : State) (code : Nat) : State := s.wr CYC.WIN_RES (code * 2)

/-- Window READ (R398). -/
def State.winRead (s : State) (t w : Nat) : State :=
  ((((s.wr CYC.WIN_D0 (s.rd (CYC.WIN_W0 t w))).wr CYC.WIN_D1 (s.rd (CYC.WIN_W1 t w))).wr CYC.WIN_D2
    (s.rd (CYC.WIN_W2 t w))).wr CYC.WIN_D3 (s.rd (CYC.WIN_W3 t w))).winRes 0

/-- The groups of R397's table. -/
def WinKind.group : WinKind → Nat
  | .code => 0 | .data | .stage | .scratch => 1 | .sample => 2 | .guard | .sharedRw => 3 | .sharedRo => 4

/-- Overlaps between windows of different tenants that R397 permits. -/
def overlapOk (a b : WinKind) : Bool :=
  match a.group, b.group with
  | 0, 0 | 0, 4 | 4, 0 | 2, 2 | 3, 3 | 3, 4 | 4, 3 | 4, 4 => true
  | _, _ => false

/-- Two windows of different tenants clash (R397). -/
def State.winClash (s : State) (t : Nat) (a : Win) (u : Nat) (b : Win) : Bool :=
  if a.kind = .scratch ∨ b.kind = .scratch then
    decide (a.kind = .scratch ∧ b.kind = .scratch) && (List.range 64).any (fun c => s.onOrTo t c && s.onOrTo u c) && a.meets b
  else a.meets b && !overlapOk a.kind b.kind

/-- A window that its own tenant may write. -/
def WinKind.writable (k : WinKind) : Bool :=
  k = .data || k = .stage || k = .guard || k = .sharedRw || k = .scratch

/-- Within one tenant, a CODE window and a writable one share memory (R397). -/
def codeClash (a b : Win) : Bool :=
  a.kind ≠ .scratch && b.kind ≠ .scratch && a.meets b &&
    ((a.kind = .code && b.kind.writable) || (b.kind = .code && a.kind.writable))

/-- The code of a window WRITE (R397): 0 when it is done. -/
def State.winCode (s : State) (t w : Nat) (new : Option Win) (same : Bool) : Nat :=
  let others := ((List.range 16).filter (· ≠ w)).filterMap fun i => s.win t i
  let running := decide (s.tenSt t = .active ∨ s.tenSt t = .moving)
  let late := running && (s.win t w).isSome && !same
  match new with
  | none => if late then 4 else 0
  | some n =>
    if others.any fun o => decide (n.lo ≤ o.hi ∧ o.lo ≤ n.hi) then 1
    else if ¬ n.targetOk then 2
    else if (others.any fun o => codeClash n o) ∨ (s.validTenants.any fun u =>
        u ≠ t && (s.wins u).any fun o => s.winClash t n u o) then 3
    else if late then 4 else 0

/-- Window WRITE (R397, R398). -/
def State.winWrite (s : State) (t w : Nat) : State :=
  let d0 := s.rd CYC.WIN_D0
  let d1 := s.rd CYC.WIN_D1
  let d2 := s.rd CYC.WIN_D2
  let d3 := s.rd CYC.WIN_D3
  let same := decide (d0 = s.rd (CYC.WIN_W0 t w) ∧ d1 = s.rd (CYC.WIN_W1 t w) ∧ d2 = s.rd (CYC.WIN_W2 t w) ∧
    d3 = s.rd (CYC.WIN_W3 t w))
  let code := s.winCode t w (winOf d0 d1 d2 d3) same
  if code = 0 then
    ((((s.wr (CYC.WIN_W0 t w) d0).wr (CYC.WIN_W1 t w) d1).wr (CYC.WIN_W2 t w) d2).wr (CYC.WIN_W3 t w) d3).winRes 0
  else s.winRes code

/-- A requester's posting registers: D0, D1, D2 and RES (R405). -/
def State.postRegs (s : State) (who : Requester) : Nat × Nat × Nat × Nat :=
  smapGet (fun _ => (0, 0, 0, 0)) s.cyc.posts (reqPort who)

/-- Change a requester's posting registers. -/
def State.setPost (s : State) (who : Requester) (x : Nat × Nat × Nat × Nat) : State :=
  s.onCyc fun c => { c with posts := smapSet (fun _ => (0, 0, 0, 0)) c.posts (reqPort who) x }

/-- The number of a posting supervisory core; other requesters post as core 0. -/
def postIndex : Requester → Nat
  | .sup c => c.val
  | _ => 0

/-- A write of CYC_EVPOST_CTL (R401, R402, R405). -/
def State.eventPost (s : State) (who : Requester) (t : Nat) : State :=
  let (d0, d1, d2, _) := s.postRegs who
  match s.tenSt t with
  | .empty | .resetting => s.setPost who (d0, d1, d2, 2)
  | _ =>
    let r := s.evPut t ⟨3 * 2 ^ 29 + postIndex who * 2 ^ 16 + d0 % 65536, d1, evTod s.tab.ns, d2⟩
    r.1.setPost who (d0, d1, d2, if r.2 then 0 else 1)

/-- A write refused (R400, R417, R425, R471). -/
def State.trefuse (s : State) : State := s.raise CYC.STATUS_TREFUSED

/-- The regions of enabled guards do not overlap (R417); a length of 0 gives no region (R426). -/
def State.guardsApart (s : State) (g : Nat) : Bool :=
  let r := s.guardRegion g
  !s.flag (CYC.GRDCFG_EN g) || s.guardsOn.all fun h =>
    h == g || !rangesMeet r.1 (r.2 - r.1) (s.guardRegion h).1 ((s.guardRegion h).2 - (s.guardRegion h).1)

/-- A write to a guard's configuration (R417, R426). -/
def State.guardWrite (s : State) (g a v : Nat) : State :=
  let new := s.plainWrite a v
  if s.flag (CYC.GSTATE_HELD g) ∨ s.waiters g ≠ [] ∨ ¬ new.guardsApart g ∨ 0x1006000000 < (new.guardRegion g).2 then s.trefuse
  else new

/-- An entry of the subscription list lies in a range word (R399). -/
def inSubRange (w n : Nat) : Bool := decide (bits w 28 16 ≤ n ∧ n < bits w 28 16 + bits w 6 0)

/-- A write to CYC_SUBL_n (R400). -/
def State.sublWrite (s : State) (n v : Nat) : State :=
  let used := s.validTenants.any fun t => decide (s.tenSt t = .active ∨ s.tenSt t = .moving) &&
    (inSubRange (s.subEff t) n || inSubRange (s.rd (CYC.TSUB t)) n)
  if used then s.trefuse else s.plainWrite (CYC.SUBL n) v

/-- A write to CYC_t_CFG or its guard groups (R425). -/
def State.tenCfgWrite (s : State) (t a v : Nat) : State :=
  if s.tenSt t = .active ∨ s.tenSt t = .moving then s.trefuse else s.plainWrite a v

/-- A write to a tenant's execution registers (R471). -/
def State.tenExeWrite (s : State) (t a v : Nat) : State :=
  if s.getF (CYC.XCHG_XSTATE t) ≠ 0 ∨ (a = CYC.IMGA t ∧ s.activeSlot t = 0) ∨ (a = CYC.IMGB t ∧ s.activeSlot t = 1) then s.trefuse
  else s.plainWrite a v

/-- A read of CYC_t_OSQ_W3 gives the head's tick and removes the head (R408). -/
def State.osqPop (s : State) (who : Requester) (t : Nat) : State :=
  match (s.tenant t).osq with
  | [] => s.respond who (.data 0)
  | e :: es => (s.onTenant t fun x => { x with osq := es }).respond who (.data e.tick)

/-! ## Dispatch -/

/-- A dispatch that is ready, or preempted and to be resumed. -/
structure Cand where
  tenant : Nat
  cls : Nat
  at_ : Int
  kind : DispKind
  desc : DWord
  resume : Bool
  deriving DecidableEq, Repr

/-- An armed exchange must be carried over before a dispatch of this descriptor (R460). -/
def State.xchgFirst (s : State) (t : Nat) (d : DWord) : Bool :=
  decide (s.getF (CYC.XCHG_XSTATE t) = 1) && tickReached (descTick d) (s.tenant t).xtarget

/-- The candidate of a tenant (R428 to R432, R434); none while it moves, its exchange copies (R464), or it waits for a transfer
(R290, R291). -/
def State.candOf (s : State) (t : Nat) : Option Cand :=
  if s.tenSt t ≠ .active then none
  else match (s.tenant t).disp with
    | some d => if d.preempted then some ⟨t, s.classOf t, d.readyAt, d.kind, d.desc, true⟩ else none
    | none =>
      match s.pendingOf t with
      | some (a, k, d) => if s.xchgFirst t d ∨ s.getF (CYC.XCHG_XSTATE t) = 2 ∨ s.pairBars t (descTick d) then none else some ⟨t, s.classOf t, a, k, d, false⟩
      | none => none

/-- One candidate goes before another (R432). -/
def Cand.before (a b : Cand) : Bool :=
  decide (a.cls < b.cls ∨ (a.cls = b.cls ∧ (a.at_ < b.at_ ∨ (a.at_ = b.at_ ∧ a.tenant < b.tenant))))

/-- The best of some candidates. -/
def bestCand (cs : List Cand) : Option Cand :=
  cs.foldl (fun b c => match b with
    | none => some c
    | some x => if c.before x then some c else some x) none

/-- The ready dispatches of a core (R434). -/
def State.cands (s : State) (c : Nat) : List Cand := (s.boundTo c).filterMap s.candOf

/-- The budget of a dispatch (R428, R471). -/
def State.budgetOf (s : State) (t : Nat) (k : DispKind) : Nat :=
  match k with
  | .init => 16 * 64 * s.getF (CYC.BUDGET_TICK t)
  | .tick => 64 * s.getF (CYC.BUDGET_TICK t)
  | .event => 64 * s.getF (CYC.BUDGET_EVENT t)

/-- Where a dispatch enters (R428, R563). -/
def State.entryOf (s : State) (t : Nat) (k : DispKind) : Nat :=
  s.headerWord t (s.activeSlot t) (match k with
    | .init => 0x08 | .tick => 0x0C | .event => 0x10)

/-- The substitution of R465 covers the first tick dispatch under the new image, and no later one. -/
def Tenant.nextSubst (x : Tenant) (k : DispKind) : Tenant :=
  if k ≠ .tick then x
  else if x.substOn then { x with subst := [], substOn := false }
  else if x.subst = [] then x else { x with substOn := true }

/-- The digest record of a tick is begun by its first dispatch (R284). -/
def Dig.forTick (g : Dig) (tick : Nat) : Dig :=
  if g.dispatched ∧ g.tick = tick then g else { tick := tick, dispatched := true }

/-- A dispatch of a tick begins with the samples that it has (R285). -/
def Dig.begin_ (g : Dig) (tick : Nat) (bad : Bool) : Dig := { g.forTick tick with fault := (g.forTick tick).fault || bad }

/-- A dispatch enters its entry with zeroed registers (R434, R437, R474, R476). -/
def State.enterDispatch (s : State) (c : Nat) (x : Cand) : State :=
  let t := x.tenant
  let b := s.budgetOf t x.kind
  let d : Disp := {
    kind := x.kind
    desc := x.desc
    regs := { pc := BitVec.ofNat 64 (s.entryOf t x.kind / 4 * 4) }
    budget := b
    left := b
    readyAt := x.at_
    first := (s.tenant t).fresh
    preempted := false
    staged := []
    ops := []
    misses := 0
    wait := none }
  let s := s.onTenant t fun y => { (y.nextSubst x.kind) with
    disp := some d
    fresh := false
    dig := y.dig.begin_ (descTick x.desc) (s.samplesBad t (descTick x.desc))
    initAt := if x.kind = .init then none else y.initAt
    tickAt := if x.kind = .tick then none else y.tickAt
    eventAt := if x.kind = .event then none else y.eventAt }
  let s := s.onTab fun y => { y with dispatched := true }
  let s := if (s.tenant t).needLock then (s.lockRanges c t).onTenant t fun y => { y with needLock := false } else s
  let f := s.takeFree
  f.2.setF (CYC.DLATMAX_NS c) (max (f.2.getF (CYC.DLATMAX_NS c)) (f.1 % 65536))

/-- The next candidate for pre-roll (R438). -/
def State.prerollNext (s : State) (c run : Nat) : Option Nat :=
  match bestCand ((s.cands c).filter fun x => x.tenant ≠ run) with
  | some x => some x.tenant
  | none =>
    let ts := (s.boundTo c).filter fun t => t ≠ run && s.tenSt t = .active && s.getF (CYC.TCFG_TRIG t) ≠ 1
    ts.foldl (fun b t => match b with
      | none => some t
      | some u => if s.classOf t < s.classOf u then some t else some u) none

/-- While a tenant runs, the executive pre-rolls the next candidate, and starts over when that changes (R438). -/
def State.prerollOn (s : State) (c run : Nat) : State :=
  let next := s.prerollNext c run
  if (s.core c).pre = next then s
  else match next with
    | some t => (s.onCore c fun k => { k with pre := next }).preroll c t
    | none => s.onCore c fun k => { k with pre := next }

/-- The executive starts or resumes a dispatch and pre-rolls the next candidate (R434, R438, R478). -/
def State.startDispatch (s : State) (c : Nat) (x : Cand) : State :=
  let s := s.dropSamples c
  let s := if x.resume then s.onTenant x.tenant fun y => { y with disp := y.disp.map fun d => { d with preempted := false } }
    else s.enterDispatch c x
  (s.onCore c fun k => { k with run := some x.tenant, stall := 0, pre := none }).prerollOn c x.tenant

/-- The running tenant of a core is preempted (R415, R433, R434). -/
def State.preempt (s : State) (c t : Nat) : State :=
  let s := s.leaveWait t
  let s := s.onTenant t fun x => { x with disp := x.disp.map fun d => { d with preempted := true } }
  s.onCore c fun k => { k with run := none }

/-- The executive starts or resumes a dispatch. A restore that finds a parity error in the saved context faults its tenant (R434). -/
def State.enterOrRestore (s : State) (c : Nat) (x : Cand) (bad : Bool) : State :=
  let s := s.startDispatch c x
  if x.resume && bad then s.faultHere x.tenant causeParity 0 else s

/-- The executive selects (R428, R432 to R434, R438). It starts nothing while the cluster is stopped or the core halted. -/
def State.dispatchSelect (s : State) (c : Nat) (bad : Bool) : State :=
  if ¬ s.flag CYC.CTL_EN ∨ s.cyc.wdHalt ∨ s.halted c then s
  else match (s.core c).run, bestCand (s.cands c) with
    | none, none => s
    | none, some x => s.enterOrRestore c x bad
    | some r, none => s.prerollOn c r
    | some r, some x =>
      if x.cls < s.classOf r ∧ (s.tenant r).held = [] then (s.preempt c r).enterOrRestore c x bad else s.prerollOn c r

/-- The tenant's last dispatch before the exchange's tick has ended (R460): nothing runs, and what waits, or the next tick,
has reached XTICK. -/
def State.xchgDue (s : State) (t : Nat) : Bool :=
  let x := s.tenant t
  decide (s.getF (CYC.XCHG_XSTATE t) = 1) && x.disp.isNone && !x.initDue &&
    (match s.pendingOf t with
      | some (_, _, d) => tickReached (descTick d) x.xtarget
      | none => tickReached (tickAdd (descTick x.latest) 1) x.xtarget)

/-- An armed exchange goes to COPYING when its time has come (R460). -/
def State.xchgNote (s : State) (t : Nat) : State := if s.xchgDue t then s.setF (CYC.XCHG_XSTATE t) 2 else s

/-- XCHG_CARRY_OVER (R460, R463). -/
def State.xchgCarryOver (s : State) (t : Nat) : State := (s.xchgNote t).finishCopy t

/-- ARM (R460, R461). -/
def State.xchgArm (s : State) (t : Nat) : State :=
  let refuse (code : Nat) : State := (s.setF (CYC.XCHG_CODE t) code).raise CYC.STATUS_XCHG_ERR
  if s.getF (CYC.XCHG_XSTATE t) ≠ 0 then s
  else match s.tenSt t with
    | .active =>
      let c := s.xchgCheck t
      if c ≠ 0 then refuse c
      else
        let x := s.rd (CYC.XTICK t)
        ((s.setF (CYC.XCHG_XSTATE t) 1).setF (CYC.XCHG_CODE t) 0).onTenant t fun y => { y with
          xtarget := if x = 0 then tickAdd s.tickNow 1 else x }
    | .stopped =>
      let c := s.xchgCheck t
      if c ≠ 0 then refuse c else s.carryOver t
    | _ => refuse 1

/-- A tick dispatch becomes ready, or replaces the pending one of an earlier tick (R428, R429). -/
def State.tickDispatch (s : State) (t : Nat) (d : DWord) : State :=
  let trig := s.getF (CYC.TCFG_TRIG t)
  if s.pairBars t (descTick d) then s
  else if s.runsOn t ∧ (trig = 0 ∨ trig = 2) then
    let skip := (s.tenant t).tickAt.isSome
    let s := (s.onTenant t fun x => { x with tickAt := some (s.tab.mono, d) }).xchgNote t
    if skip then
      (s.setF (CYC.DSTAT_TSKIP t) (min (s.getF (CYC.DSTAT_TSKIP t) + 1) 65535)).raise CYC.STATUS_TICK_SKIP
    else s
  else s

/-- A dispatch ends at tick yield (R430, R431, R444, R447): its measures are recorded. A STOP takes effect, but MOVING ends by its
completion alone (R388, R421). -/
def State.endDispatch (s : State) (t : Nat) : State :=
  match (s.tenant t).disp with
  | none => s
  | some d =>
    let used := (d.budget - d.left) % 2 ^ 32
    let s := (s.wr (CYC.USED t) used).wr (CYC.USEDMAX t) (max (s.rd (CYC.USEDMAX t)) used)
    let s := ((s.measured t).offCore t).onTenant t fun x => { x with disp := none }
    if (s.tenant t).stopReq then (if s.tenSt t = .moving then s else s.stopNow t) else (s.eventReady t).xchgNote t

/-- BUDGET_EXHAUSTED (R446, R505). -/
def State.budgetOut (s : State) (c : Nat) : State :=
  match (s.core c).run with
  | none => s
  | some t =>
    if s.halted c ∨ s.cyc.wdHalt then s
    else (s.onTenant t fun x => { x with disp := x.disp.map fun d => { d with left := 0 } }).faultHere t causeBudget 0

/-- GUARD_HOLD_EXPIRE (R416): hold time does not run while the holder's core is halted (R769). -/
def State.guardHoldOut (s : State) (g : Nat) : State :=
  let t := s.getF (CYC.GSTATE_HOLDER g)
  if s.flag (CYC.GSTATE_HELD g) ∧ ¬ s.halted (s.coreOf t) ∧ ¬ s.cyc.wdHalt then s.faultHere t causeGuardHold 0 else s

/-! ## The cluster watchdog -/

/-- Units of the time scale in a microsecond. -/
def usUnit : Nat := 1000 * nsUnit

/-- The kick timer starts over (R448). -/
def State.kickRestart (s : State) : State :=
  s.onCyc fun c => { c with
    kick := .idle
    kickLeft := s.getF CYC.CWD_CFG_KICKTO * 100 * usUnit
    kickSince := some s.tab.mono }

/-- What is left of the kick timer now. -/
def State.kickNow (s : State) : Nat :=
  match s.cyc.kickSince with
  | some t => s.cyc.kickLeft - (s.tab.mono - t).toNat
  | none => s.cyc.kickLeft

/-- The kick timer stops, keeping what is left (R770). -/
def State.kickHold (s : State) : State := s.onCyc fun c => { c with kickLeft := s.kickNow, kickSince := none }

/-- The kick timer goes on. -/
def State.kickGo (s : State) : State :=
  if s.flag CYC.CTL_CWD_EN ∧ s.cyc.kickSince.isNone then
    s.onCyc fun c => { c with kickSince := some s.tab.mono }
  else s

/-- Both watchdogs are frozen (R770). -/
def State.wdFrozen (s : State) : Bool := s.flag DBG.CTL_WDFREEZE && (List.range 68).any s.halted

/-- The cluster watchdog fires (R450, R592). Its kick timer goes on: only a reset of class S stops it (R448). -/
def State.cwdFire (s : State) : State :=
  (((s.onCyc fun c => { c with wdHalt := true }).raise CYC.STATUS_CWD).watchdogSafe).linesNote

/-- CYC_CTL.CWD_EN written 1 (R448). -/
def State.cwdStart (s : State) : State :=
  if s.flag CYC.CTL_CWD_EN then s
  else
    let s := (s.setF CYC.CTL_CWD_EN 1).kickRestart
    if s.wdFrozen then s.kickHold else s

/-- A wrong kick, or one out of order (R448): in WDHALT the watchdog has fired already. -/
def State.cwdWrong (s : State) : State :=
  let s := s.onCyc fun c => { c with kick := .idle }
  if s.cyc.wdHalt then s else s.cwdFire

/-- A write to CYC_CWD_KICK (R448). -/
def State.cwdKick (s : State) (v : Nat) : State :=
  if ¬ s.flag CYC.CTL_CWD_EN then s
  else match s.cyc.kick with
    | .idle => if v = 0x5A5A then s.onCyc fun c => { c with kick := .first } else s.cwdWrong
    | .first =>
      if v = 0xA5A5 then
        let s := s.kickRestart
        if s.wdFrozen then s.kickHold else s
      else s.cwdWrong

/-- The kick timer expires (R449, R770). -/
def State.cwdKickExpire (s : State) : State :=
  if s.flag CYC.CTL_CWD_EN ∧ ¬ s.cyc.wdHalt ∧ ¬ s.wdFrozen then s.cwdFire else s

/-- A core has a pending dispatch (R429, R449): one that is ready or preempted, or waits for the one its tenant runs. -/
def State.hasPending (s : State) (c : Nat) : Bool :=
  !(s.cands c).isEmpty || (s.core c).run.any fun t => (s.pendingOf t).isSome

/-- A core stalls (R449, R770). -/
def State.cwdStall (s : State) (c : Nat) : State :=
  if s.flag CYC.CTL_CWD_EN ∧ ¬ s.cyc.wdHalt ∧ ¬ (s.wdFrozen ∧ s.halted c) ∧ s.hasPending c ∧
      s.getF CYC.CWD_CFG_TICKTO ≤ (s.core c).stall then
    (s.raise (CYC.CSTATUS_CWD_STALL c)).cwdFire
  else s

/-! ## Phasor coefficients -/

/-- A coefficient of the phasor unit: its real and imaginary patterns (R524). -/
def State.phxAt (s : State) (set_ i : Nat) : Nat × Nat := smapGet (fun _ => (0, 0)) s.cyc.phx (set_ * 512 + i)

/-- A write of CYC_PHX_DIM (R525). -/
def State.phxWrite (s : State) (v : Nat) : State :=
  let set_ := s.getF CYC.PHX_ADDR_SET
  let i := s.getF CYC.PHX_ADDR_INDEX
  let s := if s.flag (CYC.PHX_CFG_LOCK set_) then s.trefuse
    else s.onCyc fun c => { c with phx := smapSet (fun _ => (0, 0)) c.phx (set_ * 512 + i) (s.rd CYC.PHX_DRE, v % 2 ^ 32) }
  s.setF CYC.PHX_ADDR_INDEX ((i + 1) % 512)

/-- A write of CYC_PHX_k_CFG (R525): LEN of a locked set stays, INDEX advances, and TREFUSED sets. -/
def State.phxCfgWrite (s : State) (k v : Nat) : State :=
  let a := CYC.PHX_CFG k
  let old := s.rd a
  let new := s.plain a v
  if bit old 31 ∧ bits new 9 0 ≠ bits old 9 0 then
    let s := (s.wr a (putBits new 9 0 (bits old 9 0))).trefuse
    s.setF CYC.PHX_ADDR_INDEX ((s.getF CYC.PHX_ADDR_INDEX + 1) % 512)
  else s.wr a new

/-! ## Tick boundaries -/

/-- What a tick boundary does in the cluster (R388, R399, R449, R455). -/
def State.cycBoundary (s : State) : State :=
  let s := s.setsAct
  let s := s.validTenants.foldl (fun s t =>
    (s.onTenant t fun x => { x with
      initDue := if s.runsOn t then false else x.initDue
      initAt := if x.initDue ∧ s.runsOn t then some s.tab.mono else x.initAt }).eventReady t) s
  let s := (List.range 64).foldl (fun s c =>
    if s.wdFrozen ∧ s.halted c then s
    else if s.hasPending c then s.onCore c fun k => { k with stall := k.stall + 1 }
    else if (s.core c).stall = 0 then s else s.onCore c fun k => { k with stall := 0 }) s
  s.forcesAct

end Sys2Proof.Machine
end

