-- ==== Sys2Proof/Machine/Wind.lean ====
section
/-!
DEFINITION. Machine/Wind.lean: Windsock, which steers the angle counter at every tick boundary (R89 to R98).
-/

namespace Sys2Proof.Machine

/-! ## The reference -/

/-- Cosine and sine of an angle in 2^-32 au, in the fixed point of `angleOne`. -/
def cosSinFix (a : Int) : Int × Int := sinCosSeries 160 0 angleOne (piFix * toSigned 48 (a % 2 ^ 48).toNat / 2 ^ 47)

/-- The enabled stream that carries a channel context. -/
def State.streamOfChannel (s : State) (c : Nat) : Option Nat :=
  s.enabledStreams.find? fun st => (s.channels st).contains c

/-- W of a stream (R91). -/
def State.wsWindow (s : State) (st : Nat) : Nat := (rheRat ((s.rateHz st : Rat) / s.tab.fCur)).toNat

/-- The corrected instant of a sample, on the scale that no step of TOD moves (R89). DEDUCED (log 130): the receive timestamp is the
instant that ingest gives the sample under R319, by its count or by its arrival. -/
def State.refInstant (s : State) (c : Nat) (x : Samp) : Int :=
  ((x.t - (s.phaseDelay c : Rat)) * (nsUnit : Rat)).floor - x.shift

/-- One channel's window at a boundary, newest sample first: each sample's local angle and its value. None: no phasor can be
computed (R91). -/
def State.refWindow (s : State) (c : Nat) : Option (List (Int × ChVal)) :=
  match s.streamOfChannel c with
  | none => none
  | some st =>
    let r := s.stream st
    let w := s.wsWindow st
    let xs := (r.inp.dropWhile fun x => x.st ≠ .received).take w
    let val (x : Samp) : ChVal := x.ch.getD (c - s.getF (SVC.STRCFG2_CH0 st)) ⟨0, 1, false, 0⟩
    let ok (x : Samp) : Bool :=
      decide (x.st = .received ∧ r.startIdx ≤ x.idx ∧ (val x).validity = 0) &&
        (!(val x).test || s.flag TAB.WS_CFG2_TESTOK)
    let fresh : Bool := match xs with
      | x :: _ => decide (((s.tab.mono - s.refInstant c x : Int) : Rat) * s.tab.fCur ≤
          2 * ((1000000000 * nsUnit : Nat) : Rat))
      | [] => false
    if 0 < w ∧ xs.length = w ∧ xs.all ok ∧ fresh then
      some (xs.map fun x => (angleAt s.tab.segs (s.refInstant c x), val x))
    else none

/-- X of R90 for one channel, in the fixed point of `angleOne`. -/
def phasorOf (xs : List (Int × ChVal)) : Int × Int :=
  xs.foldl (fun (re, im) (a, v) => let e := cosSinFix a; (re + v.v * e.1, im - v.v * e.2)) (0, 0)

/-- A phasor turned by a third of a cycle. -/
def turnThird (x : Int × Int) : Int × Int :=
  let e := sinCosSeries 160 0 angleOne (piFix * 2 / 3)
  ((x.1 * e.1 - x.2 * e.2) / angleOne, (x.1 * e.2 + x.2 * e.1) / angleOne)

/-- The angle of a phasor in au, between the two whole numbers next to it as the manual leaves open. -/
def argOpen (re im : Int) : Int :=
  let q := quadrantAu ((re.natAbs : Nat) : Rat) ((im.natAbs : Nat) : Rat)
  let a := if re < 0 then 32768 - q else q
  roundOpen (if im < 0 then -a else a)

/-- A signed number of au within −32,768 to 32,767 (R90, R95). -/
def wrapAu (i : Int) : Int := toSigned 16 (i % 65536).toNat

/-- The reference channels (R89). -/
def State.refChannels (s : State) : List Nat :=
  if s.flag TAB.WS_REFA_POSSEQ then [s.getF TAB.WS_REFA_CH_A, s.getF TAB.WS_REFBC_CH_B, s.getF TAB.WS_REFBC_CH_C]
  else [s.getF TAB.WS_REFA_CH_A]

/-- The RMS value over a window is at least MINAMP (R91). -/
def State.rmsOk (s : State) (xs : List (Int × ChVal)) : Bool :=
  decide (((xs.length * s.rd TAB.WS_MINAMP ^ 2 : Nat) : Int) ≤ (xs.map fun x => x.2.v * x.2.v).sum)

/-- What the reference gives at a boundary (R90, R91): none when no phasor can be computed; else err and the RMS test. -/
def State.reference (s : State) : Option (Int × Bool) :=
  match s.refChannels.mapM s.refWindow with
  | none => none
  | some ws =>
    let x := match ws.map phasorOf with
      | [a, b, c] =>
        let b := turnThird b
        let c := turnThird (turnThird c)
        (a.1 + b.1 + c.1, a.2 + b.2 + c.2)
      | a :: _ => a
      | [] => (0, 0)
    some (wrapAu (argOpen x.1 x.2 + 16384 - (s.rd TAB.WS_OFFSET : Int)), ws.all s.rmsOk)

/-! ## The loop -/

/-- A rational held inside an interval. -/
def clampRat (lo hi x : Rat) : Rat := max lo (min x hi)

/-- d, as a rational. -/
def TabState.divRat (t : TabState) : Rat := ((2 ^ t.divEff : Nat) : Rat)

/-- f_nom with the NOMF in effect. -/
def TabState.fNom (t : TabState) : Rat := if t.nomfEff then 60 else 50

/-- clamp(e / (65536 × t_pull), −maxdf, maxdf) (R92, R95). -/
def State.pull (s : State) (e : Int) : Rat :=
  let tPull : Rat := (s.getF TAB.WS_CFG_PULL : Rat) / 100
  let maxdf : Rat := (s.getF TAB.WS_CFG_MAXDF : Rat) / 100
  clampRat (-maxdf) maxdf ((e : Rat) / (65536 * tPull))

/-- f_fb of R95. -/
def State.fallbackTarget (s : State) : Rat :=
  let target := nomAngle s.tab.nomfEff s.tab.tod
  s.tab.fNom + s.pull (wrapAu (((target : Int) - s.tab.angle).fdiv (2 ^ 32)))

/-- A frequency word as a frequency in Hz. -/
def fwHz (fw : Nat) : Rat := (fw : Rat) * 250000000 / ((2 ^ 48 : Nat) : Rat)

/-- TOD in ns at which this module raised, or at its present rate raises, the partner's latest tick, less the partner's TOD of it
(R97). Tick numbers compare modulo 2^32 (R102). -/
def State.partnerLag (s : State) (p : PartnerTick) : Rat :=
  match s.tab.ticks.find? fun x => x.idx % 2 ^ 32 = p.tick with
  | some x => (((x.ns : Int) - p.todNs : Int) : Rat)
  | none =>
    let span := tickSpan s.tab.divEff
    let gap : Int := toSigned 32 ((p.tick + 2 ^ 32 - s.tab.tickNum) % 2 ^ 32) * span - ((s.tab.angle % span : Nat) : Int)
    ((s.tab.tod : Int) : Rat) / (nsUnit : Rat) - (p.todNs : Rat) + 4 * (gap : Rat) / (s.rd TAB.WS_FW : Rat)

/-- The target in PARTNER (R97): the partner's frequency, pulled by that difference of TOD converted to au. -/
def State.partnerTarget (s : State) (p : PartnerTick) : Rat :=
  fwHz p.fw + s.pull ((s.partnerLag p * (p.fw : Rat) / ((2 ^ 34 : Nat) : Rat)).floor)

/-- fw := round_half_even(f_cur × 2^48 / 250e6) (R92). -/
def fwOf (f : Rat) : Nat := (rheRat (f * ((2 ^ 48 : Nat) : Rat) / 250000000)).toNat

/-- What the evaluation of one boundary found. -/
structure WsEval where
  phasor : Bool
  valid : Bool
  err : Int
  deriving DecidableEq, Repr

/-- The loop of R92 at a tick boundary. -/
def State.wsLoop (s : State) : State × WsEval :=
  let t := s.tab
  let r := s.reference
  let err := (r.map (·.1)).getD 0
  let tTick : Rat := 1 / (t.fCur * t.divRat)
  let fMeas : Rat := match r, t.errPrev with
    | some _, some p => t.fCur + ((err - p : Int) : Rat) / (65536 * tTick)
    | _, _ => t.fCur
  let valid := r.any (·.2) && decide (40 ≤ fMeas ∧ fMeas ≤ 70)
  let jump := decide ((s.getF TAB.WS_CFG2_JUMPF : Rat) / 20 < absRat (fMeas - t.fEst))
  let fEst : Rat := if valid ∧ ¬ jump then t.fEst + (fMeas - t.fEst) / ((2 ^ s.getF TAB.WS_CFG_FG : Nat) : Rat) else t.fEst
  let fTgt : Rat := match t.ws, t.partnerTick with
    | .fallback, _ => s.fallbackTarget
    | .partner, some p => s.partnerTarget p
    | _, _ => if valid then fEst + s.pull err else t.fCur
  let fTgt := clampRat 40 70 fTgt
  let fCur := t.fCur + clampRat (-10 * tTick) (10 * tTick) (fTgt - t.fCur)
  let s := s.when (valid && jump) (·.raise TAB.STATUS_WS_PHJUMP)
  let s := s.onTab fun t => { t with
    fCur := fCur
    fEst := fEst
    bad := if valid then 0 else t.bad + 1
    errPrev := r.map (·.1)
    refValid := valid }
  let s := ((s.wr TAB.WS_FW (fwOf fCur)).wr TAB.WS_FREQ ((rheRat (fCur * 65536)).toNat % 2 ^ 32))
  let s := if r.isSome then s.wr TAB.WS_PHERR (ofSigned 16 err) else s
  (s, ⟨r.isSome, valid, err⟩)

/-- Windsock enters a state. -/
def State.setWs (s : State) (x : WsState) : State := s.onTab fun t => { t with ws := x, lockRun := 0, reacqRun := 0 }

/-- The states of R94 at a tick boundary. DEDUCED (log 22): WS_EN is looked at as it stands there. -/
def State.wsStates (s : State) (e : WsEval) : State :=
  let en := s.flag TAB.CTL_WS_EN
  let thr := s.getF TAB.WS_CFG2_LOCKTHR
  match s.tab.ws with
  | .partner => s
  | .fallback =>
    let n := if e.valid then s.tab.reacqRun + 1 else 0
    if en ∧ ¬ s.flag TAB.CTL_ANGLE_SRC ∧ s.getF TAB.WS_CFG2_REACQ * 2 ^ s.tab.divEff ≤ n then
      (s.setWs .acquire).onTab fun t => { t with fEst := t.fCur, errPrev := some e.err }
    else s.onTab fun t => { t with reacqRun := n }
  | .acquire =>
    if ¬ en ∨ s.getF TAB.WS_CFG_HOLDTICKS ≤ s.tab.bad then (s.setWs .fallback).raise TAB.STATUS_WS_FALLBACK
    else
      let n := if e.valid ∧ e.err.natAbs ≤ thr then s.tab.lockRun + 1 else 0
      if 16 ≤ n then (s.setWs .locked).raise TAB.STATUS_WS_LOCK else s.onTab fun t => { t with lockRun := n }
  | .locked =>
    if ¬ en ∨ s.getF TAB.WS_CFG_HOLDTICKS ≤ s.tab.bad then (s.setWs .fallback).raise TAB.STATUS_WS_FALLBACK
    else if e.phasor ∧ 4 * thr < e.err.natAbs then (s.setWs .acquire).raise TAB.STATUS_WS_UNLOCK
    else s

/-- Windsock at a tick boundary (R92, R94, R96, R117). -/
def State.windsock (s : State) : State :=
  let s := s.onTab fun t => { t with nomfEff := s.flag TAB.CTL_NOMF }
  let r := s.wsLoop
  let s := (r.1.wsStates r.2).noteSeg
  s.onTab fun t => { t with tickWs := ((t.raised, t.ws.num) :: t.tickWs).take 64 }

/-! ## The partner's angle -/

/-- The partner's counter now, as its latest tick says, in 2^-32 au; the bits above its tick number are this module's (R97). -/
def State.partnerAngle (s : State) (p : PartnerTick) : Nat :=
  let span := tickSpan s.tab.divEff
  let whole : Nat := 2 ^ 32 * span
  let since : Int := (s.tab.tod : Int) - ((p.todNs * nsUnit : Nat) : Int)
  let base : Nat := p.tick * span
  let at_ : Int := (base : Int) + since * (p.fw : Int) / (Machine.todStep s.srvRate : Int)
  (s.tab.angle / whole * whole + (at_.fmod (whole : Int)).toNat) % 2 ^ 80

/-- Cycle counts of two counters differ as far as the tick number tells (R97). -/
def State.cyclesDiffer (s : State) (a b : Nat) : Bool :=
  let m := 2 ^ (32 - s.tab.divEff)
  decide (a / 2 ^ 48 % m ≠ b / 2 ^ 48 % m)

/-- Partner angle messages move Windsock into PARTNER, or are refused (R94, R97, R283). -/
def State.partnerEntry (s : State) (p : PartnerTick) : State :=
  let s := s.onTab fun t => { t with partnerTick := some p }
  if ¬ s.flag TAB.CTL_ANGLE_SRC ∨ s.tab.ws = .partner ∨ s.rde.angleRefused then s
  else
    let a := s.partnerAngle p
    if ¬ s.tab.dispatched ∧ ¬ s.tab.partnerMet then
      ((((s.onTab fun t => { t with angle := a, raised := a / tickSpan t.divEff, ticks := [], partnerMet := true }).noteSeg).moveGrids).onSvc
        fun c => { c with ready := [] }).setWs .partner
    else if s.cyclesDiffer a s.tab.angle then
      ((s.raise TAB.STATUS_PARTNER_REFUSED).raise RDE.STATUS_ANGLE_REFUSED).onRde fun r => { r with angleRefused := true }
    else s.setWs .partner

/-- Windsock leaves PARTNER (R94): at partner loss, or when ANGLE_SRC is written 0. -/
def State.leavePartner (s : State) : State :=
  if s.tab.ws ≠ .partner then s
  else if s.flag TAB.CTL_WS_EN ∧ s.tab.refValid then s.setWs .acquire else s.setWs .fallback

end Sys2Proof.Machine
end

