-- ==== Sys2Proof/Machine/Rde.lean ====
section
/-!
DEFINITION. Machine/Rde.lean: the redundancy engine's configuration, the pair of modules, digests and state transfer (chapter 05).
-/

namespace Sys2Proof.Machine

/-! ## Configuration, sources and proxies -/

/-- Ports that a value of RDE_CFG names (R245, R246). -/
def cfgPorts (v : Nat) : List Nat :=
  let a := bits v 11 8
  let b := bits v 15 12
  match bits v 2 0 with
  | 1 | 2 => [a, b]
  | 3 => [a, 8, 9]
  | 4 => [a, b, 8, 9]
  | _ => []

/-- The fields that R246 protects: MODE, PORTA, PORTB and NETID. -/
def cfgGuarded (v : Nat) : Nat := bits v 2 0 + bits v 11 8 * 2 ^ 8 + bits v 15 12 * 2 ^ 12 + bits v 18 16 * 2 ^ 16

/-- The pair state machine is entered or left by MODE (R274, R282); a lane that is not in UP then shows at once (R275). -/
def State.modeChanged (s : State) : State :=
  if s.pairMode then
    if s.rde.pair = .off then
      let s := s.onRde fun r => { r with pair := .seek, halTx := 0, leader := false, missed := 0, ref := none }
      s.when (decide ((s.port 8).link ≠ .up ∨ (s.port 9).link ≠ .up)) (·.raise RDE.STATUS_LANE_DOWN)
    else s
  else s.onRde fun r => { r with pair := .off, leader := false, seen := false }

/-- A write of RDE_CFG (R246). -/
def State.rdeCfgWrite (s : State) (v : Nat) : State :=
  let old := s.rd RDE.CFG
  let new := s.plain RDE.CFG v
  if cfgGuarded new = cfgGuarded old then s.wr RDE.CFG new
  else if (cfgPorts old ++ cfgPorts new).any fun p => s.flag (PCX.CFG_EN p) then
    (s.wr RDE.CFG (new - cfgGuarded new + cfgGuarded old)).raise RDE.STATUS_CFG_REFUSED
  else (s.wr RDE.CFG new).modeChanged

/-- A source entry unused for AGE ms becomes free (R258). -/
def State.sourceAgeOut (s : State) (i : Nat) : State := s.setSource i none

/-- RDE_CMD.DD_FLUSH (R260). -/
def State.ddFlush (s : State) : State := s.onRde fun r => { r with sources := [] }

/-- RDE_CMD.PROXY_FLIP (R263). -/
def State.proxyFlip (s : State) : State := s.onRde fun r => { r with proxyAct := 1 - r.proxyAct }

/-- A write to a proxy entry (R263). -/
def State.proxyWrite (s : State) (e m v : Nat) : State :=
  if e = s.rde.proxyAct ∨ s.proxyDrain e ≠ 0 then s.raise RDE.STATUS_EPOCH_REFUSED else s.plainWrite (RDE.PROXY e m) v

/-- RDE_CMD.CNT_CLR (R296, R300). -/
def State.rdeCntClr (s : State) : State :=
  s.zeroAll [RDE.RXA, RDE.RXB, RDE.DUP, RDE.WRONGLAN, RDE.NOSLOT, RDE.OOW, RDE.OWN, RDE.RFWD_DUP, RDE.RFWD_DROPA,
    RDE.RFWD_DROPB, RDE.UNTAG, RDE.HB_MISS, RDE.DIV, RDE.DIG_LATE, RDE.XFER_RETRY, RDE.SLOT_DEFER]

/-- A write refused by RDE (R281, R299). -/
def State.rdeRefuse (s : State) : State := s.raise RDE.STATUS_CFG_REFUSED

/-- A write to RDE_PAIRT_i or RDE_PAIR_MAC (R299). -/
def State.pairRegWrite (s : State) (a v : Nat) : State := if s.rde.pair ≠ .off then s.rdeRefuse else s.plainWrite a v

/-- A write to RDE_PSLOT_n (R281, R299). -/
def State.pslotWrite (s : State) (n v : Nat) : State :=
  let new := s.plain (RDE.PSLOT n) v
  if s.rde.pair ≠ .off ∨ s.getF RDE.PAIR_CFG_BLK < bits new 11 0 + bits new 21 16 then s.rdeRefuse
  else s.wr (RDE.PSLOT n) new

/-- A write to RDE_PAIR_CFG (R299): BLK stays while the pair is not OFF. -/
def State.pairCfgWrite (s : State) (v : Nat) : State :=
  let new := s.plain RDE.PAIR_CFG v
  if s.rde.pair ≠ .off ∧ bits new 16 4 ≠ s.getF RDE.PAIR_CFG_BLK then s.rdeRefuse else s.wr RDE.PAIR_CFG new

/-! ## The pair state machine -/

/-- This module leads a partner (R277). -/
def State.leadsOver (s : State) (serial : Nat) : Bool :=
  let mine := s.flag RDE.PAIR_CFG_PREF
  let theirs := Config.partnerPref serial
  if mine ≠ theirs then mine else decide (s.rd SYS.SERIAL < serial)

/-- The leader fixes the reference of R278, which gives no value for B_r. -/
def State.fixRef (s : State) : State :=
  if s.rde.ref.isSome then s
  else
    let f := s.takeFree
    f.2.onRde fun r => { r with ref := some (s.tab.tickNum, f.1 % 65536) }

/-- Every pair tenant's record changes. -/
def State.eachPair (s : State) (f : State → Nat → State) : State := s.pairTenants.foldl f s

/-- The pair state becomes ALONE (R282, R294). -/
def State.enterAlone (s : State) : State :=
  let old := s.rde.pair
  let s := (s.onRde fun r => { r with pair := .alone, leader := true }).fixRef
  match old with
  | .seek => s.eachPair fun s t => s.onTenRde t fun r => { r with st := .active, matches_ := 0, hold := false }
  | .transfer | .shadow =>
    s.when (s.pairTenants.any fun t => (s.tenRde t).st ≠ .active) (·.raise RDE.STATUS_UNVERIFIED)
  | _ => s

/-- The pair state becomes TRANSFER: pair tenants enter WAIT and ask for their state (R282, R291). -/
def State.enterTransfer (s : State) : State :=
  let s := s.onRde fun r => { r with pair := .transfer, leader := false }
  s.eachPair fun s t => (s.toWait t).sendPageList t

/-- What a partner's state does (R282). -/
def State.partnerHeard (s : State) (p : PairState) (serial : Nat) : State :=
  match s.rde.pair, p with
  | .seek, .alone | .seek, .paired => s.enterTransfer.raise RDE.STATUS_PARTNER_FOUND
  | .seek, .seek => if s.leadsOver serial then s.enterAlone else s
  | .alone, .alone => if s.leadsOver serial then s else s.enterTransfer
  | .alone, .paired => s.enterPaired
  | _, _ => s

/-- The pair state a heartbeat carries. -/
def pairOf : PairCode → PairState
  | .off => .off | .seek => .seek | .alone => .alone | .transfer => .transfer | .shadow => .shadow | .paired => .paired

/-- The number of a pair state (R296). -/
def PairState.num : PairState → Nat
  | .off => 0 | .seek => 1 | .alone => 2 | .transfer => 3 | .shadow => 4 | .paired => 5

/-- The receiver's classing of a message number (R274): the window after it, and whether it is a duplicate. -/
def halClass (w : DupWindow) (n : Nat) : DupWindow × Bool :=
  let r := windowCheck w n
  if r.2.2 then (some (n, 1), false) else (r.1, r.2.1)

/-- A copy of a message of the partner arrives on a lane: the lane counts it (R135), and it is taken once (R273, R274). -/
def State.halTake (s : State) (lane seq : Nat) (m : HalMsg) (f : State → State) : State :=
  if ¬ s.halHears lane then s
  else
    let s := s.countHal (8 + lane) false m
    let r := halClass s.rde.halRx seq
    let s := s.onRde fun x => { x with halRx := r.1 }
    if r.2 then s else f s

/-- HEARTBEAT (R273): this module's pair state, role, serial number and tick. -/
def State.heartbeatSend (s : State) : State :=
  if s.rde.pair = .off then s else s.halSend (.heartbeat s.rde.pair s.rde.leader (s.rd SYS.SERIAL) s.tab.tickNum)

/-- A HEARTBEAT of the partner (R274, R282). -/
def State.heartbeatReceive (s : State) (lane seq : Nat) (p : PairState) (leads : Bool) (serial tick : Nat) : State :=
  let empty := decide (serial ≠ s.rd RDE.PARTNER_ID) ||
    (decide (p = .off ∨ p = .seek) && decide (p.num < s.rde.partner.num))
  let s := s.when (empty && s.halHears lane) fun s => s.onRde fun r => { r with halRx := none }
  s.halTake lane seq (.heartbeat p leads serial tick) fun s =>
    let s := (s.wr RDE.PARTNER_ID serial).onRde fun r => { r with partner := p, seen := true, missed := 0 }
    (s.partnerHeard p serial).pairAdvance

/-- Partner loss (R60, R274, R282). -/
def State.partnerLoss (s : State) : State :=
  let s := (s.raise RDE.STATUS_PARTNER_LOST).onRde fun r => { r with seen := false, halRx := none }
  let s := s.eachPair fun s t => s.onTenRde t fun r => { r with target := none, listPart := [], joinList := none }
  let s := s.leavePartner
  match s.rde.pair with
  | .transfer | .shadow | .paired => s.enterAlone
  | _ => s

/-- A heartbeat interval passes without a heartbeat of the partner on either lane (R60, R275). -/
def State.heartbeatMiss (s : State) : State :=
  if s.rde.pair = .off then s
  else
    let s := (s.bump RDE.HB_MISS).onRde fun r => { r with missed := r.missed + 1 }
    if 4 ≤ s.rde.missed ∧ s.rde.seen then s.partnerLoss else s

/-- SEEKTO passes in SEEK without a partner (R282). -/
def State.seekTimeout (s : State) : State := if s.rde.pair = .seek ∧ ¬ s.rde.seen then s.enterAlone else s

/-- A TICK message of the leader (R97, R278, R283). -/
def State.halTick (s : State) (lane seq tick todNs fw base blk : Nat) : State :=
  s.halTake lane seq (.tick tick todNs fw base blk) fun s =>
    if s.rde.leader then s
    else
      let s := match s.pairBase tick with
        | some b =>
          if b = base then s
          else (s.onRde fun r => { r with ref := some (tick, base) }).raise RDE.STATUS_GRANT_MISMATCH
        | none => s.onRde fun r => { r with ref := some (tick, base) }
      (s.partnerEntry ⟨tick, todNs, fw⟩).pairAdvance

/-- What a tick boundary does in RDE (R273, R278, R290). -/
def State.rdeBoundary (s : State) : State :=
  let s := s.onRde fun r => { r with tens := smapMap (fun _ => {}) (fun _ x => { x with hold := false }) r.tens }
  if s.rde.leader ∧ s.rde.seen ∧ (s.rde.pair = .alone ∨ s.rde.pair = .paired) then
    let ns := ((s.tab.ticks.find? fun x => x.idx = s.tab.raised).map (·.ns)).getD s.tab.ns
    s.halSend (.tick s.tickNow ns (s.rd TAB.WS_FW) ((s.pairBase s.tickNow).getD 0) (s.getF RDE.PAIR_CFG_BLK))
  else s

/-! ## Digests -/

/-- A DIGEST message (R286, R287). -/
def State.digestReceive (s : State) (lane seq tick : Nat) (items : List (Nat × Nat × Bool)) : State :=
  s.halTake lane seq (.digest tick items) fun s => items.foldl (fun s (t, d, f) =>
    if s.pairTenant t then
      (s.onTenRde t fun r => { r with theirs := (r.theirs ++ [(tick, d, f)]).drop (r.theirs.length - 15) }).digestCompare t 16
    else s) s

/-! ## Transfer -/

/-- A publication's state as PUBSTATE carries it: its curve position is the tick of its state and the ms since (R273, R582). -/
def State.pubSnap (s : State) (n : Nat) : PubSnap :=
  let p := s.pb n
  ⟨n, s.rd (PUB.STNUM n), s.rd (PUB.SQNUM n), p.ticks.headD 0 * 2 ^ 32 + p.sumD,
    p.sent.map fun v => v.quality % 2 ^ 32 * 2 ^ 32 + v.value % 2 ^ 32⟩

/-- PAGELIST at the donor: with the last frame of the list it fixes the target tick (R273, R291 step 2). -/
def State.pageListReceive (s : State) (lane seq t count : Nat) (crcs : List Nat) : State :=
  s.halTake lane seq (.pageList t count crcs) fun s =>
    if s.pairTenant t ∧ (s.rde.pair = .alone ∨ s.rde.pair = .paired) then
      let list := (s.tenRde t).listPart ++ crcs
      if list.length < count then s.onTenRde t fun r => { r with listPart := list }
      else s.onTenRde t fun r => { r with
        listPart := [], target := some (tickAdd s.tab.tickNum (s.getF RDE.PAIR_CFG_LEAD)), joinList := some list }
    else s

/-- The tenant's last yield before a tick lies behind it, and its next dispatch does not (R291 step 3). -/
def State.beforeTick (s : State) (t tick : Nat) : Bool :=
  let x := s.tenant t
  x.disp.isNone && !x.initDue && (match s.pendingOf t with
    | some (_, _, d) => tickReached (descTick d) tick
    | none => tickReached (tickAdd (descTick x.latest) 1) tick)

/-- The donor copies the pages that differ and the publication states, and sends them (R291 steps 3 and 4). -/
def State.xferCopy (s : State) (t : Nat) : State :=
  let r := s.tenRde t
  match r.target, r.joinList with
  | some tick, some crcs =>
    if ¬ s.beforeTick t tick then s
    else
      let s := s.cleanTenant t
      let pages := (List.range (((s.dataAreaOf t).2 + 4095) / 4096)).filter fun i =>
        crcs[i]? ≠ some (crc64 (s.pageBytes t i))
      let quarters := (pages.map fun i => (List.range 4).map fun q => (i, q)).flatten
      let s := quarters.foldl (fun s (i, q) => s.halSend (.page t tick i q (s.quarterBytes t i q))) s
      let pubs := s.pubsOf t
      let s := pubs.foldl (fun s n => s.halSend (.pubState t tick [s.pubSnap n])) s
      (s.halSend (.xferEnd t tick (quarters.length + pubs.length) none)).onTenRde t fun r => { r with
        target := none, joinList := none }
  | _, _ => s

/-- A joiner's tenant takes a message of a transfer with a target tick. -/
def State.joinTake (s : State) (t tick : Nat) (f : TenRde → TenRde) : State :=
  if s.pairTenant t ∧ (s.tenRde t).st = .wait then
    s.onTenRde t fun r =>
      let r := if r.target = some tick then r else { r with target := some tick, pages := [], pubs := [], got := 0 }
      f { r with got := r.got + 1 }
  else s

/-- A PAGE message (R273). -/
def State.pageReceive (s : State) (lane seq t tick index quarter : Nat) (data : List Byte) : State :=
  s.halTake lane seq (.page t tick index quarter data) fun s => s.joinTake t tick fun r => { r with pages := r.pages ++ [(index, quarter, data)] }

/-- A PUBSTATE message (R273). -/
def State.pubStateReceive (s : State) (lane seq t tick : Nat) (pubs : List PubSnap) : State :=
  s.halTake lane seq (.pubState t tick pubs) fun s => s.joinTake t tick fun r => { r with pubs := r.pubs ++ pubs }

/-- The interval that runs at a position of the curve (R581). -/
def State.ivalAt (s : State) (n : Nat) : Nat → Nat → Nat → Nat
  | 0, i, _ => i
  | fuel + 1, i, left => if left ≤ i then i else s.ivalAt n fuel (s.nextMs n i) (left - i)

/-- Install one publication's state (R291 step 5). t of its frames is not carried, so it is a free value. -/
def State.installPub (s : State) (x : PubSnap) : State :=
  let n := x.pub
  let s := (s.wr (PUB.STNUM n) (x.stNum % 2 ^ 32)).wr (PUB.SQNUM n) (x.sqNum % 2 ^ 32)
  let f := s.takeFree
  let s := f.2
  let vals := x.values.map fun v => (⟨v % 2 ^ 32, v / 2 ^ 32 % 2 ^ 32, false⟩ : SentVal)
  let d := x.curve % 2 ^ 32
  let i := s.ivalAt n d (s.firstMs n) d
  s.onPb n fun p => { p with
    base := vals.zipIdx.foldl (fun b (v, a) => smapSet (fun _ => none) b a (some (v.value, v.quality))) p.base
    sent := vals
    started := true
    t := leBytes 8 (f.1 % 2 ^ 64)
    ticks := [x.curve / 2 ^ 32 % 2 ^ 32]
    sumD := d
    deferred := []
    ival := i
    due := s.tab.mono + msUnit i
    safe := false }

/-- Install a transfer (R291 step 5). -/
def State.install (s : State) (t : Nat) : State :=
  let r := s.tenRde t
  let s := s.flushTenant t
  let (base, size) := s.dataAreaOf t
  let s := r.pages.foldl (fun s (i, q, b) =>
    let off := i * 4096 + q * 1024
    s.tenantStore t (base + off) (b.take (size - off))) s
  let s := r.pubs.foldl (fun s p => if s.pubOwner p.pub = t then s.installPub p else s) s
  s.onTenRde t fun r => { r with st := .shadow, matches_ := 0, pages := [], pubs := [], got := 0 }

/-- An attempt fails at the joiner (R292). -/
def State.xferRetry (s : State) (t tick : Nat) : State :=
  (((s.bump RDE.XFER_RETRY).raise RDE.STATUS_XFER_RETRY).halSend (.xferEnd t tick 0 (some false))).sendPageList t

/-- The joiner's dispatch of a tick is there: the tick was declared ready for the tenant. -/
def State.tickCame (s : State) (t tick : Nat) : Bool :=
  decide ((s.tenant t).latest ≠ 0) && tickReached (descTick (s.tenant t).latest) tick

/-- An XFER_END message (R291, R292): the donor's ends an attempt at the joiner, which installs what came whole and in time, unless TAB
refused its angle (R283); the joiner's reply asks nothing more of the donor, since a new attempt begins with a new PAGELIST. -/
def State.xferEndReceive (s : State) (lane seq t tick frames : Nat) (reply : Option Bool) : State :=
  s.halTake lane seq (.xferEnd t tick frames reply) fun s =>
    match reply with
    | some _ => s
    | none =>
      let r := s.tenRde t
      if ¬ s.pairTenant t ∨ r.st ≠ .wait then s
      else
        let got := if r.target = some tick then r.got else 0
        if got = frames ∧ ¬ s.tickCame t tick ∧ ¬ (s.rde.pair = .transfer ∧ s.rde.angleRefused) then
          ((s.install t).halSend (.xferEnd t tick frames (some true))).pairAdvance
        else s.xferRetry t tick

/-- Transfers that the dispatch of their target tick overtakes (R292): the donor's attempt ends, which it tells the joiner by the
count of a frame that it never sent (log 38); the joiner's is tried again. -/
def State.xferOvertaken (s : State) (c : Nat) : State :=
  (s.boundTo c).foldl (fun s t =>
    if ¬ s.pairTenant t then s
    else match (s.tenRde t).target with
      | none => s
      | some tick =>
        if (s.tenRde t).joinList.isSome then
          match (s.tenant t).disp with
          | some d =>
            if tickReached (descTick d.desc) tick then
              (s.onTenRde t fun r => { r with target := none, joinList := none }).halSend (.xferEnd t tick 1 none)
            else s
          | none => s
        else if (s.tenRde t).st = .wait ∧ s.tickCame t tick then s.xferRetry t tick else s) s

/-- DISPATCH_SELECT (R434), and what it means for a transfer (R292). -/
def State.selectOn (s : State) (c : Nat) (bad : Bool) : State := (s.dispatchSelect c bad).xferOvertaken c

/-! ## Commands on tenants -/

/-- RDE_TCMD RESUME (R290, R294). -/
def State.rdeResume (s : State) (t : Nat) : State :=
  if ¬ s.pairTenant t then s
  else
    let st := (s.tenRde t).st
    if s.rde.pair = .alone then
      if st = .active then s else s.onTenRde t fun r => { r with st := .active, matches_ := 0, hold := true }
    else if st = .silent then s.onTenRde t fun r => { r with st := .shadow, matches_ := 0 }
    else s

/-- RDE_TCMD SILENCE (R290). -/
def State.rdeSilence (s : State) (t : Nat) : State :=
  if s.pairTenant t then (s.onTenRde t fun r => { r with st := .silent, matches_ := 0 }).pairAdvance else s

/-- RDE_TCMD RETRANSFER (R290). -/
def State.rdeRetransfer (s : State) (t : Nat) : State := s.pairReset t

end Sys2Proof.Machine
end

