-- ==== Sys2Proof/Machine/Reach.lean ====
section
/-!
DEFINITION. Machine/Reach.lean: who reaches the register space, and at which level (R53, R672, R694, R763).
-/

namespace Sys2Proof.Machine

/-! ## Who asks -/

/-- The privilege level of a requester (R694): only supervisory cores have one. -/
def State.levelOf (s : State) (who : Requester) : Option Level :=
  match who with
  | .sup c => some (smapGet (fun _ => {}) s.sup.cores c.val).lvl
  | _ => none

/-- A requester at Platform level. -/
def State.platform (s : State) (who : Requester) : Bool := decide (s.levelOf who = some .platform)

/-- A requester at Kernel or Platform level. -/
def State.kernel (s : State) (who : Requester) : Bool := decide (s.levelOf who = some .platform ∨ s.levelOf who = some .kernel)

/-- DBG_LOCK.STATE (R763): 0 OPEN, 1 LOCKED, 2 UNLOCKED, 3 SCRAP. -/
def State.dbgLock (s : State) : Nat :=
  match s.getF SEC.LC_STATE with
  | 2 => if s.flag SEC.LC_UNLOCKED then 2 else 1
  | 4 => 3
  | _ => 0

/-- DBGACC reaches the fabric (R763). -/
def State.dbgOpen (s : State) : Bool := decide (s.dbgLock = 0 ∨ s.dbgLock = 2)

/-- A requester reaches the register space (R53, R672). -/
def State.regReach (s : State) (who : Requester) : Bool :=
  match who with
  | .sup _ => s.kernel who
  | .mover m => s.flag (DMV.MCFG_REGOK m.val)
  | .debug => s.dbgOpen
  | .nvs => false

/-- Something a requester asks for in the register space (R53). -/
def State.regFrom (s : State) (who : Requester) (f : State → State) : State :=
  if s.regReach who then f s else s.respond who .denied

/-- The requester's holding is discarded (R22). -/
def State.unhold (s : State) (who : Requester) : State := s.setPort64 who fun p => { p with hold := none }

/-- A write that a requester makes to a register: it discards the requester's holding (R22, R53). -/
def State.writeFrom (s : State) (who : Requester) (f : State → State) : State := s.regFrom who fun s => f (s.unhold who)

/-- A register write of a requester while the module runs. -/
def State.actWrite (s : State) (who : Requester) (f : State → State) : Out := s.act fun s => s.writeFrom who f

/-- A register access of a requester while the module runs. -/
def State.actFrom (s : State) (who : Requester) (f : State → State) : Out := s.act fun s => s.regFrom who f

end Sys2Proof.Machine
end

