-- ==== Sys2Proof/Machine/Sec.lean ====
section
/-!
DEFINITION. Machine/Sec.lean: the key store, the supervisory engine, the life cycle, measurements and Ensign (chapter 16).
-/

namespace Sys2Proof.Machine

/-- A write from a level that may not make it (R694, R719). -/
def State.secLevel (s : State) : State := s.raise SEC.STATUS_LEVEL_REFUSED

/-- A refused key command's CODE (R726). -/
def State.keyRes (s : State) (code : Nat) : State := s.setF SEC.KEY_RES_CODE code

/-! ## Data registers -/

/-- The bytes of words, byte 4i + k in bits [8k + 7:8k] of word i (R695, R707). -/
def wordBytes (ws : List Nat) : List Byte := ws.flatMap (leBytes 4)

/-- The words of bytes. -/
def bytesWords (b : List Byte) : List Nat := (List.range ((b.length + 3) / 4)).map fun i => ofLe (sliceD 0 b (4 * i) 4)

/-- Bytes of the data buffer from word `i`, `n` words (R707). -/
def State.xBytes (s : State) (i n : Nat) : List Byte := wordBytes ((List.range n).map fun k => s.rd (SEC.X_D (i + k)))

/-- Write words to the data buffer from D0 on. -/
def State.setX (s : State) (ws : List Nat) : State := (ws.zipIdx).foldl (fun s (w, i) => s.wr (SEC.X_D i) w) s

/-- The key registers as one number, byte 0 lowest (R695). -/
def State.keyData (s : State) : Nat :=
  ofLe (wordBytes ((List.range 8).map fun i => smapGet (fun _ => 0) s.sec.keyD i))

/-- SEC_KEY_D0 to D7 return to zero (R695). -/
def State.clearKeyData (s : State) : State := s.onSec fun c => { c with keyD := [] }

/-- A write of SEC_KEY_Di (R694, R695). -/
def State.keyDataWrite (s : State) (who : Requester) (i v : Nat) : State :=
  if s.platform who then s.onSec fun c => { c with keyD := smapSet (fun _ => 0) c.keyD i (v % 2 ^ 32) } else s.secLevel

/-! ## Key commands -/

/-- A key command may begin: at Platform level, not BUSY, no life-cycle command under way (R694, R696, R712). -/
def State.keyCmd (s : State) (who : Requester) (f : State → State) : State :=
  if ¬ s.platform who then (if s.sec.keyRun.isSome then s else s.keyRes 1).secLevel
  else if s.sec.keyRun.isSome then s
  else if s.sec.lcRun.isSome then s.keyRes 2
  else f s

/-- A key command's new slot contents go to NVS (R697). -/
def State.keyStart (s : State) (n : Nat) (k : KeySlot) : State := (s.onSec fun c => { c with keyRun := some ⟨n, k⟩ })

/-- The bits of USAGE that an algorithm permits (R701). -/
def usageOk (alg usage : Nat) : Bool :=
  match alg with
  | 0 => true
  | 3 => !bit usage 0 && !bit usage 1
  | _ => !bit usage 2

/-- The big-endian integer of the 32 bytes of a key (R695). -/
def keyInt (key : Nat) : Nat := ofBe (leBytes 32 key)

/-- WRITE (R696). -/
def State.keyWrite (s : State) (who : Requester) (n : Nat) : State := s.keyCmd who fun s =>
  let alg := s.getF SEC.KEY_ATTR_ALG
  let usage := s.getF SEC.KEY_ATTR_USAGE
  let key := s.keyData
  if ¬ s.keysReachable then s.keyRes 2
  else if 3 < alg ∨ ¬ usageOk alg usage ∨ (alg = 3 ∧ ¬ (1 ≤ keyInt key ∧ keyInt key < p256.n)) then s.keyRes 3
  else s.keyStart n
    { key := key, alg := alg, usage := usage, owned := s.flag SEC.KEY_ATTR_OWNED, owner := s.getF SEC.KEY_ATTR_OWNER,
      expiry := s.rd SEC.KEY_EXP, keyId := s.rd SEC.KEY_ID, nextEn := s.flag SEC.KEY_NEXT_NEXT_EN,
      next := s.getF SEC.KEY_NEXT_NEXT, valid := true, expired := false }

/-- READ (R696). -/
def State.keyRead (s : State) (who : Requester) (n : Nat) : State := s.keyCmd who fun s =>
  let k := s.keySlot n
  let s := s.wr SEC.KEY_ATTR (k.alg * 2 ^ 29 + b2n k.owned * 2 ^ 28 + k.owner * 2 ^ 16 + b2n k.expired * 2 ^ 13 +
    b2n k.valid * 2 ^ 12 + k.usage)
  let s := (s.wr SEC.KEY_EXP k.expiry).wr SEC.KEY_ID k.keyId
  ((s.wr SEC.KEY_NEXT (b2n k.nextEn * 2 ^ 31 + k.next)).keyRes 0).clearKeyData

/-- ERASE (R696). -/
def State.keyErase (s : State) (who : Requester) (n : Nat) : State := s.keyCmd who fun s => s.keyStart n {}

/-- LINK (R696). -/
def State.keyLink (s : State) (who : Requester) (n : Nat) : State := s.keyCmd who fun s =>
  if ¬ s.keysReachable then s.keyRes 2
  else s.keyStart n { s.keySlot n with
    expiry := s.rd SEC.KEY_EXP, nextEn := s.flag SEC.KEY_NEXT_NEXT_EN, next := s.getF SEC.KEY_NEXT_NEXT }

/-- A key command's commit ends (R695, R697). -/
def State.keyCommit (s : State) (good : Bool) : State :=
  match s.sec.keyRun with
  | none => s
  | some r =>
    let s := (s.onSec fun c => { c with keyRun := none }).clearKeyData
    if good then (s.setKeySlot r.slot r.new).keyRes 0 else s.keyRes 4

/-- A write of SEC_KEY_CMD (R696). -/
def State.keyCmdWrite (s : State) (who : Requester) (v : Nat) : State :=
  let n := bits v 28 16
  match bits v 2 0 with
  | 1 => s.keyWrite who n
  | 2 => s.keyRead who n
  | 3 => s.keyErase who n
  | 4 => s.keyLink who n
  | _ => if s.platform who then s else s.secLevel

/-- At a tick boundary slots whose EXPIRY was reached become EXPIRED (R700). -/
def State.keyExpire (s : State) : State :=
  let due (k : KeySlot) : Bool := decide (k.expiry ≠ 0) && !k.expired && tickReached s.tab.tickNum k.expiry
  if s.sec.slots.any fun x => due x.2 then
    (s.onSec fun c => { c with slots := smapMap (fun _ => {}) (fun _ k => if due k then { k with expired := true } else k) c.slots }).raise
      SEC.STATUS_KEY_EXPIRED
  else s

/-! ## The supervisory engine -/

/-- An engine operation may begin (R707, R708, R712). -/
def State.engCmd (s : State) (who : Requester) (f : State → State) : State :=
  if s.sec.eng.isSome then s
  else if ¬ s.kernel who then s.setF SEC.ENG_RES_CODE 1
  else if s.sec.lcRun.isSome then s.setF SEC.ENG_RES_CODE 2
  else f s

/-- An engine operation runs: its code and the words it will write. -/
def State.engRun (s : State) (code : Nat) (words : List Nat) : State := s.onSec fun c => { c with eng := some ⟨code, words⟩ }

/-- HMAC_INIT (R699, R707). -/
def State.hmacInit (s : State) (who : Requester) (n : Nat) : State := s.engCmd who fun s =>
  if s.keyUsable n .supHmac then
    (s.onSec fun c => { c with hmac := some ((s.keySlot n).bytes 32, []) }).engRun 0 []
  else s.engRun 2 []

/-- A DIN word (R707, R708). -/
def State.engDin (s : State) (v : Nat) : State :=
  s.onSec fun c => { c with hmac := c.hmac.map fun h => (h.1, h.2 ++ leBytes 4 v) }

/-- HMAC_FINAL (R707, R708). -/
def State.hmacFinal (s : State) (who : Requester) (tailb : Nat) : State := s.engCmd who fun s =>
  match s.sec.hmac with
  | none => s.engRun 4 []
  | some (key, msg) =>
    (s.onSec fun c => { c with hmac := none }).engRun 0 (bytesWords (hmac256 key (msg.take (msg.length - tailb))))

/-- SIGN256 (R707): the per-signature secret comes from the random source. -/
def State.sign256 (s : State) (who : Requester) (n : Nat) : State := s.engCmd who fun s =>
  if s.keyUsable n .supSign then
    let f := s.takeFree
    let sig := ecdsaSign p256 (keyInt (s.keySlot n).key) (1 + f.1 % (p256.n - 1)) (ofBe (s.xBytes 0 8))
    f.2.engRun 0 (bytesWords (beBytes 32 sig.1 ++ beBytes 32 sig.2))
  else s.engRun 2 []

/-- VERIFY256 (R707). -/
def State.verify256 (s : State) (who : Requester) : State := s.engCmd who fun s =>
  let x (i : Nat) : Nat := ofBe (s.xBytes i 8)
  s.engRun (if ecdsaVerify p256 (x 12) (x 20) (x 0) (x 36) (x 44) then 0 else 3) []

/-- VERIFY384 (R707). -/
def State.verify384 (s : State) (who : Requester) : State := s.engCmd who fun s =>
  let x (i : Nat) : Nat := ofBe (s.xBytes i 12)
  s.engRun (if ecdsaVerify p384 (x 12) (x 24) (x 0) (x 36) (x 48) then 0 else 3) []

/-- An engine operation completes (R708). -/
def State.engComplete (s : State) : State :=
  match s.sec.eng with
  | none => s
  | some r => (((s.onSec fun c => { c with eng := none }).setX r.words).setF SEC.ENG_RES_CODE r.code).raise SEC.STATUS_ENG_DONE

/-- A write of SEC_ENG_CMD (R707). -/
def State.engCmdWrite (s : State) (who : Requester) (v : Nat) : State :=
  match bits v 2 0 with
  | 1 => s.hmacInit who (bits v 28 16)
  | 2 => s.hmacFinal who (bits v 9 8)
  | 3 => s.sign256 who (bits v 28 16)
  | 4 => s.verify256 who
  | 5 => s.verify384 who
  | _ => s

/-! ## Roots and derived keys -/

/-- The root in effect (R709): 0 factory, 1 owner, 2 field. -/
def State.rootSel (s : State) : Nat :=
  if s.getF SEC.LC_STATE = 1 ∧ s.flag SEC.LC_OWNER_SET then 1
  else if s.getF SEC.LC_STATE = 2 ∧ s.flag SEC.LC_FIELDKEYS then 2 else 0

/-- The bytes of the root in effect. -/
def State.root (s : State) : List Byte :=
  leBytes 32 (match s.rootSel with
    | 1 => s.sec.ownerRoot
    | 2 => s.sec.fieldRoot
    | _ => Config.factoryRoot)

/-- SYS_SERIAL as 8 big-endian bytes. -/
def serialBytes : List Byte := beBytes 8 Config.serial

/-- The bytes of an info string (R714). -/
def infoBytes (t : String) : List Byte := (t.toList).map fun c => BitVec.ofNat 8 c.toNat

/-- A key derived from a root (R714). -/
def derive (root : List Byte) (info : String) (len : Nat) : List Byte := hkdf384 root serialBytes (infoBytes info) len

/-- The Ensign private key (R716). -/
def State.ensKey (s : State) : Nat := ofBe (derive s.root "SPN4410 ENSIGN" 64) % (p384.n - 1) + 1

/-- The bytes of SEC_ENS_PUB (R716). -/
def State.ensPub (s : State) : List Byte :=
  let q := ecPublic p384 s.ensKey
  beBytes 48 q.1 ++ beBytes 48 q.2

/-- SEC_LC as it reads (R726). -/
def State.lcWord (s : State) : Nat := putBits (s.rd SEC.LC) 9 8 s.rootSel

/-! ## Life cycle -/

/-- A life-cycle command is refused (R710). -/
def State.lcRefuse (s : State) (code : Nat) : State := (s.setF SEC.LC_RES_CODE code).raise SEC.STATUS_LC_REFUSED

/-- What a life-cycle command does (R710, R711, R733): no reset is taken here. -/
def State.lcApply (s : State) (r : LcRun) : State :=
  let s := s.onSec fun c => { c with lcRun := none }
  match r.op with
  | .provision => s.setF SEC.LC_STATE 1
  | .ownerRoot => (s.onSec fun c => { c with ownerRoot := r.value }).setF SEC.LC_OWNER_SET 1
  | .field =>
    let f := s.takeFree
    (((f.2.onSec fun c => { c with fieldRoot := f.1 % 2 ^ 256 }).setF SEC.LC_STATE 2).setF SEC.LC_FIELDKEYS 1)
  | .rma => (s.onSec fun c => { c with slots := [], ownerRoot := 0, fieldRoot := 0, tdig := [], rmaZero := true }).setF SEC.LC_STATE 3
  | .relock => s.setF SEC.LC_UNLOCKED 0
  | .scrap =>
    let s := (s.onSec fun c => { c with slots := [], ownerRoot := 0, fieldRoot := 0, tdig := [] }).setF SEC.LC_STATE 4
    let s := { s with mem := s.mem.filter fun c => !decide (0x2000000000 ≤ c.1 ∧ c.1 < 0x2040000000) }
    (s.wr SUP.BOOTSVN 0).zeroAll (((List.range 4).map fun k => (List.range 12).map fun w => SUP.BKD k w).flatten)
  | .challenge =>
    let f := s.takeFree
    let b := leBytes 32 f.1
    (f.2.setX (bytesWords b)).onSec fun c => { c with challenge := some (ofLe b) }

/-- Something that a life-cycle command waits for is in progress (R712). -/
def State.secBusy (s : State) : Bool := s.sec.keyRun.isSome || s.sec.eng.isSome || s.sec.ens.isSome

/-- A life-cycle command is accepted (R710, R712): one without LCT acts at once when nothing is in progress. -/
def State.lcStart (s : State) (op : LcOp) (value : Nat) : State :=
  let s := s.setF SEC.LC_RES_CODE 0
  let lct := decide (op = .provision ∨ op = .field ∨ op = .rma ∨ op = .scrap)
  if lct ∨ s.secBusy then s.onSec fun c => { c with lcRun := some ⟨op, value⟩ } else s.lcApply ⟨op, value⟩

/-- A life-cycle command: level, KEY, and that none is under way (R694, R710). -/
def State.lcCmd (s : State) (who : Requester) (key : Nat) (f : State → State) : State :=
  if ¬ s.platform who then (if s.sec.lcRun.isSome then s else s.setF SEC.LC_RES_CODE 1).secLevel
  else if key ≠ 0x4C43 ∨ s.sec.lcRun.isSome then s.lcRefuse 2
  else f s

/-- A command that the table of R710 lists for some states. -/
def State.lcWhen (s : State) (ok : Bool) (op : LcOp) (value : Nat) : State := if ok then s.lcStart op value else s.lcRefuse 3

/-- OP PROVISION. -/
def State.lcProvision (s : State) (who : Requester) (key : Nat) : State := s.lcCmd who key fun s =>
  s.lcWhen (decide (s.getF SEC.LC_STATE = 0)) .provision 0

/-- OP OWNER_ROOT. -/
def State.lcOwnerRoot (s : State) (who : Requester) (key : Nat) : State := s.lcCmd who key fun s =>
  s.lcWhen (decide (s.getF SEC.LC_STATE = 1) && !s.flag SEC.LC_OWNER_SET) .ownerRoot s.keyData

/-- OP FIELD. -/
def State.lcField (s : State) (who : Requester) (key : Nat) : State := s.lcCmd who key fun s =>
  s.lcWhen (decide (s.getF SEC.LC_STATE = 1) && s.flag SEC.LC_OWNER_SET) .field 0

/-- OP SCRAP. -/
def State.lcScrap (s : State) (who : Requester) (key : Nat) : State := s.lcCmd who key fun s => s.lcStart .scrap 0

/-- OP RELOCK. -/
def State.lcRelock (s : State) (who : Requester) (key : Nat) : State := s.lcCmd who key fun s =>
  s.lcWhen (decide (s.getF SEC.LC_STATE = 2) && s.flag SEC.LC_UNLOCKED) .relock 0

/-- OP CHALLENGE (R711): random bytes, once nothing is in progress (R712). -/
def State.lcChallenge (s : State) (who : Requester) (key : Nat) : State := s.lcCmd who key fun s => s.lcStart .challenge 0

/-- The token that RMA takes (R711, R715). -/
def State.rmaToken (s : State) (challenge : Nat) : List Byte :=
  hmac256 (derive (leBytes 32 s.sec.ownerRoot) "SPN4410 RMA" 32) (serialBytes ++ leBytes 32 challenge)

/-- OP RMA (R710, R711). -/
def State.lcRma (s : State) (who : Requester) (key : Nat) : State := s.lcCmd who key fun s =>
  if 2 < s.getF SEC.LC_STATE then s.lcRefuse 3
  else if ¬ s.flag SEC.LC_OWNER_SET then s.lcStart .rma 0
  else
    let ok := match s.sec.challenge with
      | some c => decide (s.xBytes 0 8 = s.rmaToken c)
      | none => false
    let s := s.onSec fun c => { c with challenge := none }
    if ok then s.lcStart .rma 0 else s.lcRefuse 4

/-- A write of SEC_LC_CMD (R710). -/
def State.lcCmdWrite (s : State) (who : Requester) (v : Nat) : State :=
  let key := bits v 31 16
  match bits v 3 0 with
  | 1 => s.lcProvision who key
  | 2 => s.lcField who key
  | 3 => s.lcRma who key
  | 4 => s.lcScrap who key
  | 5 => s.lcRelock who key
  | 6 => s.lcOwnerRoot who key
  | 7 => s.lcChallenge who key
  | _ => s.lcCmd who key fun s => s.lcRefuse 3

/-! ## Zeroise -/

/-- SEC_CMD.ZEROISE (R718). -/
def State.zeroise (s : State) (who : Requester) : State :=
  if s.platform who then
    s.onSec fun c => { c with slots := [], keyRun := c.keyRun.map fun r => { r with new := {} }, zeroising := true }
  else s.secLevel

/-- Zeroise finishes (R718). -/
def State.zeroiseDone (s : State) : State :=
  if s.sec.zeroising then (s.onSec fun c => { c with zeroising := false }).raise SEC.STATUS_ZERO_DONE else s

/-- SEC_CMD.CNT_CLR (R726). -/
def State.secCntClr (s : State) (who : Requester) : State := if s.platform who then s.wr SEC.KEYUNAVAIL 0 else s.secLevel

/-- A write of SEC_CMD. -/
def State.secCmdWrite (s : State) (who : Requester) (v : Nat) : State :=
  if s.platform who then (s.when (bit v 1) (·.secCntClr who)).when (bit v 0) (·.zeroise who) else s.secLevel

/-! ## Measurements -/

/-- A measurement register (R719). -/
def State.mrBytes (s : State) (i : Nat) : List Byte := wordBytes ((List.range 12).map fun w => s.rd (SEC.MR i w))

/-- Extend a measurement register with 48 bytes (R719). -/
def State.mrExtendWith (s : State) (i : Nat) (d : List Byte) : State :=
  ((bytesWords (sha384 (s.mrBytes i ++ d))).zipIdx).foldl (fun s (w, k) => s.wr (SEC.MR i k) w) s

/-- A write of SEC_MR_EXT (R719). -/
def State.mrExtend (s : State) (who : Requester) (i : Nat) : State :=
  if (i < 4 ∧ ¬ s.platform who) ∨ ¬ s.kernel who then s.secLevel else s.mrExtendWith i (s.xBytes 0 12)

/-- The digest of a tenant's slot (R720). -/
def State.tdigBytes (s : State) (t slot : Nat) : List Byte := beBytes 48 (smapGet (fun _ => 0) s.sec.tdig (2 * t + slot))

/-- TDIG WRITE (R720). -/
def State.tdigWrite (s : State) (who : Requester) (t slot : Nat) : State :=
  if ¬ s.platform who then (s.setF SEC.TDIG_RES_CODE 1).secLevel
  else
    let runs := decide (s.tenSt t = .active ∨ s.tenSt t = .moving)
    if (s.activeSlot t = slot ∧ runs) ∨ s.getF (CYC.XCHG_XSTATE t) ≠ 0 then s.setF SEC.TDIG_RES_CODE 2
    else (s.onSec fun c => { c with tdig := smapSet (fun _ => 0) c.tdig (2 * t + slot) (ofBe (s.xBytes 0 12)) }).setF
      SEC.TDIG_RES_CODE 0

/-- TDIG READ (R721, R726). -/
def State.tdigRead (s : State) (who : Requester) (t slot : Nat) : State :=
  if ¬ s.platform who then (s.setF SEC.TDIG_RES_CODE 1).secLevel
  else (s.setX (bytesWords (s.tdigBytes t slot))).setF SEC.TDIG_RES_CODE 0

/-- A write of SEC_TDIG_CMD (R694, R726). -/
def State.tdigCmdWrite (s : State) (who : Requester) (v : Nat) : State :=
  match bits v 17 16 with
  | 1 => s.tdigWrite who (bits v 9 0) (bits v 20 20)
  | 2 => s.tdigRead who (bits v 9 0) (bits v 20 20)
  | _ => if s.platform who then s else s.secLevel

/-- The tenant aggregate (R721). -/
def State.aggregate (s : State) : List Byte :=
  sha384 ((s.validTenants.map fun t =>
    beBytes 2 t ++ beBytes 1 (s.activeSlot t) ++ beBytes 1 (s.getF (CYC.TSTATE_STATE t)) ++ s.tdigBytes t (s.activeSlot t)).flatten)

/-! ## Ensign -/

/-- The statement up to its signature (R722, R724). -/
def State.ensBody (s : State) (mono : Nat) : List Byte :=
  beBytes 4 0x454E5347 ++ beBytes 2 1 ++ beBytes 2 992 ++ beBytes 4 (s.rd SYS.DEVID) ++ beBytes 4 0 ++ serialBytes ++
  beBytes 4 s.lcWord ++ beBytes 4 0 ++ beBytes 8 mono ++ beBytes 4 s.validTenants.length ++ beBytes 4 0 ++
  wordBytes ((List.range 8).map fun i => s.rd (SEC.ENS_NONCE i)) ++ s.aggregate ++ ((List.range 16).map s.mrBytes).flatten

/-- SEC_ENS_CMD.GO (R722). -/
def State.ensignGo (s : State) (who : Requester) : State :=
  if s.sec.ens.isSome then s
  else if ¬ s.kernel who then s.setF SEC.ENS_RES_CODE 1
  else if s.sec.lcRun.isSome then s.setF SEC.ENS_RES_CODE 2
  else
    let mono := min (s.rd SEC.MONO + 1) (2 ^ 64 - 1)
    s.onSec fun c => { c with ens := some ⟨s.ensBody mono, mono, s.ensKey⟩ }

/-- Ensign generation ends (R722 to R724): `good` says that SEC_MONO was committed to NVS. -/
def State.ensignDone (s : State) (good : Bool) : State :=
  match s.sec.ens with
  | none => s
  | some r =>
    let s := s.onSec fun c => { c with ens := none }
    if ¬ good then s.setF SEC.ENS_RES_CODE 2
    else
      let f := s.takeFree
      let sig := ecdsaSign p384 r.key (1 + f.1 % (p384.n - 1)) (ofBe (sha384 r.body))
      let all := r.body ++ beBytes 48 sig.1 ++ beBytes 48 sig.2
      let s := ((bytesWords all).zipIdx).foldl (fun s (w, i) => s.wr (SEC.ENS_BUF i) w) (f.2.wr SEC.MONO r.mono)
      (s.setF SEC.ENS_RES_CODE 0).raise SEC.STATUS_ENS_DONE

/-! ## Reach -/

/-- A command to SEC, a register write of a requester, from one that reaches it (R22, R53, R672); a mover's ends with an access
fault. -/
def State.secFrom (s : State) (who : Requester) (f : State → State) : State :=
  match who with
  | .mover _ | .nvs => s.respond who .accessFault
  | _ => s.writeFrom who f

end Sys2Proof.Machine
end

