-- ==== Sys2Proof/Machine/Events.lean ====
section
/-!
DEFINITION. Machine/Events.lean: the events that several blocks act on: angle ticks, comparators, frames handed to INGEST and
HOST, output samples and the readiness of a tick.
-/

namespace Sys2Proof.Machine

/-! ## Comparators -/

/-- A comparator delivers to its DEST (R106, R107, R401, R621); an INDEX beyond the range delivers nothing. -/
def State.cmpDeliver (s : State) (c : Nat) : State :=
  let i := s.getF (TAB.CCFG_INDEX c)
  match s.getF (TAB.CCFG_DEST c) with
  | 1 =>
    if i < 1024 then (s.evPut i ⟨2 ^ 29 + c * 2 ^ 16, s.tab.au % 2 ^ 32, evTod s.tab.ns, 0⟩).1 else s
  | 2 => if i < 10 then s.gclAnchor i else s
  | 3 => if i < 4096 then s.pubAnchor i else s
  | 4 => if i < 16 then s.capTrigger i ⟨s.tab.ns, 0xFE, 0⟩ else s
  | _ => s

/-- A comparator fires now (R105, R106, R110). -/
def State.cmpFires (s : State) (c : Nat) : State := ((s.cmpRecord c).cmpSpend c).cmpDeliver c

/-! ## What falls due as time runs -/

/-- What CK_PTP brings on by itself between two tick boundaries. -/
inductive TimeEvent where
  | comparator (c : Nat)
  | ppsOut
  | txEnd (p : Nat)
  | cycleStart (p e : Nat)
  | entryEnd (p : Nat)
  deriving DecidableEq, Repr

/-- CK_PTP cycles until the frame in transmission on a lane ends (R182). -/
def State.txEndIn (s : State) (p : Nat) : Option Nat :=
  (s.port p).sending.map fun x => s.todCycles (x.endAt - s.tab.mono).toNat

/-- What lies ahead, each with the CK_PTP cycles until it: the comparators in ascending order (R107), PPS_OUT, then the ports. -/
def State.upcoming (s : State) : List (Nat × TimeEvent) :=
  ((s.listed (TAB.CCFG 0) 0x20 256).filterMap fun c =>
    (s.cmpAhead c).map fun d => (cyclesFor d (s.rd TAB.WS_FW), TimeEvent.comparator c)) ++
  (s.ppsIn.map fun n => (n, TimeEvent.ppsOut)).toList ++
  (s.pcx.ports.filterMap fun (p, _) => (s.txEndIn p).map fun n => (n, TimeEvent.txEnd p)) ++
  ((s.listed (PCX.GCL_CTL 0) 0x10000 10).map fun p =>
    ((s.cycleIn p 0).map fun n => (n, TimeEvent.cycleStart p 0)).toList ++
    ((s.cycleIn p 1).map fun n => (n, TimeEvent.cycleStart p 1)).toList ++
    ((s.entryEndIn p).map fun n => (n, TimeEvent.entryEnd p)).toList).flatten

/-- What has fallen due happens. -/
def State.happen (s : State) : TimeEvent → State
  | .comparator c => s.cmpFires c
  | .ppsOut => s.ppsRise
  | .txEnd p => s.txDone p
  | .cycleStart p e => s.cycleStarts p e
  | .entryEnd p => s.entryEnds p

/-- Everything that is due in the present CK_PTP cycle happens (R107). -/
def State.fireDue (s : State) : State := ((s.upcoming.filter fun e => e.1 = 0).map (·.2)).foldl State.happen s

/-- `n` CK_PTP cycles pass, and what falls due on the way happens in its cycle (R107, R110, R112, R174); the first argument bounds
the cycles in which something does. -/
def State.pass : Nat → Nat → State → State
  | 0, _, s => s
  | k + 1, n, s =>
    let es := s.upcoming.filter fun e => decide (0 < e.1 ∧ e.1 ≤ n)
    match (es.map (·.1)).min? with
    | none => if n = 0 then s else s.advance n
    | some m => State.pass k (n - m) (((es.filter fun e => e.1 = m).map (·.2)).foldl State.happen (s.advance m))

/-- What is due happens, then `n` CK_PTP cycles pass. -/
def State.runFor (s : State) (n : Nat) : State := State.pass (n + 1) n s.fireDue

/-- The counter crosses a tick boundary (R103): what falls due before it happens; TAB raises the tick, Windsock acts (R92), then the
cluster with its forces (R388, R455), the pair (R273, R290), PUB (R580), key expiry (R700) and, while CK_SIG runs, CAP (R611);
last, what is due in the new tick's first cycle. -/
def State.angleTick (s : State) : State :=
  let s := ((s.runFor s.boundaryIn).tickRaised.windsock).cycBoundary
  let s := (s.rdeBoundary.pubBoundary).keyExpire
  let s := if s.sys.power = .run then s.capTickRaised else s
  s.fireDue

/-- Time runs to an event that lies some CK_PTP cycles ahead, when that is before the next tick boundary; at the boundary's own
cycle the tick is raised with it. What lies further ahead waits for its tick. -/
def State.runTo (s : State) (n : Option Nat) : State :=
  match n with
  | none => s
  | some n => if n < s.boundaryIn then s.runFor n else if n = s.boundaryIn then s.angleTick else s

/-- Time runs to an instant. -/
def State.runToInstant (s : State) (i : Option Int) : State := s.runTo (i.map fun i => s.todCycles (i - s.tab.mono).toNat)

/-- A publication's repeat interval ends (R581). -/
def State.repeatEnds (s : State) (n : Nat) : State := (s.runToInstant (s.repeatAt n)).gooseRepeat n

/-- The timeAllowedtoLive of a subscription's last frame ends (R598). -/
def State.talEnds (s : State) (m : Nat) : State := (s.runToInstant (s.talAt m)).gooseExpire m

/-- One CK_PTP cycle passes. -/
def State.clockCycle (s : State) : State := if s.boundaryIn ≤ 1 then s.angleTick else s.runFor 1

/-- A comparator reaches its target (R105): when the target lies ahead in the present tick, the counter runs to it. -/
def State.comparatorFire (s : State) (c : Nat) : State :=
  match s.cmpAhead c with
  | none => s
  | some d => s.runFor (cyclesFor d (s.rd TAB.WS_FW))

/-- PPS_OUT's next edge comes (R82). -/
def State.ppsOutEdge (s : State) : State := s.runTo s.ppsIn

/-- A PTP-anchored list of epoch `e` comes to its next cycle start (R171, R173, R179). -/
def State.gclCycleStart (s : State) (p e : Nat) : State := s.runTo (s.cycleIn p e)

/-- A gate list entry's TIME runs out (R170). -/
def State.gclEntryEnd (s : State) (p : Nat) : State := s.runTo (s.entryEndIn p)

/-- The lane's present frame ends first, where it does so before the next tick boundary (R168, R176). -/
def State.laneReady (s : State) (p : Nat) : State := s.runTo (s.txEndIn p)

/-- TX_FRAME_START (R168): the next frame starts once the lane is free. -/
def State.frameStart (s : State) (p : Nat) (parity : Bool) : State :=
  let s := s.laneReady p
  if (s.port p).sending.isSome then s else s.txStart p parity

/-- RING_FORWARD (R269, R270): the same for a forwarded frame. -/
def State.ringForward (s : State) (p : Nat) : State :=
  let s := s.laneReady p
  if (s.port p).sending.isSome then s else s.ringStart p

/-- A write of a comparator's TARGET or CFG (R108, R109). -/
def State.comparatorWrite (s : State) (c a v : Nat) : State :=
  let r := (s.plainWrite a v).cmpArm c
  if r.2 then r.1.cmpFires c else r.1

/-! ## Internal egress -/

/-- The EtherType of GOOSE (R596). -/
def gooseType : Nat := 0x88B8

/-- A frame reaches the consumers of HOST: PUB examines GOOSE, and the host receive rings take every frame (R596, R684). -/
def State.hostFrame (s : State) (f : Frame) : State :=
  let s := if etherType f.bytes = gooseType then s.onPub fun b => { b with inbox := b.inbox ++ [f] } else s
  s.dmvDeliver f

/-- INGEST or HOST egress hands over a frame (R196); in Lull nothing takes a frame of INGEST (R740). -/
def State.internalEgress (s : State) (host parity : Bool) : State :=
  if host then
    match s.popInternal 11 parity with
    | (s, some f) => s.hostFrame f
    | (s, none) => s
  else if s.sys.power ≠ .run then s
  else
    match s.popInternal 10 parity with
    | (s, some f) => s.onSwc fun w => { w with ingest := w.ingest ++ [f] }
    | (s, none) => s

/-! ## Output samples and readiness -/

/-- Time runs to a stream's fill deadline for a tick, where TOD has not reached it (R326): whether it has come. -/
def State.toDeadline (s : State) (st tick : Nat) : State × Bool :=
  let s := match s.deadlineIn st tick with
    | some (n + 1) => s.runTo (some (n + 1))
    | _ => s
  (s, decide (s.deadlineIn st tick = some 0))

/-- FILL_DEADLINE (R326, R331). -/
def State.deadlinePasses (s : State) (st tick : Nat) : State :=
  let r := s.toDeadline st tick
  if r.2 then r.1.fillDeadline st tick else r.1

/-- HORIZON_FREEZE (R332): the deadline of the tick after the one that needed a sample. -/
def State.horizonPasses (s : State) (st tick : Nat) : State :=
  let r := s.toDeadline st tick
  if r.2 then r.1.horizonFreeze st tick else r.1

/-- An output sample of a stream is computed and written, and the publications that it completes take it (R366, R593). -/
def State.outputSample (s : State) (st : Nat) : State :=
  match s.resampleOutput st with
  | (s, some j) =>
    match s.mapped st with
    | some g => s.svOutput st g j
    | none => s
  | (s, none) => s

/-- The last tick declared ready for a tenant. -/
def State.readyRec (s : State) (t : Nat) : Option ReadyRec := smapGet (fun _ => none) s.svc.ready t

/-- Tick `k` may be declared ready for a tenant now (R38, R333, R335): it was raised, comes after the last one (R102), every stream
of the tenant's set that counts has delivered or was filled, and no stream of the set has rewrites pending. -/
def State.mayReady (s : State) (t k : Nat) : Bool :=
  s.tickCrossed k && (s.readyRec t).all (fun r => s.tickAfter r.tick k) &&
    (s.countingStreams t k).all (fun st => s.streamDelivered st k) && (s.streamsFor t k).all s.rewritten

/-- SVC declares tick `k` ready for a tenant (R38, R39, R334, R336, R585). -/
def State.tickReady (s : State) (t k : Nat) : State :=
  if ¬ s.mayReady t k ∨ s.tenSt t = .empty then s
  else
    let sts := s.streamsFor t k
    let prev := s.prevTick k
    let v := (prev.map (s.verdict sts)).getD 0
    let d := s.descriptor sts k v
    let s := s.onSvc fun c => { c with ready := smapSet (fun _ => none) c.ready t (some ⟨k, descProv d⟩) }
    let s := s.onTenant t fun x => { x with latest := d }
    (s.pubVerdict t ((prev.getD (2 ^ 32 - 1)) % 2 ^ 32) v).tickDispatch t d

end Sys2Proof.Machine
end

