-- ==== Sys2Proof/Machine/Clock.lean ====
section
/-!
DEFINITION. Machine/Clock.lean: what one clock cycle does when no command waits.
-/

namespace Sys2Proof.Machine

/-- One cycle of time. Awake: one CK_PTP cycle of TOD and the angle counter with all that falls due in it (R65, R99, R112). Held by a
reset of class S other than POR: TOD alone goes on (R71). In Calm: one CK_AON cycle of 40 ns at the rate of Calm entry (R71, R78).
Held by POR: nothing (R72). -/
def State.clock (s : State) : State :=
  match s.sys.power with
  | .run | .lull => s.clockCycle
  | .held => if s.sys.porHeld then s else (s.onTab fun t => t.advance s.srvRate 0 1).hoTime 1
  | .calm => (s.onTab fun t => t.advance s.srvRate 0 10).hoTime 10

end Sys2Proof.Machine
end

