-- ==== Sys2Proof/Machine/GatedRegs.lean ====
section
/-!
DEFINITION. Machine/GatedRegs.lean: what a write does to a register of SVC and of CAP, the two blocks that CK_SIG runs: a write
of software in Lull waits in the block's path until the clock resumes (R46).
-/

namespace Sys2Proof.Machine

/-- A write to a register of SVC takes effect (chapters 06, 07). -/
def State.svcWrite (s : State) (a v : Nat) : State :=
  match regAt a with
  | none => s
  | some (r, is) =>
    let i := is.headD 0
    if r.base = SVC.CMD then (s.when (bit v 0) (·.subFlip)).when (bit v 1) (·.svcCntClr)
    else if r.base = SVC.STRCFG 0 then s.strcfgWrite i v
    else if r.base = SVC.STRCFG2 0 then s.strcfg2Write i v
    else if r.base = SVC.CHCFG 0 then s.chcfgWrite i v
    else if SVC.SUB_W0 0 0 ≤ a then s.subWrite i ((is.drop 1).headD 0) ((a - SVC.SUB_W0 0 0) % 128 / 4) v
    else if r.base = SVC.RSCFG 0 then s.rscfgWrite i v
    else if r.base = SVC.PHDLY 0 then s.phdlyWrite i v
    else if r.base = SVC.ISET 0 then s.setWrite false i v
    else if r.base = SVC.DSET 0 then s.setWrite true i v
    else if r.base = SVC.GCFG 0 then s.gcfgWrite i v
    else if r.base = SVC.GDMIN 0 ∨ r.base = SVC.PERIOD 0 ∨ r.base = SVC.GBASE 0 then s.gridWrite i a v
    else if r.base = SVC.COEF_DATA then (s.coefAccess (some v)).1
    else s.plainWrite a v

/-- A write to a register of CAP takes effect (chapter 13). -/
def State.capWrite (s : State) (a v : Nat) : State :=
  match regAt a with
  | none => s
  | some (r, is) =>
    let u := is.headD 0
    if r.base = CAP.UCMD 0 then s.capCmdWrite u v
    else if r.base = CAP.UCFG 0 then s.capCfgWrite u v
    else if r.base = CAP.URDPTR 0 then s.rdptrWrite u v
    else if r.base = CAP.UDIRIDX 0 then s.ridxWrite u v
    else if r.base = CAP.UCNT 0 ∨ r.base = CAP.UPRE 0 ∨ r.base = CAP.UPOST 0 ∨ r.base = CAP.UTSUNIT 0 ∨ r.base = CAP.URBASE 0 ∨
        r.base = CAP.URSIZE 0 ∨ r.base = CAP.UDIRBASE 0 ∨ r.base = CAP.ACH 0 0 ∨ r.base = CAP.BPT 0 0 then s.capHeldWrite u a v
    else if r.base = CAP.TRM_W0 0 0 then s.capTermWrite u ((is.drop 1).headD 0) v
    else s.plainWrite a v

/-- A write of a whole register of SVC or CAP takes effect. -/
def State.sigRegWrite (s : State) (a v : Nat) : State := if a < 0x3000800000 then s.svcWrite a v else s.capWrite a v

/-- A write that waited takes effect (R46); one of a high word alone joins the low half that the register has by then (R20). -/
def State.gatedWrite (s : State) (a v : Nat) : State :=
  if (regAt a).isNone then s.sigRegWrite (a - 4) (v % 2 ^ 32 * 2 ^ 32 + s.rd (a - 4) % 2 ^ 32) else s.sigRegWrite a v

end Sys2Proof.Machine
end

