-- ==== Sys2Proof/Machine/Reset.lean ====
section
/-!
DEFINITION. Machine/Reset.lean: the reset kinds, the power states, the global watchdog, the NVS controller and the boot ROM
(chapter 17).
-/

namespace Sys2Proof.Machine

/-- Change what SYS holds beside its registers. -/
def State.onSys (s : State) (f : SysState → SysState) : State := { s with sys := f s.sys }

/-- A bit of SYS_RST_CAUSE sets (R756). -/
def State.setCause (s : State) (i : Nat) : State := s.setF ⟨SYS.RST_CAUSE, i, 1⟩ 1

/-- Fields of some classes return to their reset values (R30). -/
def State.resetFields (s : State) (cs : List RClass) : State :=
  { s with regs := smapMap regDefault (resetWord fun _ _ f => classIn cs f) s.regs }

/-! ## NVS -/

/-- The first byte of the NVS read window (R47). -/
def nvsBase : Nat := 0x2000000000

/-- The NVS controller as a requester of memory (R47); the manual gives it no port. -/
def nvsWho : MemWho := ⟨97, false, 0⟩

/-- Who reads the source of an NVS command: a poisoned or missing byte gives none; with the state after the reads. -/
def State.nvsSource (s : State) (a n : Nat) : State × Option (List Byte) :=
  match s.physLoad nvsWho a n with
  | .ok s b => if (wordsOf a n).all (fun w => physRegion (w * 8) = physRegion a) then (s, some b) else (s, none)
  | .poison s => (s, none)
  | _ => (s, none)

/-- The 4 KiB pages of a write hold their new bytes or their old ones, each in full, when it does not complete (R736). -/
def State.nvsPages (s : State) (a : Nat) (b : List Byte) : Nat → State
  | 0 => s
  | n + 1 =>
    let f := s.takeFree
    (if f.1 % 2 = 1 then f.2.storeBytes a (b.take 4096) else f.2).nvsPages (a + 4096) (b.drop 4096) n

/-- The bytes that an NVS command puts into its pages. -/
def State.nvsBytes (s : State) (r : NvsRun) : State × Option (List Byte) :=
  match r.op with
  | .write => s.nvsSource r.src r.len
  | .erase => (s, some (List.replicate r.len 0xFF))
  | .bkd _ => s.nvsSource r.src 48

/-- A boot-key digest is stored (R758). -/
def State.bkdStore (s : State) (k : Nat) (b : List Byte) : State :=
  ((List.range 12).foldl (fun s w => s.wr (SUP.BKD k w) (ofLe (sliceD 0 b (4 * w) 4))) s).setF
    ⟨SUP.BOOTSVN, 16 + k, 1⟩ 1

/-- An NVS command that does not complete: every page, or the digest slot, is old or new in full (R736). -/
def State.nvsCut (s : State) (r : NvsRun) : State :=
  match s.nvsBytes r with
  | (s, none) => s
  | (s, some b) =>
    match r.op with
    | .bkd k =>
      let f := s.takeFree
      if f.1 % 2 = 1 then f.2.bkdStore k b else f.2
    | _ => s.nvsPages (nvsBase + r.addr) b (r.len / 4096)

/-- SUP_NVS_RES after a command was refused or ended. -/
def State.nvsRes (s : State) (code : Nat) : State := s.setF SUP.NVS_RES_CODE code

/-- An NVS command is written (R758): level, checks, then it runs. -/
def State.nvsStart (s : State) (who : Requester) (op : NvsOp) : State :=
  let r : NvsRun := ⟨op, s.getF SUP.NVS_ADDR_ADDR, s.getF SUP.NVS_LEN_LEN, s.getF SUP.NVS_SRC_SRC⟩
  let go := (s.nvsRes 0).onSys fun y => { y with nvs := some r }
  if s.sys.nvs.isSome then s
  else if ¬ s.platform who then s.nvsRes 1
  else match op with
    | .bkd k =>
      if r.src % 8 ≠ 0 then s.nvsRes 2
      else if 1 < s.getF SEC.LC_STATE ∨ s.flag ⟨SUP.BOOTSVN, 16 + k, 1⟩ then s.nvsRes 3
      else go
    | _ => if r.addr % 4096 ≠ 0 ∨ r.len % 4096 ≠ 0 ∨ 2 ^ 30 < r.addr + r.len then s.nvsRes 2 else go

/-- A write of SUP_NVS_CMD. -/
def State.nvsCmdWrite (s : State) (who : Requester) (v : Nat) : State :=
  match bits v 2 0 with
  | 1 => s.nvsStart who .write
  | 2 => s.nvsStart who .erase
  | 3 => s.nvsStart who (.bkd (bits v 21 20))
  | _ => s

/-- Bytes were written to NVS (R796). -/
def State.nvsWear (s : State) (n : Nat) : State := s.onSys fun y => { y with nvsWritten := y.nvsWritten + n }

/-- The bytes that a command writes: a digest takes one page (R758). -/
def NvsRun.writes (r : NvsRun) : Nat :=
  match r.op with
  | .bkd _ => 4096
  | _ => r.len

/-- The controller rewrites pages with the bytes they hold (R797): it counts as wear, and nothing else of it shows. How many pages
are due is open. -/
def State.nvsRefresh (s : State) : State :=
  if s.sys.nvs.isSome then s
  else
    let f := s.takeFree
    f.2.nvsWear (f.1 % 262145 * 4096)

/-- An NVS command completes, or fails (R758): `good` says that the NVS took it. -/
def State.nvsDone (s : State) (good : Bool) : State :=
  match s.sys.nvs with
  | none => s
  | some r =>
    let s := s.onSys fun y => { y with nvs := none }
    match s.nvsBytes r with
    | (s, none) => (s.nvsRes 5).raise SUP.STATUS_NVS_ERR
    | (s', some b) =>
      if ¬ good then ((s.nvsCut r).nvsRes 4).raise SUP.STATUS_NVS_ERR
      else
        let s := match r.op with
          | .bkd k => s'.bkdStore k b
          | _ => s'.storeBytes (nvsBase + r.addr) b
        ((s.nvsRes 0).nvsWear r.writes).raise SUP.STATUS_NVS_DONE

/-! ## The global watchdog -/

/-- What is left of the global watchdog. -/
def State.wdtNow (s : State) : Nat :=
  match s.sys.wdSince with
  | some t => s.sys.wdLeft - (s.tab.mono - t).toNat
  | none => s.sys.wdLeft

/-- Units of the time scale in a millisecond. -/
def msScale : Nat := 1000000 * nsUnit

/-- The global watchdog starts over at TIMEOUT (R754, R770). -/
def State.wdtRestart (s : State) : State :=
  s.onSys fun y => { y with
    wdKick := .idle
    wdLeft := s.getF SYS.WDT_CFG_TIMEOUT * msScale
    wdSince := if s.wdFrozen then none else some s.tab.mono }

/-- Both watchdogs stop, or go on, as WDFREEZE and the halted cores say (R770). -/
def State.watchdogsFollow (s : State) : State :=
  if s.wdFrozen then s.kickHold.onSys fun y => { y with wdLeft := s.wdtNow, wdSince := none }
  else
    let s := s.kickGo
    if s.flag SYS.WDT_CFG_EN ∧ s.sys.wdSince.isNone then s.onSys fun y => { y with wdSince := some s.tab.mono } else s

/-- SYS_WDT_LEFT (R756): ms until WDR. -/
def State.wdtLeft (s : State) : Nat := if s.flag SYS.WDT_CFG_EN then (s.wdtNow + msScale - 1) / msScale else 0

/-- A write of SYS_WDT_CFG by software that may write it (R754, R756). -/
def State.wdtCfg (s : State) (v : Nat) : State :=
  let was := s.flag SYS.WDT_CFG_EN
  let s := s.plainWrite SYS.WDT_CFG v
  if ¬ was ∧ s.flag SYS.WDT_CFG_EN then s.wdtRestart else s

/-- Half of TIMEOUT has passed without a kick (R754). -/
def State.wdtHalf (s : State) : State :=
  if s.flag SYS.WDT_CFG_EN ∧ ¬ s.wdFrozen then
    (s.raise SYS.STATUS_WDT_HALF).onSys fun y => { y with
      wdLeft := min s.wdtNow (s.getF SYS.WDT_CFG_TIMEOUT * msScale / 2), wdSince := some s.tab.mono }
  else s

/-- A write to SYS from a level that may not make it (R756). -/
def State.sysLevel (s : State) : State := s.raise SYS.STATUS_LEVEL_REFUSED

/-! ## What a reset does -/

/-- A key command that a reset cuts leaves its slot old or new in full (R697, R736). -/
def State.cutKey (s : State) : State :=
  match s.sec.keyRun with
  | none => s
  | some r =>
    let f := s.takeFree
    (if f.1 % 2 = 1 then f.2.setKeySlot r.slot r.new else f.2).onSec fun c => { c with keyRun := none }

/-- An Ensign generation that a reset cuts may have committed SEC_MONO (R722). -/
def State.cutEnsign (s : State) : State :=
  match s.sec.ens with
  | none => s
  | some r =>
    let f := s.takeFree
    (if f.1 % 2 = 1 then f.2.wr SEC.MONO r.mono else f.2).onSec fun c => { c with ens := none }

/-- What was on its way into NVS ends as R697 and R736 say. A life-cycle command that still waits for another operation has recorded
nothing yet (R712). -/
def State.cutNvs (s : State) : State :=
  let s := s.when s.secBusy (·.onSec fun c => { c with lcRun := none })
  let s := s.cutKey.cutEnsign
  match s.sys.nvs with
  | none => s
  | some r => (s.nvsCut r).onSys fun y => { y with nvs := none }

/-- A life-cycle command that gives LCT: its target state is recorded (R710, R712). -/
def LcOp.recorded : LcOp → Bool
  | .provision | .field | .rma | .scrap => true
  | .relock | .ownerRoot | .challenge => false

/-- TAB after a reset of class S: TOD goes on, and the sync state starts in HOLDOVER or FREE (R71, R77, R79). DESIGN CHOICE (log
17): a holdover that had passed HO_LIMIT, be it the value before the reset or the one it returns to, does not say so again. -/
def State.tabReset (s : State) : State :=
  let t := s.tab
  let s := s.when (t.todValid && !t.hoCounting) (·.hoRestart)
  s.onTab fun _ => { TabState.reset with
    tod := t.tod, todShift := t.todShift, todValid := t.todValid
    sync := if t.todValid then .holdover else .free
    hoCounting := t.todValid, hoSub := s.tab.hoSub, lastRate := t.lastRate
    hoRaised := t.todValid && decide (s.rd TAB.HO_LIMIT * 1000 < s.rd TAB.HO_ELAPSED ∨
      (regDefault TAB.HO_LIMIT).toNat * 1000 < s.rd TAB.HO_ELAPSED) }

/-- What every reset of class S and Calm exit do to the blocks beside their registers (R732): NVS, the key store, the roots and
memory keep what they hold. DEDUCED (log 9): a requester's 64-bit read latch empties with its holding (R22). -/
def State.blocksReset (s : State) : State :=
  { s.tabReset with
    ports64 := [], pcx := { PcxState.reset with pllLock := s.pcx.pllLock }, swc := SwcState.reset, rde := RdeState.reset,
    svc := SvcState.reset, cyc := CycState.reset, pub := PubBlock.reset, cap := CapState.reset, dmv := DmvState.reset,
    sup := SupState.reset, dbg := { s.dbg with want := [], step := [], pass := [] }
    sec := { SecState.reset with
      slots := s.sec.slots, ownerRoot := s.sec.ownerRoot, fieldRoot := s.sec.fieldRoot, rmaZero := s.sec.rmaZero
      lcRun := s.sec.lcRun.filter fun r => r.op.recorded }
    mc := { s.mc with inj := none, last := [], waiting := [], served := [] } }

/-- SYS's own state after a reset of class S; the TAP and the supplies are outside it (R760). -/
def State.sysReset (s : State) (p : Power) : State :=
  s.onSys fun y => { SysState.reset with
    power := p, nvsWritten := y.nvsWritten, railOut := y.railOut, aonGood := y.aonGood, tap := y.tap, scan := y.scan, captured := y.captured }

/-- A reset of class S takes effect and holds the module (R728, R732, R753). -/
def State.classReset (s : State) : State := ((s.cutNvs.blocksReset).resetFields [.s, .c, .t, .l]).sysReset .held

/-- The memory that a loss of power or Calm takes (R732): SRAM, DRAM and scratch read zero once they answer again. -/
def State.memLost (s : State) : State :=
  { s with
    mem := s.mem.filter fun c => decide (physRegion c.1 = some .readOnly)
    mc := MemCtl.reset }

/-- A reset of class S of the rank of PIN is asked for (R734): `i` is its bit in SYS_RST_CAUSE. -/
def State.resetRank2 (s : State) (i : Nat) : State :=
  match s.sys.power with
  | .held => s.setCause i
  | _ => s.classReset.setCause i

/-- TOD is handed between the PTP counter and the holdover counter: it steps by at most 40 ns (R42, R71). -/
def State.handTod (s : State) : State :=
  let f := s.takeFree
  f.2.onTab fun t => t.setTod ((t.tod : Int) + (((f.1 % (80 * nsUnit + 1) : Nat) : Int) - (40 * nsUnit : Nat)))

/-- PIN (R728, R737): in Calm it ends Calm. -/
def State.pinReset (s : State) : State :=
  if s.sys.power = .calm then (s.handTod).resetRank2 1 else s.resetRank2 1

/-- POR (R728, R732): with the slots whose contents fail their check when they are read back (R717). -/
def State.por (s : State) (damaged : List Nat) : State :=
  if s.sys.power = .held ∧ s.sys.porHeld then s
  else
    let s := (s.classReset.resetFields [.p]).memLost
    let s := { s with tab := TabState.reset, pcx := PcxState.reset, dbg := DbgState.reset, sys := { SysState.reset with power := .held, porHeld := true, nvsWritten := s.sys.nvsWritten } }
    let s := damaged.foldl (fun s n => (s.setKeySlot n { s.keySlot n with valid := false }).raise SEC.STATUS_NVS_ERR) s
    s.setF SEC.LC_FIELDKEYS (b2n (decide (s.getF SEC.LC_STATE = 2) && !s.flag SEC.LC_UNLOCKED))

/-- S0 starts in the boot ROM, and with HALTRST it and every cycle core start halted (R730, R746, R773). -/
def State.start (s : State) : State :=
  let s := ((s.sysReset .run).setF MEM.STATE_SRAM_RDY (b2n s.mc.sramInit)).setF MEM.STATE_DRAM_RDY (b2n s.mc.dramInit)
  let s := s.loadAngle
  if s.flag DBG.CTL_HALTRST then
    let s := (64 :: List.range 64).foldl (fun s n => (s.setF (DBG.NSTATE_HALTED n) 1).setF (DBG.NSTATE_CAUSE n) 6) s
    ((List.range 64).foldl (fun s n => s.raise (CYC.CSTATUS_HALTED n)) s).raise DBG.STATUS_HALT
  else s

/-- A held reset is released (R728, R746). -/
def State.resetRelease (s : State) : State := if s.sys.power = .held then s.start else s

/-- What CLR does to one tenant (R419, R731). -/
def State.clrTenant (s : State) (t : Nat) : State :=
  let s := (((s.tearGuards t).leaveWait t).dropDispatches t).onTenant t fun x => { x with move := none, late := none }
  (((((s.cancelXchg t).clearTenant t).dropMarks t).setTenSt t .stopped).ownerLeft t).pairReset t

/-- SYS_RST_CMD OP CLR (R731): cores, caches, guards and tenants of the cluster, and the fields of classes C and T. -/
def State.clr (s : State) : State :=
  let ts := s.validTenants.filter fun t => s.tenSt t ≠ .empty
  let s := s.cyc.cores.foldl (fun s x => x.2.dl.foldl (fun s l => s.storeLine l) s) s
  let s := ts.foldl State.clrTenant s
  let s := (s.onCyc fun c => { c with cores := [], waiters := [], wdHalt := false }).resetFields [.c, .t]
  (ts.foldl (fun s t => s.setTenSt t .stopped) s).linesNote

/-- A write of SYS_RST_CMD (R756). -/
def State.rstCmdWrite (s : State) (who : Requester) (v : Nat) : State :=
  if ¬ s.platform who then s.sysLevel
  else if bits v 31 16 ≠ 0x5253 then s
  else match bits v 1 0 with
    | 1 => s.resetRank2 3
    | 2 => s.clr
    | _ => s

/-- A write of SYS_WDT_KICK (R754). -/
def State.wdtKick (s : State) (v : Nat) : State :=
  if ¬ s.flag SYS.WDT_CFG_EN then s
  else match s.sys.wdKick with
    | .idle => if v = 0x6B6B then s.onSys fun y => { y with wdKick := .first } else s.resetRank2 2
    | .first => if v = 0xB6B6 then s.wdtRestart else s.resetRank2 2

/-- The global watchdog expires (R754, R770). -/
def State.wdtExpire (s : State) : State := if s.flag SYS.WDT_CFG_EN ∧ ¬ s.wdFrozen then s.resetRank2 2 else s

/-- A life-cycle transition ends (R710, R712): with LCT where the table gives one; DBG_AUTH.SET clears with it (R775). -/
def State.lcTransition (s : State) (r : LcRun) : State :=
  let s := s.lcApply r
  if r.op.recorded then s.setF DBG.AUTH_SET 0 else s

/-- A life-cycle command completes in NVS once what ran before it has ended (R712); or the NVS fails. -/
def State.lcComplete (s : State) (good : Bool) : State :=
  match s.sec.lcRun with
  | none => s
  | some r =>
    if s.secBusy then s
    else if ¬ good then (s.onSec fun c => { c with lcRun := none }).lcRefuse 5
    else if r.op.recorded then (s.lcTransition r).resetRank2 5 else s.lcTransition r

/-! ## Power states -/

/-- A power command is refused (R739). -/
def State.pwrRefuse (s : State) : State := s.raise SYS.STATUS_PWR_REFUSED

/-- SYS_PWR_CMD LULL (R738, R739, R740). -/
def State.pwrLull (s : State) : State :=
  if s.sys.entering ∨ s.flag CYC.CTL_EN ∨
      s.validTenants.any (fun t => decide (s.tenSt t = .active ∨ s.tenSt t = .moving ∨ s.tenSt t = .resetting)) then s.pwrRefuse
  else if s.sys.power ≠ .run then s
  else
    let s := (s.onSys fun y => { y with power := .lull }).setF SYS.PWR_STATE_STATE 1
    let s := s.enabledStreams.foldl (fun s st => s.setStreamSt st .lost) s
    s.capLull

/-- SYS_PWR_CMD RUN (R46, R738, R739). -/
def State.pwrRun (s : State) : State :=
  if s.sys.power ≠ .lull ∨ s.sys.entering then s.pwrRefuse
  else
    let ws := s.sys.gated
    let s := (s.onSys fun y => { y with power := .run, gated := [] }).setF SYS.PWR_STATE_STATE 0
    ws.foldl (fun s w => s.gatedWrite w.1 w.2) s

/-- SYS_PWR_CMD CALM (R738, R739). -/
def State.pwrCalm (s : State) : State :=
  if s.sys.entering then s.pwrRefuse
  else (s.onSys fun y => { y with entering := true, wake := false }).setF SYS.PWR_STATE_STATE 2

/-- A write of SYS_PWR_CMD (R756). -/
def State.pwrCmdWrite (s : State) (who : Requester) (v : Nat) : State :=
  if ¬ s.platform who then s.sysLevel
  else if bits v 31 16 ≠ 0x5057 then s
  else match bits v 1 0 with
    | 1 => s.pwrLull
    | 2 => s.pwrRun
    | 3 => s.pwrCalm
    | _ => s

/-- Calm exit (R744). -/
def State.calmExit (s : State) : State :=
  ((s.handTod.classReset).setCause 6).start

/-- The module is in Calm once nothing is pending (R737, R738, R742). -/
def State.calmEnter (s : State) : State :=
  if ¬ s.sys.entering ∨ s.sys.nvs.isSome ∨ s.sec.lcRun.isSome ∨ s.secBusy then s
  else
    let wake := s.sys.wake
    let s := s.when (s.tab.todValid && !s.tab.hoCounting) (·.hoRestart)
    let s := (s.handTod.onTab fun t => { t with hoCounting := t.todValid, heldRates := [] }).memLost
    let s := s.onSys fun y => { y with power := .calm, entering := false, wake := false }
    if wake then s.calmExit else s

/-- A wake event arrives (R737, R743). -/
def State.wakeUp (s : State) : State :=
  if s.sys.power = .calm then s.calmExit
  else if s.sys.entering then s.onSys fun y => { y with wake := true } else s

/-- TOD seconds reach SYS_WAKE_SEC (R743): in Calm the time runs to it. -/
def State.wakeTimer (s : State) : State :=
  if ¬ s.flag SYS.WAKE_CFG_TIMER_EN then s
  else
    let at_ := s.getF SYS.WAKE_SEC_SEC * 1000000000 * nsUnit
    if s.sys.power = .calm then ((s.hoTime (s.todCycles (at_ - s.tab.tod))).onTab fun t => { t with tod := max t.tod at_ }).wakeUp
    else if at_ ≤ s.tab.tod then s.wakeUp else s

/-- An edge on GPIO[0] (R743, R756). -/
def State.wakeGpio (s : State) (rising : Bool) : State :=
  if bit (s.getF SYS.WAKE_CFG_GPIO0) (if rising then 0 else 1) then s.wakeUp else s

/-- A write of SYS_CORE_REL (R746). -/
def State.coreRelease (s : State) (v : Nat) : State :=
  let s := s.plainWrite SYS.CORE_REL v
  [1, 2, 3].foldl (fun s c =>
    if bit (s.rd SYS.CORE_REL) c then
      { s with sup := { s.sup with cores := smapUpd (fun _ => {}) s.sup.cores c fun k => { k with running := true } } }
    else s) s

/-- The log of unmapped accesses empties (R25, R756). -/
def State.unmapClear (s : State) : State := ((s.setF SYS.STATUS_UNMAP 0).wr SYS.UNMAP_ADDR 0).wr SYS.UNMAP_INFO 0

/-! ## The boot ROM -/

/-- A little-endian field of a boot header (R747). -/
def hdrLe (h : List Byte) (o n : Nat) : Nat := ofLe (sliceD 0 h o n)

/-- The digests that the boot ROM accepts of a public key (R748). -/
def State.bootDigests (s : State) : List Nat :=
  let set := s.getF SUP.BOOTSVN_BKD_SET
  let own := (List.range 4).filterMap fun k =>
    if bit set k then some (ofBe (wordBytes ((List.range 12).map fun w => s.rd (SUP.BKD k w)))) else none
  match s.getF SEC.LC_STATE with
  | 0 | 3 => [Config.factoryBootDigest]
  | 1 | 2 => if set = 0 then [Config.factoryBootDigest] else own
  | _ => []

/-- What the boot ROM finds in one copy (R749). -/
inductive BootTry where
  | next (s : State)
  | wait
  | jump (s : State) (entry : Nat)
  deriving DecidableEq, Repr

/-- LOAD lies where R747 lets a payload of this length go. -/
def loadOk (a n : Nat) : Bool := decide (a % 64 = 0) && (inDram a n || inFreeSram a n)

/-- The boot ROM tries one copy (R748, R749). -/
def State.bootCopy (s : State) (copy : Nat) : BootTry :=
  let base := nvsBase + (copy - 1) * 0x4000000
  let h := s.readBytes base 512
  let len := hdrLe h 0x20 4
  let svn := hdrLe h 0x08 4
  let load := hdrLe h 0x10 8
  let key := sliceD 0 h 0x60 96
  if hdrLe h 0 4 ≠ 0x53504E42 ∨ len < 1 ∨ 67108352 < len then .next s
  else if ofBe (sha384 key) ∉ s.bootDigests then .next s
  else if ¬ ecdsaVerify p384 (beAt h 0x60 48) (beAt h 0x90 48) (ofBe (sha384 (h.take 0xC0))) (beAt h 0xC0 48) (beAt h 0xF0 48) then .next s
  else if svn < s.getF SUP.BOOTSVN_SVN then .next s
  else if ¬ loadOk load len then .next s
  else if ¬ s.memReady load ∨ (isDram load ∧ s.mc.trainFailed) then .wait
  else
    let b := s.readBytes (base + 512) len
    let s := s.writeBytes load b
    if ofBe (sha384 b) ≠ beAt h 0x30 48 then .next s
    else
      let s := s.mrExtendWith 0 (sha384 b)
      .jump (s.wr SYS.BOOT (svn % 65536 * 65536 + copy * 256 + 1)) (hdrLe h 0x18 8)

/-- The boot ROM tries the copies in order (R749). -/
def State.bootCopies (s : State) : List Nat → BootTry
  | [] => .next s
  | c :: cs =>
    match s.bootCopy c with
    | .next s => s.bootCopies cs
    | r => r

/-- Change one supervisory core. -/
def State.onSup (s : State) (c : Nat) (f : SupCore → SupCore) : State :=
  { s with sup := { s.sup with cores := smapUpd (fun _ => {}) s.sup.cores c f } }

/-- One supervisory core. -/
def State.supc (s : State) (c : Nat) : SupCore := smapGet (fun _ => {}) s.sup.cores c

/-- S0 stands at the first instruction of the boot ROM and may run it (R544, R745, R746). -/
def State.atBoot (s : State) : Bool :=
  s.awake && (s.supc 0).running && !(s.supc 0).idle && decide ((s.supc 0).regs.pc = 0x3FFFF00000) && !s.halted 64 &&
  s.flag MEM.STATE_SRAM_RDY

/-- SRAM and DRAM are zeroed as at the end of POR (R749). -/
def State.zeroMemory (s : State) : State :=
  let ram (a : Nat) : Bool := isDram a || isSram a
  ({ s with mem := s.mem.filter fun c => !ram c.1 }).onMc fun m => { m with bad := m.bad.filter fun x => !ram (x.1 * 8) }

/-- The boot ROM ends in IDLE with a result (R749, R750). -/
def State.bootIdle (s : State) (result : Nat) : State := (s.setF SYS.BOOT_RESULT result).onSup 0 fun k => { k with idle := true }

/-- The boot ROM starts the global watchdog at 2,000 ms, which it does once (R749, R754). -/
def State.bootWatchdog (s : State) : State :=
  if s.flag SYS.WDT_CFG_EN then s else ((s.setF SYS.WDT_CFG_TIMEOUT 2000).setF SYS.WDT_CFG_EN 1).wdtRestart

/-- The boot ROM (R748 to R750). While a copy waits for DRAM, S0 stays where it is with the watchdog running. -/
def State.bootRom (s : State) : State :=
  if ¬ s.atBoot then s
  else
    let b := (match s.sec.lcRun with
      | some r => s.lcTransition r
      | none => s)
    if b.getF SEC.LC_STATE = 4 then b.bootIdle 3
    else
      let b := if b.sec.rmaZero then b.zeroMemory.onSec fun c => { c with rmaZero := false } else b
      let b := b.bootWatchdog
      match b.bootCopies [1, 2] with
      | .wait => b
      | .next b => (b.bootIdle 2).emit (.uart0 2)
      | .jump b entry => b.onSup 0 fun k => { k with
          regs := { k.regs with pc := BitVec.ofNat 64 entry }, lvl := .platform, xen := false }

/-- A rail leaves its range while PWR_GOOD stays high (R788). -/
def State.railOut (s : State) (aon : Bool) : State :=
  let f := s.takeFree
  f.2.onSys fun y => { y with railOut := some (match y.railOut with | some n => n | none => f.1 % 2), aonGood := y.aonGood && aon }

end Sys2Proof.Machine
end

