-- ==== Sys2Proof/Machine/Views.lean ====
section
/-!
DEFINITION. Machine/Views.lean: what a register reads as where its bits follow something the module holds elsewhere: a level, a
state, the head of a queue, a summary.
-/

namespace Sys2Proof.Machine

/-- The number of a sync state (R119). -/
def SyncState.num : SyncState → Nat
  | .free => 0 | .acquire => 1 | .locked => 2 | .holdover => 3

/-- The number of a link state (R185). -/
def LinkState.num : LinkState → Nat
  | .disabled => 0 | .noSignal => 1 | .syncWait => 2 | .an => 3 | .refused => 4 | .up => 5 | .rfault => 6

/-- The number of a tenant pair state (R299). -/
def TenPair.num : TenPair → Nat
  | .wait => 0 | .shadow => 1 | .active => 2 | .silent => 3

/-- Bits of a word by a test on their places. -/
def maskOf (n : Nat) (p : Nat → Bool) : Nat := ((List.range n).map fun i => b2n (p i) * 2 ^ i).sum

/-- A bit is set in both of two registers. -/
def State.meet (s : State) (a b : Nat) : Bool := decide (s.rd a &&& s.rd b ≠ 0)

/-! ## Time base -/

/-- TAB_STATUS: CMP_ANY follows the comparators' status and enables (R118). -/
def State.tabStatus (s : State) : Nat :=
  putBits (s.rd TAB.STATUS) 14 14 (b2n ((List.range 8).any fun i => s.meet (TAB.CMPST i) (TAB.CMPEN i)))

/-- TAB_STATE (R119). -/
def State.tabState (s : State) : Nat :=
  b2n (decide (s.tab.ref10m = .taken)) * 2 ^ 7 + s.tab.ws.num * 2 ^ 4 + b2n s.tab.todValid * 2 ^ 3 + s.tab.sync.num

/-- The words of a PTP event record (R123). -/
def PtpRecord.word (r : PtpRecord) : Nat → Nat
  | 0 => r.seqId * 2 ^ 16 + r.domain * 2 ^ 8 + r.msgType * 2 ^ 4 + r.port
  | 1 => 2 ^ 31 + b2n r.tx * 2 ^ 30 + r.sec / 2 ^ 32 % 2 ^ 16
  | 2 => r.sec % 2 ^ 32
  | _ => r.ns

/-- Word `w` of the head of the PTP event queue; zero while it is empty. -/
def State.evqWord (s : State) (w : Nat) : Nat := match s.tab.evq with
  | [] => 0
  | r :: _ => r.word w

/-- TAB's registers. -/
def State.viewTab (s : State) (b a : Nat) : Nat :=
  if b = TAB.STATUS then s.tabStatus
  else if b = TAB.STATE then s.tabState
  else if b = TAB.STEP ∨ b = TAB.SRV_OFFSET then 0
  else if b = TAB.ANGLE then s.tab.au
  else if b = TAB.TICKNUM then s.tab.tickNum
  else if b = TAB.EVQ_CNT then s.tab.evqLost * 2 ^ 16 + s.tab.evq.length
  else if b = TAB.EVQ_W0 then s.evqWord 0
  else if b = TAB.EVQ_W1 then s.evqWord 1
  else if b = TAB.EVQ_W2 then s.evqWord 2
  else if b = TAB.EVQ_W3 then s.evqWord 3
  else s.rd a

/-! ## Ports -/

/-- PCX_p_STATUS: two bits follow the half-range flags and the timestamp queue (R184). -/
def State.pcxStatus (s : State) (p : Nat) : Nat :=
  putBits (putBits (s.rd (PCX.STATUS p)) 11 11 (b2n (decide (s.rd (PCX.CNTHALF0 p) ≠ 0 ∨ s.rd (PCX.CNTHALF1 p) ≠ 0))))
    6 6 (b2n !(s.port p).tsq.isEmpty)

/-- PCX_p_LINK (R186). In SYNC_WAIT the PCS may hold its lock already, or not yet: R132 gives only the latest moment, so the lock
bits are free values there (log 132). -/
def State.linkWord (s : State) (p : Nat) : Nat :=
  let q := s.port p
  let waits := decide (q.link = .syncWait)
  let sync := q.sync || waits && bit (Config.freeValue s.free) 0
  let fec := q.fecLock || waits && sync && s.flag (PCX.CFG_FEC p) && decide (8 ≤ p) && bit (Config.freeValue s.free) 1
  b2n fec * 2 ^ 6 + b2n q.rfRx * 2 ^ 5 + b2n sync * 2 ^ 4 + b2n q.signal * 2 ^ 3 + q.link.num

/-- The words of a transmit timestamp (R188). -/
def TsqEntry.word (e : TsqEntry) : Nat → Nat
  | 0 => 2 ^ 31 + b2n e.stomp * 2 ^ 30 + e.tag * 2 ^ 16 + e.ns / 1000000000 / 2 ^ 32 % 2 ^ 16
  | 1 => e.ns / 1000000000 % 2 ^ 32
  | _ => e.ns % 1000000000

/-- Word `w` of the head of a timestamp queue; zero while it is empty. -/
def State.tsqWord (s : State) (p w : Nat) : Nat := match (s.port p).tsq with
  | [] => 0
  | e :: _ => e.word w

/-- PCX_STATUS of the block: a port's bit follows its STATUS and ENABLE (R189). -/
def State.pcxBlock (s : State) : Nat :=
  putBits (s.rd PCX.BSTATUS) 9 0 (maskOf 10 fun p => decide (s.pcxStatus p &&& s.rd (PCX.ENABLE p) ≠ 0))

/-- PCX_p_GCL_DRAIN (R177). -/
def State.gclDrain (s : State) (p : Nat) : Nat :=
  let g := (s.port p).gcl
  if g.pending then 3 else 2 ^ g.act

/-- PCX's registers. -/
def State.viewPcx (s : State) (b p a : Nat) : Nat :=
  if b = PCX.BSTATUS then s.pcxBlock
  else if b = PCX.STATUS 0 then s.pcxStatus p
  else if b = PCX.LINK 0 then s.linkWord p
  else if b = PCX.LATCAL 0 then s.latcal p
  else if b = PCX.FIFOLVL 0 then ((s.port p).rxFifo.map fun x => x.1).sum
  else if b = PCX.TSQ_W0 0 then s.tsqWord p 0
  else if b = PCX.TSQ_W1 0 then s.tsqWord p 1
  else if b = PCX.TSQ_W2 0 then s.tsqWord p 2
  else if b = PCX.TSQ_CNT 0 then (s.port p).tsqLost * 2 ^ 16 + (s.port p).nextTag * 2 ^ 8 + (s.port p).tsq.length
  else if b = PCX.GCL_CTL 0 then
    putBits (putBits (s.rd a) 5 5 (b2n (s.port p).gcl.pending)) 4 4 (s.port p).gcl.act
  else if b = PCX.GCL_DRAIN 0 then s.gclDrain p
  else s.rd a

/-! ## Switch and redundancy -/

/-- SWC's registers. -/
def State.viewSwc (s : State) (b p q a : Nat) : Nat :=
  if b = SWC.EPOCH then s.swc.clsAct * 2 + s.swc.fdbAct
  else if b = SWC.FDB_DRAIN0 then s.fdbDrain 0
  else if b = SWC.FDB_DRAIN1 then s.fdbDrain 1
  else if b = SWC.CLS_DRAIN0 then s.clsDrain 0
  else if b = SWC.CLS_DRAIN1 then s.clsDrain 1
  else if b = SWC.FREE then s.poolFree
  else if b = SWC.QUSED 0 0 then s.used p q
  else s.rd a

/-- RDE_STATE (R296). -/
def State.rdeState (s : State) : Nat :=
  b2n s.rde.seen * 2 ^ 9 + s.rde.partner.num * 2 ^ 6 + b2n (decide ((s.port 9).link = .up)) * 2 ^ 5 +
    b2n (decide ((s.port 8).link = .up)) * 2 ^ 4 + b2n s.rde.leader * 2 ^ 3 + s.rde.pair.num

/-- RDE_TST_j (R299). -/
def State.tstWord (s : State) (j : Nat) : Nat :=
  ((List.range 16).map fun b =>
    (smapGet (fun _ => ({} : TenRde)) s.rde.tens (16 * j + b)).st.num * 4 ^ b).sum

/-- RDE's registers. -/
def State.viewRde (s : State) (b j a : Nat) : Nat :=
  if b = RDE.STATE then s.rdeState
  else if b = RDE.DD_LEVEL then s.rde.sources.length
  else if b = RDE.EPOCH then s.rde.proxyAct
  else if b = RDE.PROXY_DRAIN0 then s.proxyDrain 0
  else if b = RDE.PROXY_DRAIN1 then s.proxyDrain 1
  else if b = RDE.PAIR_SEQ then (s.pairBase s.tickNow).getD 0
  else if b = RDE.TST 0 then s.tstWord j
  else s.rd a

/-! ## Cluster -/

/-- CYC_STATUS: CORE and TFAULT follow the cores and the tenants (R410, R468). -/
def State.cycStatus (s : State) : Nat :=
  putBits (putBits (s.rd CYC.STATUS) 9 9 (b2n ((List.range 64).any fun n => s.meet (CYC.CSTATUS n) (CYC.CENABLE n))))
    0 0 (b2n ((List.range 32).any fun i => s.meet (CYC.TFLT i) (CYC.TFEN i)))

/-- CYC_n_CSTATE (R470). -/
def State.cstate (s : State) (n : Nat) : Nat :=
  (match (s.core n).run with
    | some t => 2 ^ 31 + t * 2 ^ 16 + s.classOf t * 2 ^ 8
    | none => 0) + (s.boundTo n).length

/-- CYC_n_LOCKS (R470). -/
def State.locksWord (s : State) (n : Nat) : Nat :=
  ((s.core n).il.filter (·.locked)).length * 2 ^ 16 + ((s.core n).dl.filter (·.locked)).length

/-- The guard a tenant's dispatch waits for. -/
def State.waitsFor (s : State) (t : Nat) : Option Nat := ((s.tenant t).disp.bind fun d => d.wait).map (·.1)

/-- CYC_t_STATE: RUN and WAITG follow the dispatch (R425). -/
def State.tstateWord (s : State) (t : Nat) : Nat :=
  putBits (putBits (s.rd (CYC.TSTATE t)) 3 3 (b2n (decide ((s.core (s.coreOf t)).run = some t)))) 4 4 (b2n (s.waitsFor t).isSome)

/-- CYC_t_GHELD (R425). -/
def State.gheld (s : State) (t : Nat) : Nat :=
  s.topRank t * 2 ^ 24 + (s.waitsFor t).getD 0 * 2 ^ 8 + (s.tenant t).held.length

/-- The words of a message to the supervisory side (R406). -/
def OsqEntry.word (e : OsqEntry) : Nat → Nat
  | 0 => 2 ^ 31 + e.code | 1 => e.data0 | 2 => e.data1 | _ => e.tick

/-- Word `w` of the head of a tenant's supervisory queue; zero while it is empty. -/
def State.osqWord (s : State) (t w : Nat) : Nat := match (s.tenant t).osq with
  | [] => 0
  | e :: _ => e.word w

/-- CYC's registers. -/
def State.viewCyc (s : State) (b i a : Nat) : Nat :=
  if b = CYC.STATUS then s.cycStatus
  else if b = CYC.STATE then s.cluster
  else if b = CYC.CWD_LEFT then (s.kickNow + usUnit - 1) / usUnit
  else if b = CYC.FRC_ACTIVE then s.cyc.forces.length
  else if b = CYC.FRC_ORPH then (s.cyc.forces.filter fun (_, f) => f.any (·.orphan)).length
  else if b = CYC.CSTATE 0 then s.cstate i
  else if b = CYC.LOCKS 0 then s.locksWord i
  else if b = CYC.TSTATE 0 then s.tstateWord i
  else if b = CYC.TEVQ_CNT 0 then putBits (s.rd a) 6 0 (s.tenant i).evq.length
  else if b = CYC.TOSQ_CNT 0 then putBits (s.rd a) 6 0 (s.tenant i).osq.length
  else if b = CYC.TGHELD 0 then s.gheld i
  else if b = CYC.PHX_DIM then (s.phxAt (s.getF CYC.PHX_ADDR_SET) (s.getF CYC.PHX_ADDR_INDEX)).2
  else if b = CYC.TOSQ_W0 0 then s.osqWord i 0
  else if b = CYC.TOSQ_W1 0 then s.osqWord i 1
  else if b = CYC.TOSQ_W2 0 then s.osqWord i 2
  else if b = CYC.TOSQ_W3 0 then s.osqWord i 3
  else if b = CYC.GSTATE 0 then putBits (s.rd a) 6 0 (s.waiters i).length
  else s.rd a

/-! ## Publications -/

/-- The words of the head of the correction log (R605); zero while it is empty. -/
def State.clogWord (s : State) (w : Nat) : Nat := match s.pub.clog with
  | [] => 0
  | e :: _ => match w with
    | 0 => 2 ^ 31 + e.pub | 1 => e.pst | 2 => e.cst | _ => e.tick

/-- PUB's registers. -/
def State.viewPub (s : State) (b i a : Nat) : Nat :=
  if b = PUB.EPOCH then s.pub.act
  else if b = PUB.CLOG_W0 then s.clogWord 0
  else if b = PUB.CLOG_W1 then s.clogWord 1
  else if b = PUB.CLOG_W2 then s.clogWord 2
  else if b = PUB.CLOG_W3 then s.clogWord 3
  else if b = PUB.W1 0 0 ∧ bits (s.rd (a - 4)) 30 28 < 3 then putBits (s.rd a) 11 8 0
  else if b = PUB.CLOG_CNT then s.pub.clogLost * 2 ^ 16 + s.pub.clog.length
  else if b = PUB.PSTATE 0 then putBits (s.rd a) 28 28 (b2n (s.pubLive i && s.pubSafe i))
  else s.rd a

/-! ## Interrupt sources -/

/-- A block's summary (R29). -/
def State.blockSummary (s : State) (blk : Nat) : Bool :=
  let on (v e : Nat) : Bool := decide (v &&& s.rd e ≠ 0)
  match blk with
  | 0 => s.meet SYS.STATUS SYS.ENABLE
  | 1 => on s.tabStatus TAB.ENABLE
  | 2 => on s.pcxBlock PCX.BENABLE
  | 3 => s.meet SWC.STATUS SWC.ENABLE
  | 4 => s.meet RDE.STATUS RDE.ENABLE
  | 5 => s.meet SVC.STATUS SVC.ENABLE
  | 6 => on s.cycStatus CYC.ENABLE
  | 7 => s.meet PUB.STATUS PUB.ENABLE
  | 8 => on s.capSummary CAP.ENABLE
  | 9 => on s.dmvSummary DMV.ENABLE
  | 10 => s.meet MEM.STATUS MEM.ENABLE
  | 11 => s.meet SUP.STATUS SUP.ENABLE
  | 12 => s.meet SEC.STATUS SEC.ENABLE
  | 13 => s.meet DBG.STATUS DBG.ENABLE
  | _ => false

/-- Source `n` is pending (R54, R559). -/
def State.srcPending (s : State) (n : Nat) : Bool :=
  if n < 14 then s.blockSummary n
  else if n = 14 then (List.range 32).any fun i => s.meet (SUP.DB i) (SUP.DBEN i)
  else if n < 16 then false
  else if n < 26 then decide (s.pcxStatus (n - 16) &&& s.rd (PCX.ENABLE (n - 16)) ≠ 0)
  else if n < 32 then false
  else if n < 48 then s.meet (DMV.MSTATUS (n - 32)) (DMV.MENABLE (n - 32))
  else if n < 64 then s.meet (CAP.USTATUS (n - 48)) (CAP.UENABLE (n - 48))
  else if n < 128 then s.meet (CYC.CSTATUS (n - 64)) (CYC.CENABLE (n - 64))
  else if n < 256 then false
  else if n < 512 then bit (s.rd (TAB.CMPST ((n - 256) / 32)) &&& s.rd (TAB.CMPEN ((n - 256) / 32))) (n % 32)
  else s.sup.swi.contains n

/-! ## The remaining blocks -/

/-- SUP's registers. -/
def State.viewSup (s : State) (b i j k a : Nat) : Nat :=
  if b = SUP.NVS_RES then putBits (s.rd a) 0 0 (b2n s.sys.nvs.isSome)
  else if b = SUP.NVS_WEAR then min 255 (s.sys.nvsWritten * 100 / (30000 * 2 ^ 30))
  else if b = SUP.IC_PEND 0 then maskOf 32 fun n => s.srcPending (32 * i + n)
  else if b = SUP.IC_INS 0 0 0 then putBits (s.rd a) 31 31 (b2n (bit (s.rd (SUP.IC_INSVC i j)) (k + 1)))
  else s.rd a

/-- SEC's registers. -/
def State.viewSec (s : State) (b i a : Nat) : Nat :=
  if b = SEC.LC then s.lcWord
  else if b = SEC.LC_RES then putBits (s.rd a) 0 0 (b2n s.sec.lcRun.isSome)
  else if b = SEC.KEY_RES then putBits (s.rd a) 0 0 (b2n s.sec.keyRun.isSome)
  else if b = SEC.ENG_RES then putBits (s.rd a) 0 0 (b2n s.sec.eng.isSome)
  else if b = SEC.ENS_RES then putBits (s.rd a) 0 0 (b2n s.sec.ens.isSome)
  else if b = SEC.ENS_PUB 0 then ofLe (sliceD 0 s.ensPub (4 * i) 4)
  else s.rd a

/-- The word a register reads as, whoever reads it and with nothing removed by the read. -/
def State.view (s : State) (a : Nat) : Nat :=
  match regAt a with
  | none => 0
  | some (r, is) =>
    let i := is.headD 0
    let j := (is.drop 1).headD 0
    let k := (is.drop 2).headD 0
    match (a - regSpace) / 0x100000 with
    | 0 => if r.base = SYS.WDT_LEFT then s.wdtLeft else s.rd a
    | 1 => s.viewTab r.base a
    | 2 => s.viewPcx r.base i a
    | 3 => s.viewSwc r.base i j a
    | 4 => s.viewRde r.base i a
    | 5 => if r.base = SVC.EPOCH then s.svc.subAct else if r.base = SVC.RS_LOAD then s.rsLoad % 2 ^ 24 else s.rd a
    | 6 => s.viewCyc r.base i a
    | 7 => s.viewPub r.base i a
    | 8 => if r.base = CAP.STATUS then s.capSummary else s.rd a
    | 9 => if r.base = DMV.STATUS then s.dmvSummary else s.rd a
    | 11 => s.viewSup r.base i j k a
    | 12 => s.viewSec r.base i a
    | 13 => if r.base = DBG.LOCK then s.dbgLock else s.rd a
    | _ => s.rd a

/-- The words that a requester has for itself: its snapshot (R67) and its posting registers (R405). -/
def State.ownWord (s : State) (who : Requester) (a : Nat) : Option Nat :=
  let (d0, d1, d2, res) := s.postRegs who
  if a = TAB.SNAP_SEC then some (s.snap who).sec
  else if a = TAB.SNAP_NS then some (s.snap who).ns
  else if a = TAB.SNAP_ANGLE then some (s.snap who).angle
  else if a = CYC.EVPOST_D0 then some d0
  else if a = CYC.EVPOST_D1 then some d1
  else if a = CYC.EVPOST_D2 then some d2
  else if a = CYC.EVPOST_CTL then some (res * 2 ^ 16)
  else none

/-- The word a register reads as to a requester. -/
def State.viewFor (s : State) (who : Requester) (a : Nat) : Nat := (s.ownWord who a).getD (s.view a)

end Sys2Proof.Machine
end

