-- ==== Sys2Proof/Machine/Intc.lean ====
section
/-!
DEFINITION. Machine/Intc.lean: the interrupt controller, and the one operation that takes a trap on a supervisory core
(R546 to R549, R557 to R559).
-/

namespace Sys2Proof.Machine

/-! ## Traps -/

/-- MODE as it reads (R545). -/
def SupCore.mode (k : SupCore) : Nat := k.lvl.num + b2n k.gateK * 2 ^ 8 + b2n k.gateP * 2 ^ 9

/-- The trap bank of a level; Application has none and reads as Kernel's. -/
def SupCore.bank (k : SupCore) : Level → TrapBank
  | .platform => k.bankP
  | _ => k.bankK

/-- A trap is entered at a level (R547): return address, reason, faulting address and vector. -/
def SupCore.enter (k : SupCore) (l : Level) (rpc why wher vec : Nat) : SupCore :=
  let b : TrapBank := { k.bank l with
    rpc := BitVec.ofNat 64 rpc, why := BitVec.ofNat 64 why, wher := BitVec.ofNat 64 wher, prior := BitVec.ofNat 64 k.mode }
  let pc := BitVec.ofNat 64 (b.vtab.toNat + 64 * vec)
  let k := { k with lvl := l, idle := false, regs := { k.regs with pc := pc } }
  match l with
  | .platform => { k with bankP := b, gateP := false }
  | _ => { k with bankK := b, gateK := false }

/-- A trap is taken on supervisory core `c` (R547). -/
def State.supEnter (s : State) (c : Nat) (l : Level) (rpc why wher vec : Nat) : State :=
  s.onSup c fun k => k.enter l rpc why wher vec

/-- The level at which a synchronous cause is taken (R546). -/
def trapLevel (l : Level) (upcall : Bool) : Level :=
  match l with
  | .app => .kernel
  | .kernel => if upcall then .platform else .kernel
  | .platform => .platform

/-- The vector of a synchronous cause (R547). -/
def causeVector (cause : Nat) : Nat :=
  if cause ≤ 0x03 then 0
  else if cause ≤ 0x05 then 1
  else if cause = 0x18 ∨ cause = 0x19 then 2
  else if 0x30 ≤ cause ∧ cause ≤ 0x32 then 3 + (cause - 0x30)
  else 6

/-- The return from a trap at the current level (R547); bits [1:0] of PC are always 0 (R473). -/
def SupCore.leave (k : SupCore) : SupCore :=
  let b := k.bank k.lvl
  let m := b.prior.toNat
  { k with
    lvl := .ofNum (min (m % 4) k.lvl.num)
    gateK := bit m 8
    gateP := bit m 9
    regs := { k.regs with pc := BitVec.ofNat 64 (b.rpc.toNat / 4 * 4) } }

/-! ## Delivery -/

/-- The index of a level in the controller's registers (R561). -/
def icLevel (plat : Bool) : Nat := b2n plat

/-- No priority of INSVC of (c, L) is as high as `p` (R557). -/
def State.aboveService (s : State) (c : Nat) (plat : Bool) (p : Nat) : Bool :=
  decide (s.rd (SUP.IC_INSVC c (icLevel plat)) < 2 ^ p)

/-- Source `n` is deliverable to (c, L) (R557). -/
def State.deliverable (s : State) (c : Nat) (plat : Bool) (n : Nat) : Bool :=
  let p := s.getF (SUP.IC_SRC_PRIO n)
  s.flag (SUP.IC_SRC_EN n) && (s.flag (SUP.IC_SRC_PLAT n) == plat) && decide (s.getF (SUP.IC_SRC_TARGET n) = c) &&
    decide (p ≠ 0) && decide (s.getF (SUP.IC_FLOOR_FLOOR c (icLevel plat)) ≤ p) && s.aboveService c plat p && s.srcPending n

/-- The source that goes first of two: the higher priority, then the lower number (R557). -/
def State.firstSrc (s : State) (best : Option Nat) (n : Nat) : Option Nat :=
  match best with
  | none => some n
  | some b => if s.getF (SUP.IC_SRC_PRIO b) < s.getF (SUP.IC_SRC_PRIO n) then some n else some b

/-- The source the controller chooses for (c, L) (R557). -/
def State.chosen (s : State) (c : Nat) (plat : Bool) : Option Nat :=
  ((s.listed (SUP.IC_SRC 0) 4 1024).filter fun n => s.deliverable c plat n).foldl s.firstSrc none

/-- Some source is deliverable to a core (R555). -/
def State.wakes (s : State) (c : Nat) : Bool := (s.chosen c true).isSome || (s.chosen c false).isSome

/-- An interrupt for a level may be taken at the next boundary (R548). -/
def SupCore.admits (k : SupCore) (plat : Bool) : Bool :=
  if plat then decide (k.lvl ≠ .platform) || k.gateP
  else decide (k.lvl = .app) || (decide (k.lvl = .kernel) && k.gateK)

/-- The core executes: released, and not halted by the debug port (R749, R767). -/
def State.supRuns (s : State) (c : Nat) : Bool := (s.supc c).running && !s.halted (64 + c)

/-- Source `n` is delivered to core `c` at a level (R558, R559). -/
def State.deliver (s : State) (c : Nat) (plat : Bool) (n : Nat) : State :=
  let p := s.getF (SUP.IC_SRC_PRIO n)
  let l := icLevel plat
  let s := s.wr (SUP.IC_INSVC c l) (s.rd (SUP.IC_INSVC c l) ||| 2 ^ p)
  let s := s.wr (SUP.IC_INS c l (p - 1)) n
  let s := { s with sup := { s.sup with swi := s.sup.swi.filter fun x => x ≠ n } }
  s.supEnter c (if plat then .platform else .kernel) (s.supc c).regs.pc.toNat (2 ^ 31 + p * 2 ^ 16 + n) 0 (16 + p)

/-- A core takes an interrupt at an instruction boundary (R548, R558): one for Platform before one for Kernel. -/
def State.takeInterrupt (s : State) (c : Nat) : State :=
  if ¬ s.supRuns c then s
  else
    match (if (s.supc c).admits true then s.chosen c true else none) with
    | some n => s.deliver c true n
    | none =>
      match (if (s.supc c).admits false then s.chosen c false else none) with
      | some n => s.deliver c false n
      | none => s

/-- A write of 1 to a bit of INSVC (R558). -/
def State.insvcEnd (s : State) (c : Nat) (plat : Bool) (p : Nat) : State :=
  s.plainWrite (SUP.IC_INSVC c (icLevel plat)) (2 ^ p)

/-- A software source becomes pending (R559). -/
def State.swiSet (s : State) (n : Nat) : State :=
  if n < 512 ∨ s.sup.swi.contains n then s else { s with sup := { s.sup with swi := s.sup.swi ++ [n] } }

/-- A software source is cleared (R559). -/
def State.swiClr (s : State) (n : Nat) : State :=
  { s with sup := { s.sup with swi := s.sup.swi.filter fun x => x ≠ n } }

end Sys2Proof.Machine
end

