-- ==== Sys2Proof/Machine/Sreg.lean ====
section
/-!
DEFINITION. Machine/Sreg.lean: the special registers of both profiles (R474, R475, R543, R545) and a halted core's registers as
the debug port sees them (R772).
-/

namespace Sys2Proof.Machine

/-! ## The cycle profile -/

/-- FCAUSE (R474). -/
def State.fcause (s : State) (t : Nat) : Nat :=
  if s.getF (CYC.TFAULT_FIRST t) = 0 then 0
  else s.getF (CYC.TFAULT_LAST t) + s.getF (CYC.TFAULT_FIRST t) * 2 ^ 8 + s.getF (CYC.TFAULT_COUNT t) * 2 ^ 16 +
    s.getF (CYC.TFAULT_RSTCNT t) * 2 ^ 24

/-- ANGLE and TOD (R474, R475). -/
def State.srTime (s : State) (n : Nat) : Nat :=
  if n = 1 then s.tab.au % 2 ^ 48 else s.tab.sec % 2 ^ 32 * 2 ^ 32 + s.tab.nsPart

/-- A special register of the tenant that runs (R474); none for a number the table does not list. -/
def State.srCycle (s : State) (t : Nat) (d : Disp) (n : Nat) : Option Nat :=
  match n with
  | 0 => some d.desc.toNat
  | 1 => some (s.srTime 1)
  | 2 => some (s.srTime 2)
  | 3 => some t
  | 4 => some d.left
  | 5 => some (s.fcause t)
  | 6 => some (d.kind.num + s.classOf t * 2 ^ 8 + s.coreOf t * 2 ^ 16 + b2n d.first * 2 ^ 24)
  | _ => none

/-! ## The supervisory profile -/

/-- A register of a trap bank by its place in it (R545). -/
def TrapBank.get (b : TrapBank) (i : Nat) : Nat :=
  (match i with
    | 0 => b.vtab | 1 => b.rpc | 2 => b.why | 3 => b.wher | 4 => b.prior | 5 => b.spare0 | _ => b.spare1).toNat

/-- Write a register of a trap bank; VTAB holds [63:11]. -/
def TrapBank.set (b : TrapBank) (i v : Nat) : TrapBank :=
  let w := BitVec.ofNat 64 v
  match i with
  | 0 => { b with vtab := BitVec.ofNat 64 (v / 2 ^ 11 * 2 ^ 11) }
  | 1 => { b with rpc := w }
  | 2 => { b with why := w }
  | 3 => { b with wher := w }
  | 4 => { b with prior := w }
  | 5 => { b with spare0 := w }
  | _ => { b with spare1 := w }

/-- How a special register is reached (R545): the level a read and a write need, and whether it may be written at all. -/
structure SrRule where
  read : Level
  write : Level
  writable : Bool
  deriving DecidableEq, Repr

/-- The special registers of the supervisory profile (R543, R545). -/
def srRule (n : Nat) : Option SrRule :=
  if n = 1 ∨ n = 2 then some ⟨.app, .app, false⟩
  else if n = 0x200 then some ⟨.app, .kernel, true⟩
  else if n = 0x201 then some ⟨.app, .app, false⟩
  else if n = 0x202 then some ⟨.app, .platform, true⟩
  else if 0x210 ≤ n ∧ n ≤ 0x216 then some ⟨.kernel, .kernel, true⟩
  else if 0x220 ≤ n ∧ n ≤ 0x226 then some ⟨.platform, .platform, true⟩
  else if n = 0x230 ∨ n = 0x231 then some ⟨.kernel, .kernel, true⟩
  else none

/-- A special register of supervisory core `c`. -/
def State.srSup (s : State) (c n : Nat) : Nat :=
  let k := s.supc c
  if n = 1 ∨ n = 2 then s.srTime n
  else if n = 0x200 then k.mode
  else if n = 0x201 then c
  else if n = 0x202 then k.ticks.toNat
  else if n < 0x220 then k.bankK.get (n - 0x210)
  else if n < 0x230 then k.bankP.get (n - 0x220)
  else if n = 0x230 then k.xroot.toNat
  else b2n k.xen

/-- Write a special register at a level that may (R545). -/
def SupCore.setSr (k : SupCore) (l : Level) (n v : Nat) : SupCore :=
  if n = 0x200 then { k with gateK := bit v 8, gateP := if l = .platform then bit v 9 else k.gateP }
  else if n = 0x202 then { k with ticks := BitVec.ofNat 64 v }
  else if 0x210 ≤ n ∧ n ≤ 0x216 then { k with bankK := k.bankK.set (n - 0x210) v }
  else if 0x220 ≤ n ∧ n ≤ 0x226 then { k with bankP := k.bankP.set (n - 0x220) v }
  else if n = 0x230 then { k with xroot := BitVec.ofNat 64 (bits v 39 12 * 2 ^ 12 + bits v 63 48 * 2 ^ 48) }
  else if n = 0x231 then { k with xen := bit v 0 }
  else k

/-- TICKS goes on by what the manual leaves open: how many cycles of the core lie between two of its readings (R545). -/
def State.tickOn (s : State) (c : Nat) : State :=
  let f := s.takeFree
  f.2.onSup c fun k => { k with ticks := BitVec.ofNat 64 (k.ticks.toNat + f.1) }

/-! ## A halted core's registers -/

/-- A core register by its number in CREG_SEL (R775). -/
def Regs.creg (r : Regs) (n : Nat) : Nat :=
  if n < 0x20 then r.getG n
  else if n < 0x40 then r.getV ((n - 0x20) / 2) / 2 ^ (64 * (n % 2)) % 2 ^ 64
  else if n = 0x40 then r.pc.toNat
  else if n = 0x41 then r.p.toNat
  else 0

/-- Write a core register by its number in CREG_SEL; `w` is the width of PC. -/
def Regs.setCreg (r : Regs) (w n v : Nat) : Regs :=
  if n < 0x20 then r.setG n v
  else if n < 0x40 then
    let i := (n - 0x20) / 2
    let h := n % 2
    r.setV i (putBits (r.getV i) (64 * h + 63) (64 * h) (v % 2 ^ 64))
  else if n = 0x40 then { r with pc := BitVec.ofNat 64 (v % 2 ^ w / 4 * 4) }
  else if n = 0x41 then { r with p := BitVec.ofNat 8 (putBits v 0 0 1) }
  else r

/-- The dispatch whose registers cycle core `n` holds. -/
def State.dispOn (s : State) (n : Nat) : Option (Nat × Disp) :=
  match (s.core n).run with
  | none => none
  | some t => (s.tenant t).disp.map fun d => (t, d)

/-- A read of DBG_n_CREG_DATA (R772): zero while the core runs. The manual gives an idle cycle core no registers, so what they
read as is free. -/
def State.cregRead (s : State) (n : Nat) : State × Nat :=
  let reg := s.getF (DBG.CREG_SEL_REG n)
  if ¬ s.halted n then (s, 0)
  else if s.flag (DBG.CREG_SEL_SPACE n) then
    if 64 ≤ n then
      let s := if reg = 0x202 then s.tickOn (n - 64) else s
      (s, if (srRule reg).isSome then s.srSup (n - 64) reg else 0)
    else match s.dispOn n with
      | some (t, d) => (s, (s.srCycle t d reg).getD 0)
      | none => if reg = 1 ∨ reg = 2 then (s, s.srTime reg) else if reg ≤ 6 then (s.takeFree.2, s.takeFree.1 % 2 ^ 64) else (s, 0)
  else if 64 ≤ n then (s, (s.supc (n - 64)).regs.creg reg)
  else match s.dispOn n with
    | some (_, d) => (s, d.regs.creg reg)
    | none => if reg = 0 ∨ 0x41 < reg then (s, 0) else (s.takeFree.2, s.takeFree.1 % 2 ^ 64)

/-- A write of DBG_n_CREG_DATA (R772): nothing while the core runs, and nothing to a read-only register. -/
def State.cregWrite (s : State) (n v : Nat) : State :=
  let reg := s.getF (DBG.CREG_SEL_REG n)
  if ¬ s.halted n then s
  else if s.flag (DBG.CREG_SEL_SPACE n) then
    if 64 ≤ n ∧ (srRule reg).any (·.writable) then s.onSup (n - 64) fun k => k.setSr .platform reg v else s
  else if 64 ≤ n then s.onSup (n - 64) fun k => { k with regs := k.regs.setCreg 64 reg v }
  else match s.dispOn n with
    | some (t, d) => s.onTenant t fun x => { x with disp := some { d with regs := d.regs.setCreg 32 reg v } }
    | none => s

end Sys2Proof.Machine
end

