-- ==== Sys2Proof/Machine/Dbg.lean ====
section
/-!
DEFINITION. Machine/Dbg.lean: halting, resuming and stepping cores, breakpoints and watchpoints, the debug registers and the
unlock of the debug port (chapter 18).
-/

namespace Sys2Proof.Machine

/-- Change what the debug port holds. -/
def State.onDbg (s : State) (f : DbgState → DbgState) : State := { s with dbg := f s.dbg }

/-! ## Halt, resume and step -/

/-- A core halts (R768): its state and cause, and the status bits. -/
def State.haltCore (s : State) (n cause : Nat) : State :=
  let s := ((s.setF (DBG.NSTATE_HALTED n) 1).setF (DBG.NSTATE_CAUSE n) cause).raise DBG.STATUS_HALT
  let s := if n < 64 then s.raise (CYC.CSTATUS_HALTED n) else s.onSup (n - 64) fun k => { k with idle := false }
  (s.onDbg fun d => { d with want := d.want.filter (· ≠ n), step := d.step.filter (· ≠ n), pass := d.pass.filter (· ≠ n) }).watchdogsFollow

/-- A core stands between two interrupt points: it waits for a guard while it holds another (R416, R515). -/
def State.betweenPoints (s : State) (n : Nat) : Bool :=
  decide (n < 64) && (s.dispOn n).any fun (t, d) => d.wait.isSome && !(s.tenant t).held.isEmpty

/-- DBG_n_CTL.HALT (R768): at once at an interrupt point, else at the next one. -/
def State.dbgHalt (s : State) (n : Nat) : State :=
  if s.halted n then s
  else if s.betweenPoints n then s.onDbg fun d => { d with want := n :: d.want.filter (· ≠ n) }
  else s.haltCore n 1

/-- A HALT that waited takes effect (R768). -/
def State.haltDue (s : State) (n : Nat) : Bool := s.dbg.want.contains n && !s.betweenPoints n

/-- DBG_n_CTL.RESUME (R768): the core goes on, past a breakpoint at the instruction it stands at. -/
def State.dbgResume (s : State) (n : Nat) : State :=
  let s := s.onDbg fun d => { d with want := d.want.filter (· ≠ n) }
  if ¬ s.halted n then s
  else
    let s := (s.setF (DBG.NSTATE_HALTED n) 0).setF (DBG.NSTATE_CAUSE n) 0
    (s.onDbg fun d => { d with step := d.step.filter (· ≠ n), pass := n :: d.pass.filter (· ≠ n) }).watchdogsFollow

/-- DBG_n_CTL.STEP (R768): a halted core will execute one instruction. -/
def State.dbgStep (s : State) (n : Nat) : State :=
  if s.halted n then s.onDbg fun d => { d with step := n :: d.step.filter (· ≠ n) } else s

/-- A write of DBG_n_CTL (R768, R775). -/
def State.nctlWrite (s : State) (n v : Nat) : State :=
  let s := s.plainWrite (DBG.NCTL n) v
  if bit v 0 then s.dbgHalt n
  else
    let s := s.when (bit v 1) (·.dbgResume n)
    s.when (bit v 2) (·.dbgStep n)

/-! ## Breakpoints and watchpoints -/

/-- An instruction breakpoint of core `n` matches an address and a burgee (R771). -/
def State.bpMatch (s : State) (n pc : Nat) (burgee : Option Nat) : Bool :=
  (List.range 4).any fun k =>
    s.flag (DBG.BP_EN n k) && decide (s.getF (DBG.BP_ADDR n k) = pc % 2 ^ 48) &&
      (!s.flag (DBG.BP_BMATCH n k) || burgee.all fun b => decide (s.getF (DBG.BP_BURGEE n k) = b))

/-- Where core `n` stands, and the tenant it runs. -/
def State.standsAt (s : State) (n : Nat) : Option (Nat × Option Nat) :=
  if 64 ≤ n then (if (s.supc (n - 64)).running then some ((s.supc (n - 64)).regs.pc.toNat, none) else none)
  else (s.dispOn n).map fun (t, d) => (d.regs.pc.toNat, some t)

/-- The instruction about to issue on core `n` is at a breakpoint (R771). -/
def State.atBreakpoint (s : State) (n : Nat) : Bool :=
  !s.dbg.pass.contains n && (s.standsAt n).any fun (pc, b) => s.bpMatch n pc b

/-- A breakpoint is hit (R771): the core halts before the instruction. -/
def State.breakpointHit (s : State) (n : Nat) : State :=
  if s.halted n ∨ (n < 64 ∧ s.cyc.wdHalt) then s
  else if s.atBreakpoint n then s.haltCore n 3 else s

/-- A watchpoint of core `n` matches an access (R771): its address and whether it writes. -/
def State.wpMatch (s : State) (n a : Nat) (write : Bool) : Bool :=
  (List.range 2).any fun w =>
    let mask := s.getF (DBG.WP_CFG_MASK n w)
    bit (s.getF (DBG.WP_CFG_RW n w)) (b2n write) &&
      decide ((a % 2 ^ 48) ||| mask = s.getF (DBG.WP_ADDR_ADDR n w) ||| mask)

/-! ## Registers -/

/-- A write of DBG_AUTH (R775). -/
def State.dbgAuthWrite (s : State) (who : Requester) (v : Nat) : State :=
  if ¬ s.platform who ∨ s.flag DBG.AUTH_SET then s
  else (s.setF DBG.AUTH_SLOT (bits v 12 0)).setF DBG.AUTH_SET 1

/-- A write of DBG_RST (R773): DBR. -/
def State.dbgRstWrite (s : State) (key : Nat) : State := if key = 0x4442 then s.resetRank2 4 else s

/-- A write of DBG_n_CREG_SEL (R775): in SPACE 0 a number above 0x41 names no register and is unlisted. -/
def State.cregSelWrite (s : State) (a v : Nat) : State :=
  let new := s.plain a v
  s.wr a (if bits new 12 12 = 0 ∧ 0x41 < bits new 11 0 then putBits new 11 0 (bits (s.rd a) 11 0) else new)

/-- A write to a register of DBG takes effect (R774, R775). -/
def State.dbgWrite (s : State) (who : Requester) (a v : Nat) : State :=
  match regAt a with
  | none => s
  | some (r, is) =>
    let n := is.headD 0
    if r.base = DBG.CTL then (s.plainWrite a v).watchdogsFollow
    else if r.base = DBG.AUTH then s.dbgAuthWrite who v
    else if r.base = DBG.RST then s.dbgRstWrite (v % 65536)
    else if r.base = DBG.NCTL 0 then s.nctlWrite n v
    else if r.base = DBG.CREG_SEL 0 then s.cregSelWrite a v
    else if r.base = DBG.CREG_DATA 0 then s.cregWrite n v
    else s.plainWrite a v

/-! ## Unlock -/

/-- DBGCHAL and DBGRESP are available (R761). -/
def State.dbgLocked (s : State) : Bool := decide (s.dbgLock = 1)

/-- A Capture-DR of DBGCHAL (R764): a new challenge, of which the manual leaves the random part open. -/
def State.dbgChallenge (s : State) : State :=
  if ¬ s.dbgLocked ∨ s.dbg.holdoff then s
  else
    let f := s.takeFree
    let msg := beBytes 32 f.1 ++ beBytes 8 (f.2.rd SEC.MONO)
    let c := ofBe (hmac256 (derive f.2.root "SPN4410 DEBUG" 32) msg)
    f.2.onDbg fun d => { d with chal := some c }

/-- A submitted response is the right one (R764, R701). -/
def State.responseOk (s : State) (resp : Nat) : Bool :=
  let slot := s.getF DBG.AUTH_SLOT
  match s.dbg.chal with
  | none => false
  | some c =>
    s.flag DBG.AUTH_SET && s.keyUsable slot .supHmac &&
      decide (resp = ofBe (hmac256 ((s.keySlot slot).bytes 32) (serialBytes ++ beBytes 32 c)))

/-- An Update-DR of DBGRESP (R764): it uses up the challenge, and unlocks or fails. -/
def State.dbgResponse (s : State) (resp : Nat) : State :=
  if ¬ s.dbgLocked then s
  else
    let ok := s.responseOk resp
    let s := s.onDbg fun d => { d with chal := none }
    if ok then (s.setF SEC.LC_UNLOCKED 1).setF SEC.LC_FIELDKEYS 0
    else (s.raise DBG.STATUS_UNLOCK_FAIL).onDbg fun d => { d with holdoff := true }

end Sys2Proof.Machine
end

