-- ==== Sys2Proof/Machine/RegWrite.lean ====
section
/-!
DEFINITION. Machine/RegWrite.lean: what a write of software does to a register, for every register whose write does more than
its field table says.
-/

namespace Sys2Proof.Machine

/-- The k-th index of a register in its array. -/
def nth (is : List Nat) (k : Nat) : Nat := (is.drop k).headD 0

/-- A write to a register of SYS (R756). -/
def State.sysWrite (s : State) (who : Requester) (b a v : Nat) : State :=
  if b = SYS.RST_CMD then s.rstCmdWrite who v
  else if b = SYS.PWR_CMD then s.pwrCmdWrite who v
  else if b = SYS.WDT_CFG then (if s.platform who then s.wdtCfg v else s.sysLevel)
  else if b = SYS.WAKE_CFG ∨ b = SYS.WAKE_SEC then (if s.platform who then s.plainWrite a v else s.sysLevel)
  else if b = SYS.CORE_REL then (if s.platform who then s.coreRelease v else s.sysLevel)
  else if b = SYS.WDT_KICK then s.wdtKick (v % 65536)
  else if b = SYS.STATUS then
    let s := s.plainWrite a v
    s.when (bit v 0) (·.unmapClear)
  else s.plainWrite a v

/-- A write to TAB_CTL (R73, R74, R81, R94, R117): each field acts as its own rule says. -/
def State.tabCtlWrite (s : State) (v : Nat) : State :=
  let old := s.rd TAB.CTL
  let s := s.wr TAB.CTL (putBits (s.plain TAB.CTL v) 3 0 (bits old 3 0))
  let s := ((s.srcWrite (bits v 2 1)).servoEnWrite (bit v 0)).ref10mWrite (bit v 3)
  if bit v 6 then s else s.leavePartner

/-- A write to TAB_CMD (R120). DESIGN CHOICE (log 17): with SNAP and LOAD both 1, the snapshot shows TOD before the load. -/
def State.tabCmdWrite (s : State) (who : Requester) (v : Nat) : State :=
  ((s.when (bit v 0) (·.tabSnap who)).when (bit v 1) (·.steps (·.todLoad))).when (bit v 2) (·.evqFlush)

/-- A write to a register of TAB (chapter 02). -/
def State.tabWrite (s : State) (who : Requester) (b : Nat) (is : List Nat) (a v : Nat) : State :=
  if b = TAB.CTL then s.tabCtlWrite v
  else if b = TAB.CMD then s.tabCmdWrite who v
  else if b = TAB.STEP then s.steps (·.todStep v)
  else if b = TAB.SRV_OFFSET then s.steps (·.srvOffsetWrite v)
  else if b = TAB.SRV_RATE then (if s.flag TAB.CTL_SERVO_EN then s else s.plainWrite a v)
  else if b = TAB.TARGET 0 ∨ b = TAB.CCFG 0 then s.comparatorWrite (nth is 0) a v
  else s.plainWrite a v

/-- A write to PCX_p_CMD (R185). -/
def State.pcxCmdWrite (s : State) (p v : Nat) : State :=
  (((s.when (bit v 0) (·.portReset p)).when (bit v 1) (·.pcxCntClr p)).when (bit v 2) (·.tsqFlush p)).when (bit v 3) (·.anAgain p)

/-- A write to a register of PCX (chapter 03). -/
def State.pcxWrite (s : State) (b : Nat) (is : List Nat) (a v : Nat) : State :=
  let p := nth is 0
  let e := nth is 1
  if b = PCX.CFG 0 then s.pcxCfgWrite p v
  else if b = PCX.PAUSE 0 then s.pcxPauseWrite p v
  else if b = PCX.CMD 0 then s.pcxCmdWrite p v
  else if b = PCX.GCL_CTL 0 then s.gclCtlWrite p (bit v 0) (bit v 1)
  else if b = PCX.GCL_BASE 0 0 then s.gclEpochWrite p e (.base (BitVec.ofNat 64 v))
  else if b = PCX.GCL_CYCLE 0 0 then s.gclEpochWrite p e (.cycle (BitVec.ofNat 32 v))
  else if b = PCX.GCL_CFG 0 0 then s.gclEpochWrite p e (.cfg (BitVec.ofNat 32 v))
  else if b = PCX.GCL_ENT 0 0 0 then s.gclEpochWrite p e (.entry (Fin.ofNat 256 (nth is 2)) (BitVec.ofNat 64 v))
  else s.plainWrite a v

/-- FDB_FLIP (R235). -/
def State.fdbFlip (s : State) : State := s.onSwc fun w => { w with fdbAct := 1 - w.fdbAct }

/-- CLS_FLIP (R235). -/
def State.clsFlip (s : State) : State := s.onSwc fun w => { w with clsAct := 1 - w.clsAct }

/-- A write to SWC_FDB_CMD (R242). -/
def State.fdbCmdWrite (s : State) (v : Nat) : State :=
  let s := s.plainWrite SWC.FDB_CMD v
  let e := bits v 4 4
  let i := bits v 31 16
  match bits v 2 0 with
  | 1 => s.fdbRead e i
  | 2 => s.fdbWrite e i
  | 3 => s.fdbInsert e
  | 4 => s.fdbDelete e
  | 5 => s.fdbSearch e
  | _ => s

/-- A write to a register of SWC (chapter 04). -/
def State.swcWrite (s : State) (b : Nat) (is : List Nat) (a v : Nat) : State :=
  let e := nth is 0
  let i := nth is 1
  if b = SWC.EPOCH then (s.when (bit v 4) (·.fdbFlip)).when (bit v 5) (·.clsFlip)
  else if b = SWC.FDB_CMD then s.fdbCmdWrite v
  else if b = SWC.VLAN 0 0 then s.swcTableWrite e (.vlan (Fin.ofNat 4096 i) (BitVec.ofNat 64 v))
  else if SWC.CLS_W0 0 0 ≤ b ∧ b ≤ SWC.CLS_W5 0 0 then
    s.swcTableWrite e (.cls (Fin.ofNat 256 i) (Fin.ofNat 6 ((b - SWC.CLS_W0 0 0) / 4)) (BitVec.ofNat 32 v))
  else if b = SWC.QTHR 0 0 then s.thrWrite e i v
  else s.plainWrite a v

/-- A write to RDE_TCMD (R298). -/
def State.rdeTcmdWrite (s : State) (v : Nat) : State :=
  let t := bits v 9 0
  match bits v 17 16 with
  | 1 => s.rdeResume t
  | 2 => s.rdeSilence t
  | 3 => s.rdeRetransfer t
  | _ => s

/-- A write to a register of RDE (chapter 05). -/
def State.rdeWrite (s : State) (b : Nat) (is : List Nat) (a v : Nat) : State :=
  if b = RDE.CFG then s.rdeCfgWrite v
  else if b = RDE.CMD then ((s.when (bit v 0) (·.ddFlush)).when (bit v 1) (·.proxyFlip)).when (bit v 2) (·.rdeCntClr)
  else if b = RDE.PAIR_CFG then s.pairCfgWrite v
  else if b = RDE.PAIR_MAC ∨ b = RDE.PAIRT 0 then s.pairRegWrite a v
  else if b = RDE.PSLOT 0 then s.pslotWrite (nth is 0) v
  else if b = RDE.PROXY 0 0 then s.proxyWrite (nth is 0) (nth is 1) v
  else if b = RDE.TCMD then s.rdeTcmdWrite v
  else s.plainWrite a v

/-- A write to CYC_CTL (R448, R468). -/
def State.cycCtlWrite (s : State) (v : Nat) : State :=
  let s := s.setF CYC.CTL_EN (b2n (bit v 0))
  s.when (bit v 1) (·.cwdStart)

/-- A write to CYC_FRC_CMD (R469). -/
def State.frcCmdWrite (s : State) (v : Nat) : State :=
  let s := s.plainWrite CYC.FRC_CMD v
  let i := bits v 31 16
  match bits v 2 0 with
  | 1 => s.frcRead i
  | 2 => s.frcWrite i
  | 3 => s.frcDelete i
  | 4 => s.frcFind
  | 5 => s.frcClearAll
  | _ => s

/-- A write to CYC_TCMD (R424). -/
def State.tcmdWrite (s : State) (v : Nat) : State :=
  let t := bits v 9 0
  match bits v 18 16 with
  | 1 => s.tcmdStart t
  | 2 => s.tcmdStop t
  | 3 => s.tcmdReset t (bit v 20)
  | 4 => s.tcmdMove t (bits v 29 24)
  | 5 => s.tcmdFclear t
  | _ => s

/-- A write to CYC_WIN_CMD (R398). -/
def State.winCmdWrite (s : State) (v : Nat) : State :=
  let s := s.plainWrite CYC.WIN_CMD v
  match bits v 25 24 with
  | 1 => s.winRead (bits v 9 0) (bits v 19 16)
  | 2 => s.winWrite (bits v 9 0) (bits v 19 16)
  | _ => s

/-- A write to the posting registers of a requester (R405). -/
def State.postWrite (s : State) (who : Requester) (b v : Nat) : State :=
  let (d0, d1, d2, res) := s.postRegs who
  if b = CYC.EVPOST_D0 then s.setPost who (v % 65536, d1, d2, res)
  else if b = CYC.EVPOST_D1 then s.setPost who (d0, v, d2, res)
  else if b = CYC.EVPOST_D2 then s.setPost who (d0, d1, v, res)
  else s.eventPost who (bits v 9 0)

/-- A write to CYC_t_XCHG (R460, R471). -/
def State.xchgWrite (s : State) (t v : Nat) : State :=
  let s := s.when (bit v 30) (·.cancelXchg t)
  s.when (bit v 31) (·.xchgArm t)

/-- A write to a register of CYC (chapters 08 and 09). -/
def State.cycWrite (s : State) (who : Requester) (b : Nat) (is : List Nat) (a v : Nat) : State :=
  let i := nth is 0
  if b = CYC.CTL then s.cycCtlWrite v
  else if b = CYC.CWD_KICK then s.cwdKick (v % 65536)
  else if b = CYC.FRC_CMD then s.frcCmdWrite v
  else if b = CYC.TCMD then s.tcmdWrite v
  else if b = CYC.WIN_CMD then s.winCmdWrite v
  else if CYC.EVPOST_D0 ≤ b ∧ b ≤ CYC.EVPOST_CTL then s.postWrite who b v
  else if b = CYC.TBIND 0 then (if bit v 31 then s.tenantBind i v else s.tenantUnbind i v)
  else if b = CYC.SUBL 0 then s.sublWrite i v
  else if b = CYC.GRDCFG 0 ∨ b = CYC.GBASE 0 ∨ b = CYC.GLEN 0 then s.guardWrite i a v
  else if b = CYC.TCFG 0 ∨ b = CYC.TGRPLO 0 ∨ b = CYC.TGRPHI 0 then s.tenCfgWrite i a v
  else if b = CYC.BUDGET 0 ∨ b = CYC.IMGA 0 ∨ b = CYC.IMGB 0 ∨ b = CYC.CMAP 0 ∨ b = CYC.XTICK 0 then s.tenExeWrite i a v
  else if b = CYC.XCHG 0 then s.xchgWrite i v
  else if b = CYC.PHX_DIM then s.phxWrite v
  else if b = CYC.PHX_CFG 0 then s.phxCfgWrite i v
  else s.plainWrite a v

/-- A write to a register of PUB (chapter 12). -/
def State.pubWrite (s : State) (b : Nat) (is : List Nat) (a v : Nat) : State :=
  if b = PUB.CTL then s.pubCtlWrite v
  else if b = PUB.CMD then s.pubCmdWrite v
  else if b = PUB.SCMD then s.when (bit v 31) (·.pubScmd (bits v 12 0))
  else if b = PUB.SO 0 then ((s.plainWrite a v).linesNote).orphans
  else if PUB.W0 0 0 ≤ b ∧ b ≤ PUB.W7 0 0 then s.pubEntryWrite (nth is 0) (nth is 1) ((b - PUB.W0 0 0) / 4) v
  else if PUB.RXW0 0 ≤ b ∧ b ≤ PUB.RXW7 0 then s.rxWrite (nth is 0) ((b - PUB.RXW0 0) / 4) v
  else s.plainWrite a v

/-- A write to a register of DMV (chapter 15). -/
def State.dmvWrite (s : State) (b : Nat) (is : List Nat) (a v : Nat) : State :=
  let m := nth is 0
  if b = DMV.CMD then s.when (bit v 0) (·.dmvCntClr)
  else if b = DMV.MCFG 0 then s.mcfgWrite m v
  else if b = DMV.MTAIL 0 then s.tailWrite m v
  else if b = DMV.MRBASE 0 then s.mrbaseWrite m v
  else if b = DMV.MCMD 0 then s.when (bit v 0) (·.moverResume m)
  else s.plainWrite a v

/-- A write to a register of SUP (R561, R757, R758). -/
def State.supWrite (s : State) (who : Requester) (b a v : Nat) : State :=
  if b = SUP.NVS_CMD then s.nvsCmdWrite who v
  else if b = SUP.BOOTSVN then (if v % 65536 < s.getF SUP.BOOTSVN_SVN then s else s.plainWrite a v)
  else if b = SUP.SWI_SET then s.swiSet (v % 1024)
  else if b = SUP.SWI_CLR then s.swiClr (v % 1024)
  else s.plainWrite a v

/-- A write to a register of SEC (chapter 16). -/
def State.secWrite (s : State) (who : Requester) (b : Nat) (is : List Nat) (a v : Nat) : State :=
  if b = SEC.LC_CMD then s.lcCmdWrite who v
  else if b = SEC.CMD then s.secCmdWrite who v
  else if b = SEC.KEY_CMD then s.keyCmdWrite who v
  else if b = SEC.KEY_D 0 then s.keyDataWrite who (nth is 0) v
  else if b = SEC.MR_EXT then s.mrExtend who (v % 16)
  else if b = SEC.TDIG_CMD then s.tdigCmdWrite who v
  else if b = SEC.ENG_CMD then s.engCmdWrite who v
  else if b = SEC.ENG_DIN then s.engDin v
  else if b = SEC.ENS_CMD then s.when (bit v 0) (·.ensignGo who)
  else s.plainWrite a v

/-- A write to a register of SVC or CAP: in Lull it waits for the clock (R46). -/
def State.sigWrite (s : State) (a v : Nat) : State :=
  if s.sys.power = .run then s.gatedWrite a v
  else { s with sys := { s.sys with gated := s.sys.gated ++ [(a, v)] } }

/-- A write of a whole register takes effect. -/
def State.regWrite (s : State) (who : Requester) (a v : Nat) : State :=
  match regAt a with
  | none => s
  | some (r, is) =>
    let b := r.base
    match (a - regSpace) / 0x100000 with
    | 0 => s.sysWrite who b a v
    | 1 => s.tabWrite who b is a v
    | 2 => s.pcxWrite b is a v
    | 3 => s.swcWrite b is a v
    | 4 => s.rdeWrite b is a v
    | 5 => s.sigWrite a v
    | 6 => s.cycWrite who b is a v
    | 7 => s.pubWrite b is a v
    | 8 => s.sigWrite a v
    | 9 => s.dmvWrite b is a v
    | 10 => if b = MEM.CMD then s.memCmdWrite v else s.plainWrite a v
    | 11 => s.supWrite who b a v
    | 12 => s.secWrite who b is a v
    | 13 => s.dbgWrite who a v
    | _ => s

/-- A read of a whole register (R26): its value, and what the read removes. -/
def State.regRead (s : State) (who : Requester) (a : Nat) : State × Nat :=
  let v := s.viewFor who a
  match regAt a with
  | none => (s, 0)
  | some (r, is) =>
    let b := r.base
    let i := nth is 0
    let old := (s.port64 who).resp
    let keep (t : State) : State × Nat := (t.respond who old, v)
    if b = TAB.EVQ_W3 then keep (s.evqPop who)
    else if b = PCX.TSQ_W2 0 then keep (s.tsqPop who i)
    else if b = PCX.LINK 0 ∧ (s.port i).link = .syncWait then (s.takeFree.2, v)
    else if b = CYC.TOSQ_W3 0 then keep (s.osqPop who i)
    else if b = PUB.CLOG_W3 then keep (s.clogPop who)
    else if b = SVC.COEF_DATA then s.coefAccess none
    else if b = DBG.CREG_DATA 0 then s.cregRead i
    else (s, v)

end Sys2Proof.Machine
end

