-- ==== Sys2Proof/Machine/Bus.lean ====
section
/-!
DEFINITION. Machine/Bus.lean: an access to the register space (R17 to R25, R53), and to the rest of the physical address map
(R47 to R50).
-/

namespace Sys2Proof.Machine

/-- How an access ended. -/
inductive BusRes where
  /-- It was made; what a read returns. -/
  | ok (s : State) (v : Nat)
  /-- The requester does not reach what the address names. -/
  | refused
  /-- An address outside the map, or one that takes no write (R48, R49). -/
  | fault
  /-- A beat was poisoned (R648). -/
  | poison (s : State)
  /-- The memory does not answer yet (R640, R644). -/
  | wait
  /-- The access breaks a rule that software must keep (R32). -/
  | broken (rule : Nat)
  deriving DecidableEq, Repr

/-! ## The register space -/

/-- A requester reaches the block of an address (R53); movers never reach SEC (R672). -/
def State.busReach (s : State) (who : Requester) (a : Nat) : Bool :=
  s.regReach who && (match who with
    | .mover _ => decide ((a - regSpace) / 0x100000 ≠ 12)
    | _ => true)

/-- The width of the register that begins at an address; 0 where none begins. -/
def regWidth (a : Nat) : Nat := ((regAt a).map fun x => x.1.width).getD 0

/-- An address is the high word of a 64-bit register. -/
def isHighWord (a : Nat) : Bool := decide (regWidth a = 0 ∧ 4 ≤ a ∧ regWidth (a - 4) = 64)

/-- No register holds an address. -/
def unmapped (a : Nat) : Bool := decide (regWidth (a / 4 * 4) = 0) && !isHighWord (a / 4 * 4)

/-- The first access to an unmapped address is logged (R25, R756). -/
def State.logUnmapped (s : State) (who : Requester) (a : Nat) (write : Bool) : State :=
  if s.flag SYS.UNMAP_INFO_VALID then s
  else ((s.wr SYS.UNMAP_ADDR a).wr SYS.UNMAP_INFO (2 ^ 31 + b2n write * 2 ^ 8 + reqPort who)).raise SYS.STATUS_UNMAP

/-- An access to an unmapped address (R25); a write discards the requester's holding (R22). -/
def State.unmappedAccess (s : State) (who : Requester) (a : Nat) (write : Bool) : State :=
  let s := s.logUnmapped who a write
  if write then s.unhold who else s

/-- A read of the low word of a 64-bit register latches its high word (R18, R22). -/
def State.lowRead (s : State) (who : Requester) (a : Nat) : State × Nat :=
  let r := s.regRead who a
  (r.1.setPort64 who fun p => { p with latch := some (a, r.2 / 2 ^ 32) }, r.2 % 2 ^ 32)

/-- A read of the high word of the 64-bit register at `a` (R18, R22). -/
def State.highRead (s : State) (who : Requester) (a : Nat) : State × Nat :=
  match (s.port64 who).latch with
  | some (b, h) => if b = a then (s, h) else let r := s.regRead who a; (r.1, r.2 / 2 ^ 32)
  | none => let r := s.regRead who a; (r.1, r.2 / 2 ^ 32)

/-- A write of the low word of a 64-bit register is held (R19, R22). -/
def State.lowWrite (s : State) (who : Requester) (a v : Nat) : State :=
  s.setPort64 who fun p => { p with hold := some (a, v % 2 ^ 32) }

/-- The low half that a register keeps when its high half is written alone (R20). -/
def State.lowHalf (s : State) (a : Nat) : Nat :=
  match regAt a with
  | some (r, is) => if r.base = DBG.CREG_DATA 0 then (s.cregRead (nth is 0)).2 % 2 ^ 32 else s.rd a % 2 ^ 32
  | none => 0

/-- A high half is written alone (R20). Of a register whose clock Lull gates, it waits as a write of the high word, and takes the
low half that the register has when the write takes effect (R46). -/
def State.highAlone (s : State) (who : Requester) (a v : Nat) : State :=
  let block := (a - regSpace) / 0x100000
  if (block = 5 ∨ block = 8) ∧ s.sys.power ≠ .run then
    { s with sys := { s.sys with gated := s.sys.gated ++ [(a + 4, v % 2 ^ 32)] } }
  else s.regWrite who a (v % 2 ^ 32 * 2 ^ 32 + s.lowHalf a)

/-- A write of the high word of the 64-bit register at `a` (R19, R20, R22). -/
def State.highWrite (s : State) (who : Requester) (a v : Nat) : State :=
  match (s.port64 who).hold with
  | some (b, l) =>
    if b = a then (s.unhold who).regWrite who a (v % 2 ^ 32 * 2 ^ 32 + l) else (s.unhold who).highAlone who a v
  | none => (s.unhold who).highAlone who a v

/-- A 32-bit read in the register space. -/
def State.narrowRead (s : State) (who : Requester) (a : Nat) : BusRes :=
  if a % 4 ≠ 0 then .broken 17
  else if regWidth a = 64 then .ok (s.lowRead who a).1 (s.lowRead who a).2
  else if isHighWord a then .ok (s.highRead who (a - 4)).1 (s.highRead who (a - 4)).2
  else if regWidth a = 32 then .ok (s.regRead who a).1 (s.regRead who a).2
  else .ok (s.unmappedAccess who a false) 0

/-- A 64-bit read in the register space. -/
def State.wideRead (s : State) (who : Requester) (a : Nat) : BusRes :=
  if a % 8 ≠ 0 ∨ regWidth a = 32 ∨ regWidth (a + 4) = 32 then .broken 17
  else if regWidth a = 64 then .ok (s.regRead who a).1 (s.regRead who a).2
  else .ok (s.unmappedAccess who a false) 0

/-- A 32-bit write in the register space. -/
def State.narrowWrite (s : State) (who : Requester) (a v : Nat) : BusRes :=
  if a % 4 ≠ 0 then .broken 17
  else if regWidth a = 64 then .ok (s.lowWrite who a v) 0
  else if isHighWord a then .ok (s.highWrite who (a - 4) v) 0
  else if regWidth a = 32 then .ok ((s.unhold who).regWrite who a (v % 2 ^ 32)) 0
  else .ok (s.unmappedAccess who a true) 0

/-- A 64-bit write in the register space. -/
def State.wideWrite (s : State) (who : Requester) (a v : Nat) : BusRes :=
  if a % 8 ≠ 0 ∨ regWidth a = 32 ∨ regWidth (a + 4) = 32 then .broken 17
  else if regWidth a = 64 then .ok ((s.unhold who).regWrite who a (v % 2 ^ 64)) 0
  else .ok (s.unmappedAccess who a true) 0

/-- A read in the register space: `n` bytes, 4 or 8. -/
def State.spaceRead (s : State) (who : Requester) (a n : Nat) : BusRes :=
  if ¬ s.busReach who a then .refused
  else if n = 8 then s.wideRead who a
  else if n = 4 then s.narrowRead who a
  else .broken 17

/-- A write in the register space: `n` bytes, 4 or 8. -/
def State.spaceWrite (s : State) (who : Requester) (a n v : Nat) : BusRes :=
  if ¬ s.busReach who a then .refused
  else if n = 8 then s.wideWrite who a v
  else if n = 4 then s.narrowWrite who a v
  else .broken 17

/-! ## The whole map -/

/-- What memory answered, as a bus answer. -/
def PhysRes.toBus : PhysRes → BusRes
  | .ok s b => .ok s (ofLe b)
  | .fault => .fault
  | .poison s => .poison s
  | .wait => .wait

/-- A read of `n` bytes at a physical address (R47). -/
def State.busRead (s : State) (who : Requester) (port : MemWho) (a n : Nat) : BusRes :=
  if inRegSpace a then s.spaceRead who a n else (s.physLoad port a n).toBus

/-- A write of `n` bytes at a physical address (R47, R49). -/
def State.busWrite (s : State) (who : Requester) (a n v : Nat) : BusRes :=
  if inRegSpace a then s.spaceWrite who a n v else (s.physStore a (leBytes n v)).toBus

/-! ## Commands -/

/-- The outcome of an access to the register space that a command asks for. -/
def State.answer (s : State) (who : Requester) (read : Bool) : BusRes → Out
  | .ok s v => .next (s.respond who (if read then .data v else .done))
  | .refused => .next (s.respond who (match who with
    | .mover _ => .accessFault
    | _ => .denied))
  | .broken r => .fault (.brokenMust r)
  | .fault | .poison _ | .wait => .next s

end Sys2Proof.Machine
end

