-- ==== Sys2Proof/Machine/BusCmd.lean ====
section
/-!
DEFINITION. Machine/BusCmd.lean: the commands of register access.
-/

namespace Sys2Proof.Machine


/-- REGISTER_WRITE (R26): A write to a register field that has no row of its own stores, sets or clears bits by its access code, subject to locks, reserved fields and unlisted encodings. -/
def execRegisterWrite (who : Requester) (addr : Nat) (wide : Bool) (value : DWord) (s : State) : Out := if ¬ s.awake then .next s else s.answer who false (s.spaceWrite who addr (if wide then 8 else 4) value.toNat)

/-- UNMAPPED_ACCESS (R25): A read or write to an unmapped register-space address returns zero or is dropped, and SYS logs the first such access. -/
def execUnmappedAccess (who : Requester) (addr : Nat) (write : Bool) (s : State) : Out := if ¬ s.awake ∨ ¬ (inRegSpace addr ∧ unmapped addr) then .next s else s.answer who (!write) (if s.busReach who addr then .ok (s.unmappedAccess who addr write) 0 else .refused)

/-- LOW_WORD_READ_LATCH (R18): A 32-bit read of a 64-bit register's low word latches its high word for that requester. -/
def execLowWordReadLatch (who : Requester) (addr : Nat) (s : State) : Out := if ¬ s.awake ∨ ¬ (regWidth addr = 64) then .next s else s.answer who true (if s.busReach who addr then .ok (s.lowRead who addr).1 (s.lowRead who addr).2 else .refused)

/-- HIGH_WORD_READ (R22): A read of a 64-bit register's high word returns the latched value when the requester's latch names the register, and the current high word otherwise. -/
def execHighWordRead (who : Requester) (addr : Nat) (s : State) : Out := if ¬ s.awake ∨ ¬ (isHighWord addr) then .next s else s.answer who true (if s.busReach who addr then .ok (s.highRead who (addr - 4)).1 (s.highRead who (addr - 4)).2 else .refused)

/-- LOW_WORD_WRITE_HOLD (R19): A write of a 64-bit register's low word is held per requester until the high word is written. -/
def execLowWordWriteHold (who : Requester) (addr : Nat) (value : Word) (s : State) : Out := if ¬ s.awake ∨ ¬ (regWidth addr = 64) then .next s else s.answer who false (if s.busReach who addr then .ok (s.lowWrite who addr value.toNat) 0 else .refused)

/-- HIGH_WORD_WRITE_COMMIT (R22): A write of a 64-bit register's high word commits both halves when the holding names the register, and otherwise writes the high half alone. -/
def execHighWordWriteCommit (who : Requester) (addr : Nat) (value : Word) (s : State) : Out := if ¬ s.awake ∨ ¬ (isHighWord addr) then .next s else s.answer who false (if s.busReach who addr then .ok (s.highWrite who (addr - 4) value.toNat) 0 else .refused)

end Sys2Proof.Machine
end

