-- ==== Sys2Proof/Machine/CapCmd.lean ====
section
/-!
DEFINITION. Machine/CapCmd.lean: the commands of the record units.
-/

namespace Sys2Proof.Machine

/-- A word for CAP_u_CFG with its EN bit as the command says. -/
def capEn (en : Bool) (v : Nat) : Nat := v % 2 ^ 31 + b2n en * 2 ^ 31


/-- CAP_SW_TRIG (R621): CAP_u_CMD.TRIG triggers the unit by software. -/
def execCapSwTrig (u : Fin 16) (s : State) : Out := s.actGated (CAP.UCMD u.val) (4) fun s => s.capCmdTrig u.val

/-- CAP_ARM (R623): CAP_u_CMD.ARM moves a halted unit to ARMED or WAIT. -/
def execCapArm (u : Fin 16) (s : State) : Out := s.actGated (CAP.UCMD u.val) (1) fun s => s.capCmdArm u.val

/-- CAP_DISARM (R623): CAP_u_CMD.DISARM moves the unit to HALT and discards pre-trigger rows. -/
def execCapDisarm (u : Fin 16) (s : State) : Out := s.actGated (CAP.UCMD u.val) (2) fun s => s.capCmdDisarm u.val

/-- CAP_ENABLE (R634): A write of EN = 1 checks the configuration and arms the unit, or is refused. -/
def execCapEnable (u : Fin 16) (value : Word) (s : State) : Out := s.actGated (CAP.UCFG u.val) (capEn true value.toNat) fun s => s.capCfgWrite u.val (capEn true value.toNat)

/-- CAP_DISABLE (R623): A write of EN = 0 turns the unit OFF and abandons a record in progress. -/
def execCapDisable (u : Fin 16) (value : Word) (s : State) : Out := s.actGated (CAP.UCFG u.val) (capEn false value.toNat) fun s => s.capCfgWrite u.val (capEn false value.toNat)

/-- CAP_RECORD_CLOSE (R624): After its last row and rewrite, a record writes its directory entry and advances WIDX. -/
def execCapRecordClose (u : Fin 16) (s : State) : Out := s.act fun s => s.recordClose u.val

/-- CAP_REARM (R630): A unit in WAIT enters ARMED once ring and directory space permit. -/
def execCapRearm (u : Fin 16) (s : State) : Out := s.act fun s => s.capRearm u.val

/-- CAP_RDPTR_WRITE (R631): A write of RDPTR releases ring space, or is refused. -/
def execCapRdptrWrite (u : Fin 16) (value : Word) (s : State) : Out := s.actGated (CAP.URDPTR u.val) (value.toNat) fun s => s.rdptrWrite u.val value.toNat

/-- CAP_RIDX_WRITE (R631): A write of RIDX releases directory entries, or is refused. -/
def execCapRidxWrite (u : Fin 16) (value : Word) (s : State) : Out := s.actGated (CAP.UDIRIDX u.val) (value.toNat) fun s => s.ridxWrite u.val value.toNat

end Sys2Proof.Machine
end

