-- ==== Sys2Proof/Machine/CycCmd.lean ====
section
/-!
DEFINITION. Machine/CycCmd.lean: the commands of tenants and the executives.
-/

namespace Sys2Proof.Machine

/-- A write to a guard's registers (R417). -/
def State.guardCfgWrite (s : State) : GuardWrite → State
  | .cfg g v => s.guardWrite g.val (CYC.GRDCFG g.val) v.toNat
  | .base g v => s.guardWrite g.val (CYC.GBASE g.val) v.toNat
  | .len g v => s.guardWrite g.val (CYC.GLEN g.val) v.toNat

/-- A write to a tenant's configuration (R425). -/
def State.tenantCfgWrite (s : State) : TenCfgWrite → State
  | .cfg t v => s.tenCfgWrite t.val (CYC.TCFG t.val) v.toNat
  | .groupsLo t v => s.tenCfgWrite t.val (CYC.TGRPLO t.val) v.toNat
  | .groupsHi t v => s.tenCfgWrite t.val (CYC.TGRPHI t.val) v.toNat


/-- TCMD_START (R388): TCMD START moves a STOPPED tenant to ACTIVE and clears RSTCNT. -/
def execTcmdStart (t : Fin 1024) (s : State) : Out := s.act fun s => s.tcmdStart t.val

/-- TCMD_STOP (R388): TCMD STOP moves an ACTIVE tenant to STOPPED when its dispatch ends. -/
def execTcmdStop (t : Fin 1024) (s : State) : Out := s.act fun s => s.tcmdStop t.val

/-- TCMD_RESET (R411): TCMD RESET starts a TNR of the tenant. -/
def execTcmdReset (t : Fin 1024) (restart : Bool) (s : State) : Out := s.act fun s => s.tcmdReset t.val restart

/-- TNR_COMPLETE (R411): A tenant reset completes and the tenant goes to ACTIVE or STOPPED. -/
def execTnrComplete (t : Fin 1024) (s : State) : Out := s.act fun s => if s.tenSt t.val = .resetting then s.tnrDone t.val else s

/-- TCMD_MOVE (R421): TCMD MOVE starts moving a tenant to another core, or is refused. -/
def execTcmdMove (t : Fin 1024) (core : Fin 64) (s : State) : Out := s.act fun s => s.tcmdMove t.val core.val

/-- MOVE_COMPLETE (R421): A move finishes copying scratch, rebinds the tenant and restores its previous state. -/
def execMoveComplete (t : Fin 1024) (s : State) : Out := s.act fun s => s.moveDone t.val

/-- TCMD_FCLEAR (R410): TCMD FCLEAR clears the tenant's fault record. -/
def execTcmdFclear (t : Fin 1024) (s : State) : Out := s.act fun s => s.tcmdFclear t.val

/-- TENANT_BIND (R388): A write of BIND.VALID = 1 takes a slot on the core and makes the tenant STOPPED. -/
def execTenantBind (t : Fin 1024) (core : Fin 64) (s : State) : Out := s.act fun s => s.tenantBind t.val core.val

/-- TENANT_UNBIND (R388): A write of BIND.VALID = 0 returns the tenant to EMPTY and disables its windows. -/
def execTenantUnbind (t : Fin 1024) (core : Fin 64) (s : State) : Out := s.act fun s => s.tenantUnbind t.val core.val

/-- WIN_READ (R398): A window READ copies a tenant window into WIN_D0–D3. -/
def execWinRead (t : Fin 1024) (w : Fin 16) (s : State) : Out := s.act fun s => s.winRead t.val w.val

/-- WIN_WRITE (R397): A window WRITE stores a tenant window or is refused with a code. -/
def execWinWrite (t : Fin 1024) (w : Fin 16) (s : State) : Out := s.act fun s => s.winWrite t.val w.val

/-- EVENT_POST (R405): A write of EVPOST_CTL posts a supervisory entry to a tenant's event queue. -/
def execEventPost (who : Requester) (t : Fin 1024) (s : State) : Out := s.actWrite who fun s => s.eventPost who t.val

/-- GUARD_HOLD_EXPIRE (R416): A guard held beyond HOLDLIM raises GUARD_HOLD on the holder. -/
def execGuardHoldExpire (g : Fin 4096) (s : State) : Out := s.act fun s => s.guardHoldOut g.val

/-- GUARD_CFG_WRITE (R417): A write to a guard's configuration is refused while held or when regions would overlap. -/
def execGuardCfgWrite (w : GuardWrite) (s : State) : Out := s.act fun s => s.guardCfgWrite w

/-- SUBL_WRITE (R400): A write to a subscription list entry in use by a running tenant is refused. -/
def execSublWrite (n : Fin 8192) (value : Word) (s : State) : Out := s.act fun s => s.sublWrite n.val value.toNat

/-- TENANT_SUB_WRITE (R399): A write of CYC_t_SUB takes effect at the next tick boundary. -/
def execTenantSubWrite (t : Fin 1024) (value : Word) (s : State) : Out := s.act fun s => s.plainWrite (CYC.TSUB t.val) value.toNat

/-- TENANT_CFG_WRITE (R425): A write of a tenant's CFG or guard groups is refused while ACTIVE or MOVING. -/
def execTenantCfgWrite (w : TenCfgWrite) (s : State) : Out := s.act fun s => s.tenantCfgWrite w

/-- OSQ_POP (R408): A read of OSQ_W3 removes the head of a tenant's supervisory queue. -/
def execOsqPop (who : Requester) (t : Fin 1024) (s : State) : Out := s.actFrom who fun s => s.osqPop who t.val

/-- DISPATCH_SELECT (R434): At a change of a core's ready set, a yield or a fault, the executive selects and starts or preempts a dispatch. -/
def execDispatchSelect (c : Fin 64) (restoreErr : Bool) (s : State) : Out := s.actSig fun s => s.selectOn c.val restoreErr

/-- BUDGET_EXHAUSTED (R446): A dispatch's budget reaches zero and the tenant faults with BUDGET. -/
def execBudgetExhausted (c : Fin 64) (s : State) : Out := s.actSig fun s => s.budgetOut c.val

/-- CYC_EN_WRITE (R58): A write of CYC_CTL.EN starts or stops dispatching by every executive. -/
def execCycEnWrite (en : Bool) (s : State) : Out := s.act fun s => s.setF CYC.CTL_EN (b2n en)

/-- CWD_START (R448): A write of 1 to CWD_EN starts the cluster watchdog. -/
def execCwdStart (s : State) : Out := s.act fun s => s.cwdStart

/-- CWD_KICK (R448): A kick pair restarts the cluster watchdog timer; a wrong value fires it. -/
def execCwdKick (value : Word) (s : State) : Out := s.act fun s => s.cwdKick (value.toNat % 65536)

/-- CWD_KICK_EXPIRE (R449): The cluster watchdog's kick timer expires. -/
def execCwdKickExpire (s : State) : Out := s.act fun s => s.cwdKickExpire

/-- CWD_STALL (R449): A core with a pending dispatch starts or ends none during TICKTO tick boundaries. -/
def execCwdStall (c : Fin 64) (s : State) : Out := s.act fun s => s.cwdStall c.val

/-- FRC_READ (R469): Force READ copies an entry to FRC_D0–D2. -/
def execFrcRead (i : Fin 65536) (s : State) : Out := s.act fun s => (s.frcOn i.val 1).frcRead i.val

/-- FRC_WRITE (R456): Force WRITE stores a force entry or is refused. -/
def execFrcWrite (i : Fin 65536) (s : State) : Out := s.act fun s => (s.frcOn i.val 2).frcWrite i.val

/-- FRC_DELETE (R455): Force DELETE clears a force entry. -/
def execFrcDelete (i : Fin 65536) (s : State) : Out := s.act fun s => (s.frcOn i.val 3).frcDelete i.val

/-- FRC_FIND (R456): Force FIND returns the index of the entry naming a point. -/
def execFrcFind (s : State) : Out := s.act fun s => (s.frcOp 4).frcFind

/-- FRC_CLEARALL (R469): Force CLEARALL clears every force entry within 70 µs. -/
def execFrcClearall (s : State) : Out := s.act fun s => (s.frcOp 5).frcClearAll

/-- XCHG_ARM (R460): ARM checks and arms an exchange, or switches images at once for a stopped tenant. -/
def execXchgArm (t : Fin 1024) (s : State) : Out := s.act fun s => s.xchgArm t.val

/-- XCHG_DISARM (R460): DISARM cancels an armed exchange. -/
def execXchgDisarm (t : Fin 1024) (s : State) : Out := s.act fun s => s.cancelXchg t.val

/-- XCHG_CARRY_OVER (R463): After the old image's last dispatch before XTICK, the carry map is applied and the active slot switches. -/
def execXchgCarryOver (t : Fin 1024) (s : State) : Out := s.actSig fun s => s.xchgCarryOver t.val

/-- PHX_COEF_WRITE (R525): A write of CYC_PHX_DIM stores a phasor coefficient and advances INDEX, or is refused for a locked set. -/
def execPhxCoefWrite (value : Word) (s : State) : Out := s.act fun s => s.phxWrite value.toNat

end Sys2Proof.Machine
end

