-- ==== Sys2Proof/Machine/Tap.lean ====
section
/-!
DEFINITION. Machine/Tap.lean: the test access port, the boundary scan register and the levels of the output balls (R760 to R762,
R751, R782, R788), and the accesses of DBGACC (R765, R766).
-/

namespace Sys2Proof.Machine

/-! ## The port -/

/-- The TAP answers: not in Calm, and not while POR holds it in Test-Logic-Reset (R742, R760). -/
def State.tapLive (s : State) : Bool := decide (s.sys.power ≠ .calm) && !(decide (s.sys.power = .held) && s.sys.porHeld)

/-- Change resets and power. -/
def State.onTap (s : State) (f : SysState → SysState) : State := { s with sys := f s.sys }

/-- Select an instruction (R761). -/
def State.tapSelect (s : State) (i : TapInstr) : State := if s.tapLive then s.onTap fun y => { y with tap := i } else s

/-- A cell of the boundary scan register enables a driver (R782). -/
def isControl (c : Nat) : Bool :=
  if c < 2 then false
  else if c < 26 then decide (c % 2 = 1)
  else if c < 30 then false
  else decide (c % 3 = 2)

/-- DBG_TRST_N is low (R760): Test-Logic-Reset selects IDCODE and sets every control cell to 0 (R782). -/
def State.tapReset (s : State) : State :=
  if s.sys.power = .calm then s
  else s.onTap fun y => { y with tap := .idcode, scan := y.scan.filter fun c => !isControl c }

/-- The identification register (R761): Rev. A, with SYS_DEVID.REV in [31:28]. -/
def State.idcode (s : State) : Nat := s.getF SYS.DEVID_REV * 2 ^ 28 + 0x44100B9

/-! ## Balls -/

/-- A lane's transmitter is on (R134, R751, R762). -/
def State.laneTx (s : State) (p : Nat) : Bool := (s.port p).txOn && s.awake && !s.sys.entering && !s.scanning

/-- The outputs follow the module's functions (R751): it runs or is in Lull, and no Calm entry is under way. -/
def State.drives (s : State) : Bool := s.awake && !s.sys.entering

/-- The level that a pair of scan cells gives a ball (R782). -/
def State.scanLevel (s : State) (out control : Nat) : Level3 :=
  if s.sys.scan.contains control then .ofBool (s.sys.scan.contains out) else .hiZ

/-- The level of an output ball with an output and a control cell, from its own source. -/
def State.ballLevel (s : State) (out control : Nat) (own : Level3) : Level3 :=
  match s.sys.tap with
  | .extest | .clamp => s.scanLevel out control
  | .highz => .hiZ
  | _ => own

/-- The ball SAFE_OUT[l] (R600, R601, R751, R788). -/
def State.safeOutBall (s : State) (l : Nat) : Level3 :=
  if ¬ s.sys.aonGood then .hiZ
  else s.ballLevel (2 + 2 * l) (3 + 2 * l) (if s.drives then s.safeOut l else .hiZ)

/-- The ball ALIVE (R602, R751). -/
def State.aliveBall (s : State) : Level3 := s.ballLevel 18 19 (.ofBool (s.drives && s.sys.power = .run && s.aliveLevel))

/-- The ball PPS_OUT (R82, R751). -/
def State.ppsOutBall (s : State) : Level3 := s.ballLevel 20 21 (.ofBool (s.drives && s.ppsLevel))

/-- The open-drain ball FORCE_ACT_N (R455, R603, R752): driven low, or released. -/
def State.forceActBall (s : State) : Level3 :=
  match s.sys.tap with
  | .extest | .clamp => if s.sys.scan.contains 1 then .hiZ else .low
  | .highz => .hiZ
  | _ => if s.drives && s.sys.aonGood && s.forceLamp then .low else .hiZ

/-! ## Boundary scan -/

/-- What the module drives into a cell that captures one of its own outputs; none for an input, and for the outputs of UART,
I2C and GPIO, of which the manual gives no source. -/
def State.cellDriven (s : State) (c : Nat) : Option Bool :=
  if c = 1 then some (!decide (s.forceActBall = .low))
  else if 2 ≤ c ∧ c < 18 then
    let x := s.safeOutBall ((c - 2) / 2)
    some (if c % 2 = 0 then decide (x = .high) else decide (x ≠ .hiZ))
  else if c = 18 then some (decide (s.aliveBall = .high))
  else if c = 20 then some (decide (s.ppsOutBall = .high))
  else if c = 19 ∨ c = 21 then some true
  else none

/-- Capture-DR of the boundary scan register: the balls, and what the module drives. -/
def State.scanCapture (s : State) (levels : Nat) : State :=
  let own (c : Nat) : Option Bool := if s.scanning then none else s.cellDriven c
  s.onTap fun y => { y with captured := (List.range 126).filter fun c => (own c).getD (bit levels c) }

/-- Update-DR of the boundary scan register. -/
def State.scanUpdate (s : State) (cells : Nat) : State :=
  s.onTap fun y => { y with scan := (List.range 126).filter fun c => bit cells c }

/-- What is done with the boundary scan register while an instruction that selects it stands. -/
def State.scanDo (s : State) (i : TapInstr) (op : ScanOp) : State :=
  if ¬ s.tapLive then s
  else
    let s := s.tapSelect i
    match op with
    | .capture l => s.scanCapture l.toNat
    | .update c => s.scanUpdate c.toNat

/-! ## DBGACC -/

/-- The address of a tenant's data: a window of the tenant holds it (R480). -/
def State.tenantHas (s : State) (t a n : Nat) : Bool :=
  (s.wins t).any fun w => rangesMeet (s.physIn t w w.lo) w.size a n

/-- The dirty lines of the tenants whose address space a debug read touches are written back (R480). -/
def State.dbgClean (s : State) (a n : Nat) : State :=
  (s.validTenants.filter fun t => s.tenantHas t a n).foldl (fun s t => s.cleanTenant t) s

/-- The requester port of the debug port (R652). -/
def dbgWho : MemWho := ⟨96, false, 0⟩

/-- The bytes of an access. -/
def DbgAcc.bytes (x : DbgAcc) : Nat := if x.wide then 8 else 4

/-- Make an access. -/
def State.dbgBus (s : State) (x : DbgAcc) : BusRes :=
  let n := x.bytes
  if ¬ s.awake then .wait
  else if x.addr % n ≠ 0 then .fault
  else if x.write then s.busWrite .debug x.addr n (x.data % 256 ^ n)
  else (if inRegSpace x.addr then s else s.dbgClean x.addr n).busRead .debug dbgWho x.addr n

/-- An access ends with a status. The manual gives no data for one that read nothing, nor the upper half of 32 bits read. -/
def State.dbgEnd (s : State) (st : DbgStatus) (read : Option (Nat × Nat)) : State :=
  let f := s.takeFree
  let v := match read with
    | some (x, n) => x + f.1 * 256 ^ n
    | none => f.1
  f.2.onDbg fun d => { d with run := none, status := st, data := v % 2 ^ 64 }

/-- Try the access that runs. -/
def State.dbgTry (s : State) (x : DbgAcc) : Out :=
  match s.dbgBus x with
  | .ok s v => .next (s.dbgEnd .ok (if x.write then none else some (v, x.bytes)))
  | .refused => .next (s.dbgEnd .error none)
  | .fault => .next (s.dbgEnd .error none)
  | .poison s => .next (s.dbgEnd .error none)
  | .wait => .next (s.onDbg fun d => { d with run := some x, status := .busy })
  | .broken r => .fault (.brokenMust r)

/-- The access that waited for memory is tried again; it is none of the register space. -/
def State.dbgRetry (s : State) : State :=
  match s.dbg.run with
  | none => s
  | some x => match s.dbgTry x with
    | .next t => t
    | _ => s

/-- An Update-DR of DBGACC with OP 1 to 4 (R763, R765, R766). -/
def State.dbgAccess (s : State) (x : DbgAcc) : Out :=
  if ¬ s.tapLive then .next s
  else if s.dbgLock = 3 then .next (s.tapSelect .bypass)
  else
    let s := (s.tapSelect .acc).dbgRetry
    if s.dbg.run.isSome then .next (s.onDbg fun d => { d with status := .busy })
    else if ¬ s.dbgOpen then .next (s.dbgEnd .locked none)
    else s.dbgTry x

/-- The instruction of DBGCHAL or DBGRESP, and what it does, where it is available (R761, R764). -/
def State.unlockDo (s : State) (i : TapInstr) (f : State → State) : State :=
  if ¬ s.tapLive then s
  else if s.awake && s.dbgLocked then f (s.tapSelect i)
  else s.tapSelect .bypass

/-! ## Core registers -/

/-- A read or a write of DBG_n_CREG_DATA (R772). -/
def State.cregAccess (s : State) (who : Requester) (n : Nat) (value : Option Nat) : State :=
  match value with
  | none => let r := s.cregRead n; r.1.respond who (.data r.2)
  | some v => (s.cregWrite n v).respond who .done

end Sys2Proof.Machine
end

