-- ==== Sys2Proof/Machine/DbgCmd.lean ====
section
/-!
DEFINITION. Machine/DbgCmd.lean: the commands of the debug port.
-/

namespace Sys2Proof.Machine


/-- TAP_RESET (R760): DBG_TRST_N low resets the TAP to Test-Logic-Reset. -/
def execTapReset (s : State) : Out := .next s.tapReset

/-- TAP_IDCODE (R761): IDCODE selects the identification register. -/
def execTapIdcode (s : State) : Out := .next (s.tapSelect .idcode)

/-- TAP_SAMPLE_PRELOAD (R761): SAMPLE/PRELOAD captures or loads the boundary scan register. -/
def execTapSamplePreload (op : ScanOp) (s : State) : Out := .next (s.scanDo .sample op)

/-- TAP_EXTEST (R762): EXTEST drives the balls from the boundary scan cells. -/
def execTapExtest (op : ScanOp) (s : State) : Out := .next (s.scanDo .extest op)

/-- TAP_CLAMP (R762): CLAMP holds the outputs from the scan cells with bypass selected. -/
def execTapClamp (s : State) : Out := .next (s.tapSelect .clamp)

/-- TAP_HIGHZ (R762): HIGHZ puts the scanned outputs at high impedance. -/
def execTapHighz (s : State) : Out := .next (s.tapSelect .highz)

/-- TAP_BYPASS (R761): BYPASS, or any instruction used outside its availability, selects the 1-bit bypass. -/
def execTapBypass (s : State) : Out := .next (s.tapSelect .bypass)

/-- DBG_READ32 (R766): DBGACC READ32 reads 32 bits at a physical address. -/
def execDbgRead32 (addr : BitVec 40) (s : State) : Out := s.dbgAccess ⟨false, false, addr.toNat, 0⟩

/-- DBG_WRITE32 (R766): DBGACC WRITE32 writes 32 bits at a physical address. -/
def execDbgWrite32 (addr : BitVec 40) (value : Word) (s : State) : Out := s.dbgAccess ⟨true, false, addr.toNat, value.toNat⟩

/-- DBG_READ64 (R766): DBGACC READ64 reads 64 bits at a physical address. -/
def execDbgRead64 (addr : BitVec 40) (s : State) : Out := s.dbgAccess ⟨false, true, addr.toNat, 0⟩

/-- DBG_WRITE64 (R766): DBGACC WRITE64 writes 64 bits at a physical address. -/
def execDbgWrite64 (addr : BitVec 40) (value : DWord) (s : State) : Out := s.dbgAccess ⟨true, true, addr.toNat, value.toNat⟩

/-- DBG_CHALLENGE (R764): A Capture-DR of DBGCHAL forms a new unlock challenge. -/
def execDbgChallenge (s : State) : Out := .next (s.unlockDo .chal (·.dbgChallenge))

/-- DBG_RESPONSE (R764): An Update-DR of DBGRESP submits a response that unlocks debug or fails. -/
def execDbgResponse (response : BitVec 256) (s : State) : Out := .next (s.unlockDo .resp (·.dbgResponse response.toNat))

/-- DBG_CHAL_HOLDOFF_END (R764): 1 s after a failed submission, DBGCHAL may form a new challenge. -/
def execDbgChalHoldoffEnd (s : State) : Out := .next (s.onDbg fun d => { d with holdoff := false })

/-- DBG_HALT (R768): DBG_n_CTL.HALT stops a core at its next interrupt point. -/
def execDbgHalt (n : Fin 68) (s : State) : Out := s.act fun s => s.dbgHalt n.val

/-- DBG_RESUME (R768): DBG_n_CTL.RESUME continues a halted core. -/
def execDbgResume (n : Fin 68) (s : State) : Out := s.act fun s => s.dbgResume n.val

/-- DBG_STEP (R768): DBG_n_CTL.STEP executes one instruction and halts again. -/
def execDbgStep (n : Fin 68) (s : State) : Out := s.act fun s => s.dbgStep n.val

/-- BREAKPOINT_HIT (R771): An instruction breakpoint matches and the core halts before the instruction. -/
def execBreakpointHit (n : Fin 68) (s : State) : Out := s.act fun s => s.breakpointHit n.val

/-- CREG_ACCESS (R772): A read or write of DBG_n_CREG_DATA accesses a halted core's register. -/
def execCregAccess (who : Requester) (n : Fin 68) (value : Option DWord) (s : State) : Out := if value.isSome then s.actWrite who fun s => s.cregAccess who n.val (value.map BitVec.toNat) else s.actFrom who fun s => s.cregAccess who n.val (value.map BitVec.toNat)

/-- DEBUG_RESET (R773): A write of the key to DBG_RST gives DBR. -/
def execDebugReset (key : BitVec 16) (s : State) : Out := s.act fun s => s.dbgRstWrite key.toNat

/-- DBG_AUTH_WRITE (R775): A Platform write of DBG_AUTH sets the authorising slot once. -/
def execDbgAuthWrite (who : Requester) (value : Word) (s : State) : Out := s.actWrite who fun s => s.dbgAuthWrite who value.toNat

end Sys2Proof.Machine
end

