-- ==== Sys2Proof/Machine/Copy.lean ====
section
/-!
DEFINITION. Machine/Copy.lean: copy descriptors and the funnel (R673 to R681).
-/

namespace Sys2Proof.Machine

/-! ## The descriptor -/

/-- The fields of a copy descriptor (R673). -/
structure CopyDesc where
  op : Nat
  swap : Nat
  len : Nat
  src : Nat
  dst : Nat
  swrap : Nat
  dwrap : Nat
  deriving DecidableEq, Repr

/-- The fields of a descriptor's bytes (R673). -/
def copyDesc (b : List Byte) : CopyDesc :=
  let w := wordAt b
  { op := bits (w 0) 3 0, swap := bits (w 0) 9 8, len := bits (w 1) 30 0, src := bits (w 3) 7 0 * 2 ^ 32 + w 2,
    dst := bits (w 5) 7 0 * 2 ^ 32 + w 4, swrap := bits (w 6) 4 0, dwrap := bits (w 6) 12 8 }

/-- The unit of a swap in bytes (R674). -/
def swapUnit : Nat → Nat
  | 0 => 1 | 1 => 2 | _ => 4

/-- A wrap field that R673 lists; 31 is not listed either. -/
def wrapOk (w : Nat) : Bool := w = 0 || decide (8 ≤ w ∧ w ≤ 30)

/-- A transfer fits its side (R678). -/
def wrapHolds (w len : Nat) : Bool := w = 0 || decide (len ≤ 2 ^ w)

/-- The bytes that a side occupies: first address and size (R680). -/
def occupied (a w len : Nat) : Nat × Nat := if w = 0 then (a, len) else (a / 2 ^ w * 2 ^ w, 2 ^ w)

/-- Source and destination meet (R679, R680). -/
def CopyDesc.meets (d : CopyDesc) : Bool :=
  let x := occupied d.src d.swrap d.len
  let y := occupied d.dst d.dwrap d.len
  rangesMeet x.1 x.2 y.1 y.2

/-- A side in the register space breaks R676. -/
def regMisaligned (a len : Nat) : Bool := inRegSpace a && (decide (a % 4 ≠ 0) || decide (len % 4 ≠ 0))

/-- The error that a descriptor has before any byte moves (R681); none where it may run. -/
def CopyDesc.error (d : CopyDesc) : Option DmvErr :=
  if d.op ≠ 1 then some .desc
  else if d.len = 0 ∨ 2 ^ 30 < d.len ∨ ¬ wrapOk d.swrap ∨ ¬ wrapOk d.dwrap ∨ d.len % swapUnit d.swap ≠ 0 ∨
      ¬ wrapHolds d.swrap d.len ∨ ¬ wrapHolds d.dwrap d.len then some .len
  else if (d.swrap ≠ 0 ∨ d.dwrap ≠ 0) ∧ d.meets then some .overlap
  else if regMisaligned d.src d.len ∨ regMisaligned d.dst d.len then some .regAlign
  else none

/-- The copy runs from the last byte down (R679). -/
def CopyDesc.down (d : CopyDesc) : Bool := d.swrap = 0 && d.dwrap = 0 && d.meets && decide (d.src < d.dst)

/-! ## Beats -/

/-- The accesses that cover a range in rising order (R675, R676): 32-byte beats, or words in the register space. -/
def beatsOf (a n : Nat) : List (Nat × Nat) :=
  if n = 0 then []
  else
    let g := if inRegSpace a then 4 else 32
    (List.range ((a + n - 1) / g + 1 - a / g)).map fun i =>
      let lo := max a ((a / g + i) * g)
      (lo, min (a + n) ((a / g + i + 1) * g) - lo)

/-- The accesses of a side (R678): a circular one goes on at its region's first byte. -/
def sideBeats (a w len : Nat) : List (Nat × Nat) :=
  if w = 0 then beatsOf a len
  else
    let base := a / 2 ^ w * 2 ^ w
    let first := min len (base + 2 ^ w - a)
    beatsOf a first ++ beatsOf base (len - first)

/-- The bytes of whole units, swapped (R674). -/
def swapBytes (swap : Nat) : List Byte → List Byte
  | a :: b :: c :: d :: r =>
    match swap with
    | 0 => a :: b :: c :: d :: swapBytes swap r
    | 1 => b :: a :: d :: c :: swapBytes swap r
    | 2 => d :: c :: b :: a :: swapBytes swap r
    | _ => c :: d :: a :: b :: swapBytes swap r
  | [a, b] => if swap = 1 then [b, a] else [a, b]
  | r => r

/-! ## The funnel -/

/-- What stands in the funnel: accesses still to read, bytes of an incomplete unit, and bytes ready to be written. Both byte
lists run in the direction of the copy. -/
structure Funnel where
  srcs : List (Nat × Nat)
  raw : List Byte
  ready : List Byte
  deriving DecidableEq, Repr

/-- How a part of a copy ended. -/
inductive FunnelRes where
  | ok (s : State) (f : Funnel)
  | err (s : State) (e : DmvErr)
  | wait
  deriving DecidableEq, Repr

/-- Bytes in the direction of the copy. -/
def turned (down : Bool) (b : List Byte) : List Byte := if down then b.reverse else b

/-- Read on until `n` bytes are ready. -/
def State.funnelFill (s : State) (m swap : Nat) (down : Bool) (n : Nat) (raw ready : List Byte) : List (Nat × Nat) → FunnelRes
  | [] => .ok s ⟨[], raw, ready⟩
  | (a, k) :: rest =>
    if n ≤ ready.length then .ok s ⟨(a, k) :: rest, raw, ready⟩
    else match s.busRead (.mover (Fin.ofNat 16 m)) (moverWho m) a k with
      | .ok s v =>
        let raw := raw ++ turned down (leBytes k v)
        let whole := raw.length / swapUnit swap * swapUnit swap
        s.funnelFill m swap down n (raw.drop whole) (ready ++ swapBytes swap (raw.take whole)) rest
      | .poison s => .err s .poison
      | .wait => .wait
      | .refused | .fault | .broken _ => .err s .access

/-- How a copy ended: its error and the bytes written. -/
inductive CopyRes where
  | ended (s : State) (err moved : Nat)
  | wait
  deriving DecidableEq, Repr

/-- Write the destination beat by beat, reading as far as each one needs (R675). -/
def State.copyBeats (s : State) (m swap : Nat) (down : Bool) (moved : Nat) (f : Funnel) : List (Nat × Nat) → CopyRes
  | [] => .ended s 0 moved
  | (a, k) :: rest =>
    match s.funnelFill m swap down k f.raw f.ready f.srcs with
    | .wait => .wait
    | .err s e => .ended s e.num moved
    | .ok s f =>
      match s.busWrite (.mover (Fin.ofNat 16 m)) a k (ofLe (turned down (f.ready.take k))) with
      | .ok s _ => s.copyBeats m swap down (moved + k) { f with ready := f.ready.drop k } rest
      | .wait => .wait
      | .poison s => .ended s DmvErr.access.num moved
      | .refused | .fault | .broken _ => .ended s DmvErr.access.num moved

/-- Move the bytes of a descriptor. -/
def State.copyRun (s : State) (m : Nat) (d : CopyDesc) : CopyRes :=
  let order (l : List (Nat × Nat)) : List (Nat × Nat) := if d.down then l.reverse else l
  s.copyBeats m d.swap d.down 0 ⟨order (sideBeats d.src d.swrap d.len), [], []⟩ (order (sideBeats d.dst d.dwrap d.len))

/-- The descriptor in progress of a mover, which is busy until it completes. -/
def State.setJob (s : State) (m err moved : Nat) : State :=
  (s.onMover m fun x => { x with job := some ⟨err, moved⟩ }).setMoverSt m 2

/-- A COPY mover takes the descriptor at HEAD and moves its bytes. -/
def State.moverCopy (s : State) (m : Nat) : State :=
  if ¬ s.moverRuns m 0 ∨ s.moverOwns m = 0 ∨ (s.mover m).job.isSome then s
  else match s.readDescs m (fun _ => false) 1 (s.rd (DMV.MHEAD m)) with
    | .wait => s
    | .bad s _ => s.setJob m DmvErr.desc.num 0
    | .ok s' ds =>
      let d := copyDesc (ds.headD [])
      match d.error with
      | some e => s'.setJob m e.num 0
      | none => match s'.copyRun m d with
        | .wait => s
        | .ended s err moved => s.setJob m err moved

/-- A write of EN = 0 (R683). -/
def State.moverDisable (s : State) (m : Nat) : State := s.mcfgWrite m (putBits (s.rd (DMV.MCFG m)) 31 31 0)

end Sys2Proof.Machine
end

