-- ==== Sys2Proof/Machine/DmvCmd.lean ====
section
/-!
DEFINITION. Machine/DmvCmd.lean: the commands of the data movers.
-/

namespace Sys2Proof.Machine


/-- DMV_TAIL_WRITE (R669): A write of TAIL hands descriptors to the mover, or is refused. -/
def execDmvTailWrite (m : Fin 16) (value : Word) (s : State) : Out := s.act fun s => s.tailWrite m.val value.toNat

/-- DMV_COPY (R673): A mover takes a copy descriptor and moves its bytes through the funnel. -/
def execDmvCopy (m : Fin 16) (s : State) : Out := s.act fun s => s.moverCopy m.val

/-- DMV_DESC_COMPLETE (R682): A descriptor completes with write-back of BYTES and DONE, and an error halts the mover. -/
def execDmvDescComplete (m : Fin 16) (s : State) : Out := s.act fun s => s.descComplete m.val

/-- DMV_RESUME (R682): DMV_m_CMD.RESUME restarts a halted mover at HEAD. -/
def execDmvResume (m : Fin 16) (s : State) : Out := s.act fun s => s.moverResume m.val

/-- DMV_DISABLE (R683): A write of EN = 0 ends the mover after the burst in progress. -/
def execDmvDisable (m : Fin 16) (s : State) : Out := s.act fun s => s.moverDisable m.val

/-- DMV_RX_FRAME (R686): An RXH mover places a HOST frame into receive buffers and writes back its descriptors. -/
def execDmvRxFrame (m : Fin 16) (s : State) : Out := s.act fun s => s.rxPlace m.val

/-- DMV_TX_FRAME (R689): A TXH mover reads a frame's buffers and passes it to SWC on HOST. -/
def execDmvTxFrame (m : Fin 16) (s : State) : Out := s.act fun s => s.txPlace m.val

/-- DMV_CNT_CLR (R691): DMV_CMD.CNT_CLR zeroes every DMV counter. -/
def execDmvCntClr (s : State) : Out := s.act fun s => s.dmvCntClr

end Sys2Proof.Machine
end

