-- ==== Sys2Proof/Machine/EventCmd.lean ====
section
/-!
DEFINITION. Machine/EventCmd.lean: the commands that several blocks act on.
-/

namespace Sys2Proof.Machine


/-- ANGLE_TICK (R103): The angle counter crosses a tick boundary and TAB raises tick k with its TOD. -/
def execAngleTick (s : State) : Out := s.act fun s => s.angleTick

/-- COMPARATOR_FIRE (R105): An angle-event comparator reaches its target, records EVTS, sets CMPST and delivers to its destination. -/
def execComparatorFire (c : Fin 256) (s : State) : Out := s.act fun s => s.comparatorFire c.val

/-- COMPARATOR_WRITE (R108): A write of a comparator's TARGET or CFG re-arms it and clears LATE. -/
def execComparatorWrite (c : Fin 256) (w : CmpWrite) (s : State) : Out := s.act fun s => match w with
  | .target v => s.comparatorWrite c.val (TAB.TARGET c.val) v.toNat
  | .cfg v => s.comparatorWrite c.val (TAB.CCFG c.val) v.toNat

/-- INTERNAL_EGRESS (R196): INGEST or HOST egress hands a frame to its consumer by strict priority once a credit is returned. -/
def execInternalEgress (host : InnerRead) (s : State) : Out := s.act fun s => s.internalEgress host.host host.parityErr

/-- PPS_OUT_EDGE (R82): PPS_OUT rises at each whole second or cycle boundary by PPSOUT_MODE, for PPSOUT_WIDTH µs. -/
def execPpsOutEdge (s : State) : Out := s.act fun s => s.ppsOutEdge

/-- GCL_ENTRY_END (R170): A gate list entry's TIME expires and the next entry's gates take effect. -/
def execGclEntryEnd (p : Fin 10) (s : State) : Out := s.act fun s => s.gclEntryEnd p.val

/-- GCL_CYCLE_START (R171): A PTP-anchored gate list starts a cycle at entry 0. -/
def execGclCycleStart (p : Fin 10) (e : Fin 2) (s : State) : Out := s.act fun s => s.gclCycleStart p.val e.val

/-- TX_FRAME_START (R168): Transmission selection starts the next frame from the highest eligible class whose gate is open and whose frame fits. -/
def execTxFrameStart (p : TxRead) (s : State) : Out := s.act fun s => s.frameStart p.port.val p.parityErr

/-- RING_FORWARD (R270): A ring frame is forwarded cut-through to the other ring port once the egress is free and its gate allows it. -/
def execRingForward (p : Fin 10) (s : State) : Out := s.act fun s => s.ringForward p.val

/-- RESAMPLE_OUTPUT (R366): Once every decimator output it reads is present, an output sample is computed and written to the windows. -/
def execResampleOutput (st : Fin 2048) (s : State) : Out := s.actSig fun s => s.outputSample st.val

/-- FILL_DEADLINE (R326): A stream's fill deadline passes undelivered, and the stage predicts or invalidates the samples up to the need instant. -/
def execFillDeadline (st : Fin 2048) (tick : Word) (s : State) : Out := s.actSig fun s => s.deadlinePasses st.val (s.tickIdx tick.toNat)

/-- HORIZON_FREEZE (R332): A predicted or missing sample whose horizon passes is frozen. -/
def execHorizonFreeze (st : Fin 2048) (tick : Word) (s : State) : Out := s.actSig fun s => s.horizonPasses st.val (s.tickIdx tick.toNat)

/-- TICK_READY (R38): SVC declares tick k ready for a tenant once its streams have delivered or been filled and written. -/
def execTickReady (t : Fin 1024) (tick : Word) (s : State) : Out := s.actSig fun s => s.tickReady t.val (s.tickIdx tick.toNat)

end Sys2Proof.Machine
end

