-- ==== Sys2Proof/Machine/Alu.lean ====
section
/-!
DEFINITION. Machine/Alu.lean: the integer core's results: ALU, ALUW, SHI, MULDIV, compares and atomics (R488 to R496, R503). A
result is a number below 2^64; none is an FN that no table lists.
-/

namespace Sys2Proof.Machine

/-- The low bits of an operand, by width. -/
def lowBits (w v : Nat) : Nat := v % 2 ^ w

/-- A result of `w` bits in a 64-bit register: sign-extended (R488). -/
def toReg (w v : Nat) : Nat := if w = 64 then v % 2 ^ 64 else ofSigned 64 (toSigned w v)

/-- Leading zeros of `w` bits. -/
def clz (w v : Nat) : Nat := if v = 0 then w else w - 1 - Nat.log2 v

/-- Trailing zeros of `w` bits. -/
def ctz (w v : Nat) : Nat := ((List.range w).find? fun i => bit v i).getD w

/-- Set bits of `w` bits. -/
def popc (w v : Nat) : Nat := ((List.range w).filter fun i => bit v i).length

/-- Shift left within `w` bits. -/
def shiftLeft (w v n : Nat) : Nat := v * 2 ^ n % 2 ^ w

/-- Arithmetic right shift within `w` bits. -/
def shiftSar (w v n : Nat) : Nat := ofSigned w (sarInt (toSigned w v) n)

/-- Rotate right within `w` bits. -/
def rotateRight (w v n : Nat) : Nat := (v / 2 ^ n + v * 2 ^ (w - n)) % 2 ^ w

/-- ALU and ALUW (R488, R489): the result in `w` bits. -/
def aluOp (w fn a b rb : Nat) : Option Nat :=
  let a := lowBits w a
  let b := lowBits w b
  let n := b % w
  let sa := toSigned w a
  let sb := toSigned w b
  let one (v : Nat) : Option Nat := if rb = 0 then some v else none
  match fn with
  | 0x00 => some ((a + b) % 2 ^ w)
  | 0x01 => some (ofSigned w (a - b))
  | 0x02 => some (a &&& b)
  | 0x03 => some (a ||| b)
  | 0x04 => some (a ^^^ b)
  | 0x05 => some (a - (a &&& b))
  | 0x06 => some (shiftLeft w a n)
  | 0x07 => some (a / 2 ^ n)
  | 0x08 => some (shiftSar w a n)
  | 0x09 => some (rotateRight w a n)
  | 0x0A => some (ofSigned w (min sa sb))
  | 0x0B => some (ofSigned w (max sa sb))
  | 0x0C => some (min a b)
  | 0x0D => some (max a b)
  | 0x0E => some (ofSigned w (clampSigned w (sa + sb)))
  | 0x0F => some (ofSigned w (clampSigned w (sa - sb)))
  | 0x10 => one (clz w a)
  | 0x11 => one (ctz w a)
  | 0x12 => one (popc w a)
  | 0x13 => one (ofLe ((leBytes (w / 8) a).reverse))
  | 0x14 => one (ofSigned w sa.natAbs)
  | _ => none

/-- SHI (R490): the result in a register. -/
def shiOp (imm a : Nat) : Option Nat :=
  let wide := !bit imm 8
  let w := if wide then 64 else 32
  let n := bits imm 5 0
  if bits imm 11 9 ≠ 0 ∨ (¬ wide ∧ bit imm 5) then none
  else
    let a := lowBits w a
    some (toReg w (match bits imm 7 6 with
      | 0 => shiftLeft w a n
      | 1 => a / 2 ^ n
      | 2 => shiftSar w a n
      | _ => rotateRight w a n))

/-- Signed division, rounding toward zero (R492). -/
def divSigned (w a b : Nat) : Nat :=
  if b = 0 then 2 ^ w - 1 else ofSigned w ((toSigned w a).tdiv (toSigned w b))

/-- Signed remainder, with the sign of the dividend (R492). -/
def remSigned (w a b : Nat) : Nat := if b = 0 then a else ofSigned w ((toSigned w a).tmod (toSigned w b))

/-- Unsigned division (R492). -/
def divUnsigned (w a b : Nat) : Nat := if b = 0 then 2 ^ w - 1 else a / b

/-- Unsigned remainder (R492). -/
def remUnsigned (a b : Nat) : Nat := if b = 0 then a else a % b

/-- MULDIV (R491): the result in a register. -/
def mulDiv (fn a b : Nat) : Option Nat :=
  let x := lowBits 32 a
  let y := lowBits 32 b
  match fn with
  | 0x00 => some (a * b % 2 ^ 64)
  | 0x01 => some (ofSigned 64 (sarInt (toSigned 64 a * toSigned 64 b) 64))
  | 0x02 => some (a * b / 2 ^ 64)
  | 0x03 => some (toReg 32 (x * y % 2 ^ 32))
  | 0x04 => some (divSigned 64 a b)
  | 0x05 => some (divUnsigned 64 a b)
  | 0x06 => some (remSigned 64 a b)
  | 0x07 => some (remUnsigned a b)
  | 0x08 => some (toReg 32 (divSigned 32 x y))
  | 0x09 => some (toReg 32 (divUnsigned 32 x y))
  | 0x0A => some (toReg 32 (remSigned 32 x y))
  | 0x0B => some (toReg 32 (remUnsigned x y))
  | _ => none

/-- A condition of R494 on two 64-bit numbers. -/
def condOf (cond a b : Nat) : Option Bool :=
  let sa := toSigned 64 a
  let sb := toSigned 64 b
  match cond with
  | 0 => some (decide (a = b))
  | 1 => some (decide (a ≠ b))
  | 2 => some (decide (sa < sb))
  | 3 => some (decide (sb ≤ sa))
  | 4 => some (decide (a < b))
  | 5 => some (decide (b ≤ a))
  | 6 => some (decide (sa ≤ sb))
  | 7 => some (decide (sb < sa))
  | 8 => some (decide (a ≤ b))
  | 9 => some (decide (b < a))
  | 10 => some (decide (a &&& b ≠ 0))
  | 11 => some (decide (a &&& b = 0))
  | _ => none

/-- A condition reads its operands as signed. -/
def condSigned (cond : Nat) : Bool := decide (cond = 2 ∨ cond = 3 ∨ cond = 6 ∨ cond = 7)

/-- CMP's condition (R495). -/
def cmpCond (fn a b : Nat) : Option Bool :=
  let cond := bits fn 3 0
  if bits fn 6 5 ≠ 0 then none
  else if bit fn 4 then
    if condSigned cond then condOf cond (toReg 32 a) (toReg 32 b) else condOf cond (lowBits 32 a) (lowBits 32 b)
  else condOf cond a b

/-- CMPI's condition (R495). -/
def cmpiCond (cond imm8 a : Nat) : Option Bool := condOf cond a (ofSigned 64 (toSigned 8 imm8))

/-- How a condition enters its predicate (R494). -/
def combine (cm : Nat) (old new : Bool) : Option Bool :=
  match cm with
  | 0 => some new
  | 1 => some (old && new)
  | 2 => some (old || new)
  | _ => none

/-- The new memory value of an atomic (R503), in `w` bits; the inner option is empty when memory stays unchanged. -/
def atomOp (w op old rb rd : Nat) : Option (Option Nat) :=
  let b := lowBits w rb
  let so := toSigned w old
  let sb := toSigned w b
  match op with
  | 0 => some (some b)
  | 1 => some (if old = lowBits w rd then some b else none)
  | 2 => some (some ((old + b) % 2 ^ w))
  | 3 => some (some (old &&& b))
  | 4 => some (some (old ||| b))
  | 5 => some (some (old ^^^ b))
  | 6 => some (some (ofSigned w (min so sb)))
  | 7 => some (some (ofSigned w (max so sb)))
  | 8 => some (some (min old b))
  | 9 => some (some (max old b))
  | _ => none

end Sys2Proof.Machine
end

