-- ==== Sys2Proof/Machine/Sup.lean ====
section
/-!
DEFINITION. Machine/Sup.lean: what a supervisory core reaches: translation (R550 to R553), its caches (R554), its accesses (R556)
and synchronous traps (R546 to R549).
-/

namespace Sys2Proof.Machine

/-! ## Traps -/

/-- Codes of the causes that only the supervisory profile has (R549). -/
def causeNoMap : Nat := 0x34
def causePagePerm : Nat := 0x35
def causeFormat : Nat := 0x36
def causeUpcall : Nat := 0x30

/-- A synchronous trap of core `c` (R546, R547, R549), with the return address it saves. -/
def State.trapTo (s : State) (c rpc cause addr : Nat) : State :=
  let up := decide (causeUpcall ≤ cause ∧ cause < causeUpcall + 3)
  s.supEnter c (trapLevel (s.supc c).lvl up) rpc cause addr (causeVector cause)

/-- A synchronous trap at the instruction that core `c` stands at. -/
def State.trapHere (s : State) (c cause addr : Nat) : State := s.trapTo c (s.supc c).regs.pc.toNat cause addr

/-! ## Translation -/

/-- What an access asks of a page (R552). A cache operation on a line asks nothing but that the page is the level's to use. -/
inductive PageUse where
  | fetch | load | store | atomic | line
  deriving DecidableEq, Repr

/-- How an access reaches memory (R551, R554, R556). -/
inductive MemType where
  | normal | uncached | device
  deriving DecidableEq, Repr

/-- MT of a leaf entry. -/
def MemType.ofNum : Nat → MemType
  | 0 => .normal | 1 => .uncached | _ => .device

/-- What translating an address came to: a physical address with its type, a cause, or a table that does not answer yet. -/
inductive Xlate where
  | at_ (s : State) (p : Nat) (mt : MemType)
  | fault (s : State) (cause : Nat)
  | wait
  deriving DecidableEq, Repr

/-- What a walk came to: the leaf and the bits of an address that it leaves alone. -/
inductive Walk where
  | leaf (s : State) (e size : Nat)
  | fault (s : State) (cause : Nat)
  | wait
  deriving DecidableEq, Repr

/-- A supervisory core as a requester of memory (R652). -/
def supWho (c : Nat) : MemWho := ⟨92 + c, false, 0⟩

/-- One table entry (R551): none where it leads on to the next level. `n` levels follow. -/
def leafCause (e n : Nat) : Option Nat :=
  if ¬ bit e 0 then some causeNoMap
  else if bits e 8 7 = 3 then some causeFormat
  else if bit e 1 then (if n = 0 then some causeFormat else none)
  else if 2 ≤ n ∨ (n = 1 ∧ bits e 20 12 ≠ 0) then some causeFormat
  else none

/-- The walk of the last `n` levels from a table (R551, R553). -/
def State.walk (s : State) (c va : Nat) : Nat → Nat → Walk
  | 0, _ => .fault s causeNoMap
  | n + 1, table =>
    let lo := 12 + 9 * n
    let a := table + 8 * bits va (lo + 8) lo
    if inRegSpace a then .fault s causePerm
    else match s.physLoad (supWho c) a 8 with
      | .fault => .fault s causeNoWin
      | .poison s => .fault s causeEcc
      | .wait => .wait
      | .ok s b =>
        let e := ofLe b
        match leafCause e n with
        | some x => .fault s x
        | none => if bit e 1 then s.walk c va n (bits e 39 12 * 4096) else .leaf s e lo

/-- The space tag in effect (R545). -/
def SupCore.stag (k : SupCore) : Nat := bits k.xroot.toNat 63 48

/-- A cached translation serves an address (R553). -/
def TlbEntry.serves (e : TlbEntry) (stag va : Nat) : Bool :=
  decide (va / 2 ^ e.size = e.va) && (bit e.leaf 6 || decide (e.stag = stag))

/-- Keep a translation (R553): of a full cache, the one that leaves is open. -/
def State.tlbPut (s : State) (c : Nat) (e : TlbEntry) : State :=
  if (s.supc c).tlb.length < 128 then s.onSup c fun k => { k with tlb := e :: k.tlb }
  else
    let f := s.takeFree
    f.2.onSup c fun k => { k with tlb := e :: k.tlb.eraseIdx (f.1 % 128) }

/-- The leaf that serves a virtual address, from the cache or by a walk (R551, R553). -/
def State.leafOf (s : State) (c va : Nat) : Walk :=
  let k := s.supc c
  match k.tlb.find? fun e => e.serves k.stag va with
  | some e => .leaf s e.leaf e.size
  | none =>
    match s.walk c va 4 (bits k.xroot.toNat 39 12 * 4096) with
    | .leaf s e size => .leaf (s.tlbPut c ⟨k.stag, va / 2 ^ size, size, e⟩) e size
    | r => r

/-- A leaf permits a use at a level (R552). -/
def leafPermits (l : Level) (u : PageUse) (e : Nat) : Bool :=
  (decide (l ≠ .app) || bit e 5) &&
    (match u with
      | .fetch => bit e 4 && !(decide (l = .kernel) && bit e 5)
      | .load => bit e 2
      | .store => bit e 3
      | .atomic => bit e 2 && bit e 3
      | .line => true)

/-- The boot ROM's window (R47). -/
def inBootRom (a : Nat) : Bool := decide (0x3FFFF00000 ≤ a ∧ a < 0x4000000000)

/-- The type of an untranslated access (R554). -/
def plainType (p : Nat) : MemType := if inRegSpace p ∨ inBootRom p then .device else .normal

/-- A 48-bit virtual address in 64 bits: bits [63:47] agree (R550). -/
def canonical (va : Nat) : Bool := decide (bits va 63 47 = 0 ∨ bits va 63 47 = 2 ^ 17 - 1)

/-- Translate an address of core `c` (R550 to R553). -/
def State.xlate (s : State) (c va : Nat) (u : PageUse) : Xlate :=
  let k := s.supc c
  if k.lvl = .platform ∨ ¬ k.xen then
    if va < 2 ^ 40 then .at_ s va (plainType va) else .fault s causeNoWin
  else if ¬ canonical va then .fault s causeNoMap
  else
    let v := va % 2 ^ 48
    match s.leafOf c v with
    | .leaf s e size =>
      if leafPermits k.lvl u e then .at_ s (bits e 39 12 * 4096 + v % 2 ^ size) (.ofNum (bits e 8 7))
      else .fault s causePagePerm
    | .fault s x => .fault s x
    | .wait => .wait

/-! ## Caches -/

/-- A line of the D-cache, brought in where it is not there (R554); none: a poisoned beat, or memory that does not answer. -/
inductive LineRes where
  | ok (s : State) (x : CLine)
  | poison (s : State)
  | wait
  deriving DecidableEq, Repr

/-- Change the D-caches of the supervisory cores. -/
def State.onSupLines (s : State) (f : List CLine → List CLine) : State := { s with sup := { s.sup with dl := f s.sup.dl } }

/-- Write back a line if it is dirty (R554, R555). -/
def State.supClean (s : State) (line : Nat) : State :=
  match cacheFind s.sup.dl line with
  | some x =>
    if x.dirty then
      let s := match s.physStore (line * 64) x.bytes with
        | .ok s _ => s
        | _ => s
      s.onSupLines fun ls => ls.map fun y => if y.line = line then { y with dirty := false } else y
    else s
  | none => s

/-- Discard a line without write-back (R555). -/
def State.supDrop (s : State) (line : Nat) : State := s.onSupLines fun ls => ls.filter fun y => y.line ≠ line

/-- Lines of a 64 KiB cache (R554). -/
def supLines : Nat := 1024

/-- Room for one line more that core `c` brings into the D-caches (R554): of a full cache, the line that leaves is open. -/
def State.supRoom (s : State) (c : Nat) : State :=
  let mine := s.sup.dl.filter fun x => x.burgee = c
  if mine.length < supLines then s
  else
    let f := s.takeFree
    match mine[f.1 % mine.length]? with
    | some v => (f.2.supClean v.line).supDrop v.line
    | none => s

/-- Keep a line in the I-cache of core `c` (R554): of a full one, the line that leaves is open. -/
def State.supKeepI (s : State) (c : Nat) (x : CLine) : State :=
  let ls := (s.supc c).il
  if ls.length < supLines then s.onSup c fun k => { k with il := x :: k.il }
  else
    let f := s.takeFree
    f.2.onSup c fun k => { k with il := x :: ls.eraseIdx (f.1 % ls.length) }

/-- Bring a line into the coherent D-caches (R554). -/
def State.supLine (s : State) (c line : Nat) : LineRes :=
  match cacheFind s.sup.dl line with
  | some x => .ok s x
  | none =>
    match s.physLoad (supWho c) (line * 64) 64 with
    | .ok s b =>
      let x : CLine := ⟨line, b, false, [], false, false, c⟩
      .ok ((s.supRoom c).onSupLines (x :: ·)) x
    | .poison s => .poison s
    | .wait | .fault => .wait

/-- A physical address goes through the D-cache: normal memory that something stands behind. -/
def cacheable (p : Nat) (mt : MemType) : Bool :=
  decide (mt = .normal) && !(decide (physRegion p = some .scratch) && scratchHole p)

/-! ## Accesses -/

/-- How an access of a core ended. -/
inductive MemRes where
  | ok (s : State) (bytes : List Byte)
  | fault (s : State) (cause addr : Nat)
  | wait
  deriving DecidableEq, Repr

/-- What the register space answered, as a core sees it (R53, R556). -/
def State.spaceAnswer (s : State) (va n : Nat) : BusRes → MemRes
  | .ok s v => .ok s (leBytes n v)
  | .refused | .fault | .broken _ => .fault s causePerm va
  | .poison s => .fault s causeEcc va
  | .wait => .wait

/-- The register space takes an access (R556). -/
def spaceTakes (mt : MemType) (n : Nat) : Bool := decide (mt = .device ∧ (n = 4 ∨ n = 8))

/-- Physical memory refuses an access (R48, R49). -/
def physCause (p n : Nat) (write : Bool) : Option Nat :=
  match rangeRegion p n with
  | none => some causeNoWin
  | some .readOnly => if write then some causePerm else none
  | _ => none

/-- Supervisory core `c` as a requester. -/
def supReq (c : Nat) : Requester := .sup ⟨c % 4, Nat.mod_lt _ (by decide)⟩

/-- A load of `n` bytes at a physical address (R554, R556). -/
def State.supLoad (s : State) (c va p n : Nat) (mt : MemType) : MemRes :=
  if inRegSpace p then
    if spaceTakes mt n then s.spaceAnswer va n (s.spaceRead (supReq c) p n) else .fault s causePerm va
  else match physCause p n false with
    | some x => .fault s x va
    | none =>
      if cacheable p mt then
        match s.supLine c (p / 64) with
        | .ok s x => .ok s (sliceD 0 x.bytes (p % 64) n)
        | .poison s => .fault s causeEcc va
        | .wait => .wait
      else match s.physLoad (supWho c) p n with
        | .ok s b => .ok s b
        | .poison s => .fault s causeEcc va
        | .wait | .fault => .wait

/-- A store at a physical address (R554, R556). -/
def State.supStore (s : State) (c va p : Nat) (b : List Byte) (mt : MemType) : MemRes :=
  let n := b.length
  if inRegSpace p then
    if spaceTakes mt n then s.spaceAnswer va 0 (s.spaceWrite (supReq c) p n (ofLe b)) else .fault s causePerm va
  else match physCause p n true with
    | some x => .fault s x va
    | none =>
      if cacheable p mt then
        match s.supLine c (p / 64) with
        | .ok s x => .ok (s.onSupLines fun ls => ls.map fun y =>
            if y.line = x.line then { y with bytes := overlay y.bytes (p % 64) b, dirty := true } else y) []
        | .poison s => .fault s causeEcc va
        | .wait => .wait
      else match s.physStore p b with
        | .ok s _ => .ok s []
        | .poison s => .fault s causeEcc va
        | .wait | .fault => .wait

/-- One indivisible read and write at a physical address (R503, R504, R556): `f` gives the new bytes, none to leave them. -/
def State.supRmw (s : State) (c va p n : Nat) (mt : MemType) (f : List Byte → Option (List Byte)) : MemRes :=
  if inRegSpace p then .fault s causePerm va
  else match physCause p n true with
    | some x => .fault s x va
    | none =>
      match s.supLoad c va p n mt with
      | .ok s old =>
        match f old with
        | none => .ok s old
        | some new =>
          match s.supStore c va p new mt with
          | .ok s _ => .ok s old
          | r => r
      | r => r

/-- A fetch of the instruction at a virtual address (R498, R554, R556): the line enters the I-cache. -/
def State.supFetch (s : State) (c va : Nat) : MemRes :=
  match s.xlate c va .fetch with
  | .fault s x => .fault s x va
  | .wait => .wait
  | .at_ s p mt =>
    if inRegSpace p then .fault s causePerm va
    else match physCause p 4 false with
      | some x => .fault s x va
      | none =>
        if ¬ cacheable p mt then
          match s.physLoad (supWho c) p 4 with
          | .ok s b => .ok s b
          | .poison s => .fault s causeEcc va
          | .wait | .fault => .wait
        else if (cacheFind (s.supc c).il (p / 64)).isSome then .ok s []
        else match s.physLoad (supWho c) (p / 64 * 64) 64 with
          | .ok s b => .ok (s.supKeepI c ⟨p / 64, b, false, [], true, false, 0⟩) []
          | .poison s => .fault s causeEcc va
          | .wait | .fault => .wait

/-- The line that DCWB, DCDROP or DCWBD names (R555): none where it lies in the register space, which no line holds. -/
def State.supLineAt (s : State) (c va : Nat) (u : PageUse) (f : State → Nat → State) : MemRes :=
  match s.xlate c va u with
  | .fault s x => .fault s x va
  | .wait => .wait
  | .at_ s p _ =>
    if inRegSpace p then .ok s []
    else match physCause p 1 false with
      | some x => .fault s x va
      | none => .ok (f s (p / 64)) []

end Sys2Proof.Machine
end

