-- ==== Sys2Proof/Machine/Cpu.lean ====
section
/-!
DEFINITION. Machine/Cpu.lean: how a core issues an instruction: what stands before it (halts, breakpoints, budget, late errors,
fetch, decode, guard), how its effect ends (R485 to R487, R498, R508 to R512, R768, R771), and its accesses to memory by profile.
-/

namespace Sys2Proof.Machine

/-! ## Accesses by profile -/

/-- Bits of an address and of PC: 32 on a cycle core, 64 on a supervisory one (R473, R477, R550). -/
def addrBits (n : Nat) : Nat := if n < 64 then 32 else 64

/-- An address as a core computes it (R477, R499). -/
def addrOn (n a : Nat) : Nat := a % 2 ^ addrBits n

/-- The tenant that runs on a cycle core. -/
def State.runs (s : State) (n : Nat) : Nat := (s.core n).run.getD 0

/-- A tenant's access, as a core sees its end. -/
def AccRes.toMem (a : Nat) : AccRes → MemRes
  | .ok s b => .ok s b
  | .poison s => .fault s causeEcc a
  | .wait => .wait

/-- A load of `n` bytes by core `c` (R499 to R501, R509). -/
def State.coreLoad (s : State) (c a n : Nat) : MemRes :=
  if c < 64 then
    match s.accCheck (s.runs c) a n .read with
    | .error x => .fault s x a
    | .ok (w, p) => (s.winLoad c (s.runs c) w p n).toMem a
  else if a % n ≠ 0 then .fault s causeAlign a
  else match s.xlate (c - 64) a .load with
    | .fault s x => .fault s x a
    | .wait => .wait
    | .at_ s p mt => s.supLoad (c - 64) a p n mt

/-- A store by core `c` (R499 to R502, R509). -/
def State.coreStore (s : State) (c a : Nat) (b : List Byte) : MemRes :=
  if c < 64 then
    match s.accCheck (s.runs c) a b.length .write with
    | .error x => .fault s x a
    | .ok (w, p) => (s.winStore c (s.runs c) w p b).toMem a
  else if a % b.length ≠ 0 then .fault s causeAlign a
  else match s.xlate (c - 64) a .store with
    | .fault s x => .fault s x a
    | .wait => .wait
    | .at_ s p mt => s.supStore (c - 64) a p b mt

/-- An atomic by core `c` (R503, R504, R509): the old bytes; `f` gives the new ones, none to leave them. -/
def State.coreAtomic (s : State) (c a n : Nat) (f : List Byte → Option (List Byte)) : MemRes :=
  if c < 64 then
    match s.accCheck (s.runs c) a n .atomic with
    | .error x => .fault s x a
    | .ok (w, p) => (s.winAtomic c (s.runs c) w p n f).toMem a
  else if a % n ≠ 0 then .fault s causeAlign a
  else match s.xlate (c - 64) a .atomic with
    | .fault s x => .fault s x a
    | .wait => .wait
    | .at_ s p mt => s.supRmw (c - 64) a p n mt f

/-- Loads one after the other, each an address and a width: their values, or the first that does not complete. -/
inductive Loads where
  | ok (s : State) (vs : List Nat)
  | fault (s : State) (cause addr : Nat)
  | wait
  deriving DecidableEq, Repr

/-- Loads of a list of places, in order (R529). -/
def State.coreLoads (s : State) (c : Nat) : List (Nat × Nat) → Loads
  | [] => .ok s []
  | (a, n) :: rest =>
    match s.coreLoad c a n with
    | .fault s x y => .fault s x y
    | .wait => .wait
    | .ok s b =>
      match s.coreLoads c rest with
      | .ok s vs => .ok s (ofLe b :: vs)
      | r => r

/-! ## What an instruction comes to -/

/-- The effect of an instruction that executes. -/
inductive Eff where
  /-- It completes, the core goes on behind it; the registers it leaves, and the accesses it made: address and direction. -/
  | done (s : State) (r : Regs) (acc : List (Nat × Bool))
  /-- It completes and the core goes on at an address (R497). -/
  | jump (s : State) (r : Regs) (pc : Nat)
  /-- It completes and left the registers in the state as they are to be. -/
  | own (s : State)
  /-- BRK with BRKEN = 1 (R771). -/
  | brk (s : State) (r : Regs)
  /-- A cause of R409 or R549, and the address recorded with it. -/
  | fault (s : State) (cause addr : Nat)
  /-- It waits for memory that does not answer yet, and issues again (R640, R644). -/
  | wait
  deriving DecidableEq, Repr

/-- An access that ended gives the registers `f` of its bytes. -/
def MemRes.eff (m : MemRes) (acc : List (Nat × Bool)) (f : List Byte → Regs) : Eff :=
  match m with
  | .ok s b => .done s (f b) acc
  | .fault s x a => .fault s x a
  | .wait => .wait

/-- The registers of a core. -/
def State.regsOf (s : State) (n : Nat) : Regs :=
  if 64 ≤ n then (s.supc (n - 64)).regs
  else match s.dispOn n with
    | some (_, d) => d.regs
    | none => {}

/-- Give a core its registers. A module that the instruction put into reset or Calm keeps none. -/
def State.putRegs (s : State) (n : Nat) (r : Regs) : State :=
  if ¬ s.awake then s
  else if 64 ≤ n then s.onSup (n - 64) fun k => { k with regs := r }
  else s.onTenant (s.runs n) fun x => { x with disp := x.disp.map fun d => { d with regs := r } }

/-- A core leaves an instruction (R768, R771): a step is over, and a matching watchpoint or BRK halts it. -/
def State.retire (s : State) (n : Nat) (stepping wp brk : Bool) : State :=
  let s := s.onDbg fun d => { d with pass := d.pass.filter (· ≠ n) }
  if ¬ s.awake then s
  else if stepping then s.haltCore n 2
  else if wp then s.haltCore n 4
  else if brk then s.haltCore n 5
  else s

/-- A fault of a cycle core, or a trap of a supervisory one, at the instruction the core stands at (R409, R508, R511, R547). -/
def State.coreFault (s : State) (n cause addr : Nat) : State :=
  if n < 64 then (match s.dispOn n with
    | some (t, _) => s.faultHere t cause addr
    | none => s)
  else s.trapHere (n - 64) cause addr

/-- PC moved on. -/
def Regs.goTo (r : Regs) (n pc : Nat) : Regs := { r with pc := BitVec.ofNat 64 (addrOn n pc) }

/-- An instruction's effect takes place on core `n` (R508, R509, R511, R768, R771). -/
def State.conclude (s : State) (n : Nat) (stepping : Bool) : Eff → State
  | .done s r acc => (s.putRegs n (r.goTo n (r.pc.toNat + 4))).retire n stepping (acc.any fun x => s.wpMatch n x.1 x.2) false
  | .jump s r pc => (s.putRegs n (r.goTo n pc)).retire n stepping false false
  | .own s => s.retire n stepping false false
  | .brk s r => (s.putRegs n (r.goTo n (r.pc.toNat + 4))).retire n stepping false true
  | .fault s x a => (s.coreFault n x a).retire n stepping false false
  | .wait => s

/-- The fetch of the instruction a tenant stands at (R478, R498). -/
def State.cycFetch (s : State) (c t pc : Nat) : MemRes :=
  match s.winAt t pc 4 with
  | none => .fault s causeNoWin pc
  | some w =>
    if w.kind ≠ .code then .fault s causePerm pc
    else
      let p := s.physIn t w pc
      if ¬ s.memReady p then .wait
      else match s.icLine c t (p / 64) true with
        | (s, true) => .ok s []
        | (s, false) => .fault s causeEcc pc

/-- The fetch of the instruction core `n` stands at. -/
def State.coreFetch (s : State) (n : Nat) : MemRes :=
  let pc := (s.regsOf n).pc.toNat
  if n < 64 then s.cycFetch n (s.runs n) pc else s.supFetch (n - 64) pc

/-- The guard of an instruction (R485). -/
def executes (i : Issue) (r : Regs) : Bool := r.getP i.ps.val != i.pn

/-- What an error found after its access costs (R512, R549), once the core reaches a boundary. -/
def State.takeLate (s : State) (n : Nat) : Option State :=
  if n < 64 then
    match (s.tenant (s.runs n)).late with
    | some (c, a) => some ((s.onTenant (s.runs n) fun x => { x with late := none }).coreFault n c a)
    | none => none
  else
    match (s.supc (n - 64)).late with
    | some (c, a) => some ((s.onSup (n - 64) fun k => { k with late := none }).coreFault n c a)
    | none => none

/-- The cycles an instruction takes of its dispatch's budget (R445): how many is open, and some are left (R446). -/
def State.burn (s : State) (n : Nat) : State :=
  if n < 64 then
    let f := s.takeFree
    f.2.onTenant (s.runs n) fun x => { x with disp := x.disp.map fun d => { d with left := d.left - f.1 % d.left } }
  else s.onSup (n - 64) fun k => { k with idle := false }

/-- The budget of the dispatch on a cycle core is used up (R446, R447). -/
def State.spent (s : State) (n : Nat) : Bool := decide (n < 64) && (s.dispOn n).any fun x => x.2.left == 0

/-- An instruction at its place in program order (R485, R486, R498, R509, R512): `bad` is the cause that decode finds. -/
def State.perform (s : State) (i : Issue) (stepping : Bool) (bad : Option Nat) (eff : State → Regs → Eff) : State :=
  let n := i.core.val
  if s.spent n then (s.coreFault n causeBudget 0).retire n stepping false false
  else match s.takeLate n with
    | some s => s.retire n stepping false false
    | none =>
      match s.coreFetch n with
      | .wait => s
      | .fault s x a => s.conclude n stepping (.fault s x a)
      | .ok s _ =>
        match bad with
        | some x => s.conclude n stepping (.fault s x 0)
        | none =>
          let s := s.burn n
          let r := s.regsOf n
          s.conclude n stepping (if executes i r then eff s r else .done s r [])

/-- A core can take an instruction now: it runs something, does not wait for a guard (R505), does not idle (R555), and the
cluster is not stopped by its watchdog (R450). -/
def State.ready (s : State) (n : Nat) : Bool :=
  if n < 64 then !s.cyc.wdHalt && (s.dispOn n).any fun x => x.2.wait.isNone
  else (s.supc (n - 64)).running && (!(s.supc (n - 64)).idle || s.wakes (n - 64))

/-- A core issues an instruction (R485, R768, R771). Lull gates the clocks of the cycle cores (R739). -/
def State.issue (s : State) (i : Issue) (bad : Option Nat) (eff : State → Regs → Eff) : Out :=
  let n := i.core.val
  .next (
    if ¬ s.awake ∨ (n < 64 ∧ s.sys.power ≠ .run) ∨ ¬ s.ready n then s
    else if s.haltDue n then s.haltCore n 1
    else
      let stepping := s.dbg.step.contains n
      if s.halted n then (if stepping then s.perform i true bad eff else s)
      else if s.atBreakpoint n then s.haltCore n 3
      else s.perform i false bad eff)

/-! ## What decode finds -/

/-- A word of both profiles: ILLEGAL where its fields are not listed (R486). -/
def badIn (legal : Bool) : Option Nat := if legal then none else some causeIllegal

/-- A word of the cycle profile alone (R543). -/
def badOnCycle (i : Issue) (legal : Bool) : Option Nat :=
  if i.core.val < 64 ∧ legal then none else some causeIllegal

/-- A word of the supervisory profile (R486, R555): PRIV on a cycle core and below its level. -/
def State.sysBad (s : State) (i : Issue) (legal : Bool) (l : Level) : Option Nat :=
  if i.core.val < 64 then some causePriv
  else if ¬ legal then some causeIllegal
  else if (s.supc (i.core.val - 64)).lvl.num < l.num then some causePriv
  else none

end Sys2Proof.Machine
end

