-- ==== Sys2Proof/Machine/Int.lean ====
section
/-!
DEFINITION. Machine/Int.lean: the operand forms and register effects of the integer, predicate and branch instructions (R484,
R487, R493 to R497).
-/

namespace Sys2Proof.Machine

/-- imm12 sign-extended to 64 bits (R487). -/
def signed12 (imm : BitVec 12) : Nat := ofSigned 64 (toSigned 12 imm.toNat)

/-- imm16 of LIH (sign-extended) or ORH, shifted to half-word `h` (R487). -/
def halfWord (h : Nat) (imm : BitVec 16) (sign : Bool) : Nat :=
  shiftLeft 64 (if sign then ofSigned 64 (toSigned 16 imm.toNat) else imm.toNat) (16 * h)

/-- rd, ra and rb are zero. -/
def zero3 (rd ra rb : Fin 32) : Bool := decide (rd.val = 0 ∧ ra.val = 0 ∧ rb.val = 0)

/-- A condition enters its predicate (R494). -/
def Regs.compare (r : Regs) (cm pd : Nat) (c : Bool) : Regs := r.setP pd ((combine cm (r.getP pd) c).getD false)

/-- A field that names a predicate: bits [4:3] are zero (R496). -/
def isP (n : Nat) : Bool := decide (n < 8)

/-- The fields of PRED that its table lists (R496). -/
def predLegal (fn rd ra rb : Nat) : Bool :=
  match fn with
  | 0 | 1 | 2 | 3 => isP rd && isP ra && isP rb
  | 4 => isP rd && isP ra && decide (rb = 0)
  | 5 => isP ra && decide (rb = 0)
  | 6 => isP rd && decide (rb = 0)
  | 7 => decide (ra = 0 ∧ rb = 0)
  | 8 => decide (rd = 0 ∧ rb = 0)
  | _ => false

/-- The predicates as bits, p0 as 1 (R473, R496). -/
def Regs.preds (r : Regs) : Nat := ((List.range 8).map fun i => b2n (r.getP i) * 2 ^ i).sum

/-- PRED (R496). -/
def Regs.predicate (r : Regs) (fn rd ra rb : Nat) : Regs :=
  let a := r.getP ra
  let b := r.getP rb
  match fn with
  | 0 => r.setP rd (a && b)
  | 1 => r.setP rd (a || b)
  | 2 => r.setP rd (a != b)
  | 3 => r.setP rd (a && !b)
  | 4 => r.setP rd (!a)
  | 5 => r.setG rd (b2n a)
  | 6 => r.setP rd (decide (r.getG ra ≠ 0))
  | 7 => r.setG rd r.preds
  | _ => (List.range 8).foldl (fun r' i => r'.setP i (bit (r.getG ra) i)) r

/-- Where a branch leads (R487, R497). -/
def branchTo (n : Nat) (r : Regs) (off : BitVec 22) : Nat :=
  addrOn n (r.pc.toNat + ofSigned 64 (toSigned 22 off.toNat * 4))

/-- A jump to a register's address, leaving `r` (R497). -/
def jumpTo (s : State) (r : Regs) (target : Nat) : Eff :=
  if target % 4 ≠ 0 then .fault s causeAlign target else .jump s r target

end Sys2Proof.Machine
end

