-- ==== Sys2Proof/Machine/Guard.lean ====
section
/-!
DEFINITION. Machine/Guard.lean: guards, queues and special registers as instructions reach them (R474, R505 to R507, R543, R545).
-/

namespace Sys2Proof.Machine

/-! ## Guards -/

/-- The guard that GACQ or GREL names (R505, R506). -/
def guardOf (r : Regs) (ra : Nat) (imm : BitVec 12) : Nat := (r.getG ra + imm.toNat) % 4096

/-- GACQ (R413, R505): the grant, a wait, or the request's fault. -/
def guardAcquire (s : State) (n : Nat) (r : Regs) (rd g : Nat) : Eff :=
  let t := s.runs n
  match s.guardRequest t g with
  | .fault x => .fault s x 0
  | .grant => .done (s.giveGuard g t) (r.setG rd (s.grantWord g)) []
  | .wait => .own ((s.setWaiters g (s.waiters g ++ [t])).onTenant t fun x => { x with
      disp := x.disp.map fun d => { d with wait := some (g, rd) } })

/-- GREL (R415, R506): a guard the tenant does not hold is a fault (R409). -/
def guardRelease (s : State) (n : Nat) (r : Regs) (g : Nat) : Eff :=
  let t := s.runs n
  if (s.tenant t).held.contains g then .done (s.releaseGuard t g false) r [] else .fault s causeGuardNotHeld 0

/-! ## Queues -/

/-- An event entry as a vector register (R401, R507). -/
def EvEntry.vec (e : EvEntry) : Nat := e.w0 % 2 ^ 32 + e.w1 % 2 ^ 32 * 2 ^ 32 + e.w2 % 2 ^ 32 * 2 ^ 64 + e.w3 % 2 ^ 32 * 2 ^ 96

/-- EVPEEK, and EVPOP with `pop` (R507). -/
def eventHead (s : State) (n : Nat) (r : Regs) (rd rb : Nat) (pop : Bool) : Eff :=
  let t := s.runs n
  match (s.tenant t).evq with
  | [] => .done s (r.setG rd 1) []
  | e :: rest =>
    .done (if pop then s.onTenant t fun x => { x with evq := rest } else s) ((r.setV rb e.vec).setG rd 0) []

/-- EVCNT (R507). -/
def State.eventCount (s : State) (t : Nat) : Nat := (s.tenant t).evq.length + s.getF (CYC.TEVQ_CNT_LOST t) * 2 ^ 16

/-- OSQPOST (R406, R407, R507). -/
def osqPost (s : State) (n : Nat) (r : Regs) (rd ra rb : Nat) : Eff :=
  let p := s.osqPut (s.runs n) (bits (r.getG rd) 15 0) (bits (r.getG ra) 31 0) (bits (r.getG rb) 31 0)
  .done p.1 (r.setG rd (b2n !p.2)) []

/-! ## Special registers -/

/-- What decode finds in an MFSR (R474, R486, R543, R545). -/
def State.mfsrBad (s : State) (n sr : Nat) (legal : Bool) : Option Nat :=
  if ¬ legal then some causeIllegal
  else if n < 64 then (if sr ≤ 6 then none else some causeIllegal)
  else match srRule sr with
    | none => some causeIllegal
    | some x => if (s.supc (n - 64)).lvl.num < x.read.num then some causePriv else none

/-- MFSR (R474, R475, R545). -/
def mfsr (s : State) (n : Nat) (r : Regs) (rd sr : Nat) : Eff :=
  if n < 64 then
    match s.dispOn n with
    | some (t, d) => .done s (r.setG rd ((s.srCycle t d sr).getD 0)) []
    | none => .done s r []
  else
    let s := if sr = 0x202 then s.tickOn (n - 64) else s
    .done s (r.setG rd (s.srSup (n - 64) sr)) []

/-- What decode finds in an MTSR (R486, R545): ANGLE and TOD are no registers that it writes. -/
def State.mtsrBad (s : State) (i : Issue) (sr : Nat) (legal : Bool) : Option Nat :=
  match (if sr < 0x200 then none else srRule sr) with
  | none => s.sysBad i false .app
  | some x => s.sysBad i legal x.write

/-- MTSR (R545): a read-only register keeps its value. -/
def mtsr (s : State) (n : Nat) (r : Regs) (sr v : Nat) : Eff :=
  .done (if (srRule sr).any (·.writable) then s.onSup (n - 64) fun k => k.setSr k.lvl sr v else s) r []

end Sys2Proof.Machine
end

