-- ==== Sys2Proof/Machine/GuardCmd.lean ====
section
/-!
DEFINITION. Machine/GuardCmd.lean: guard, queue and special-register instructions (R474, R505 to R507, R545).
-/

namespace Sys2Proof.Machine


/-- GACQ (R505): GACQ requests a guard and completes at its grant. -/
def execGacq (i : Issue) (rd : Fin 32) (ra : Fin 32) (imm : BitVec 12) (s : State) : Out := s.issue i (badOnCycle i true) fun s r => guardAcquire s i.core.val r rd.val (guardOf r ra.val imm)

/-- GREL (R506): GREL releases a guard after earlier accesses complete and passes it to the next waiter. -/
def execGrel (i : Issue) (rd : Fin 32) (ra : Fin 32) (imm : BitVec 12) (s : State) : Out := s.issue i (badOnCycle i (decide (rd.val = 0))) fun s r => guardRelease s i.core.val r (guardOf r ra.val imm)

/-- EVPOP (R507): EVPOP removes the head of the event queue into a v register. -/
def execEvpop (i : Issue) (rd : Fin 32) (ra : Fin 32) (rb : Fin 32) (s : State) : Out := s.issue i (badOnCycle i (decide (ra.val = 0 ∧ rb.val < 16))) fun s r => eventHead s i.core.val r rd.val rb.val true

/-- EVPEEK (R507): EVPEEK reads the head of the event queue without removing it. -/
def execEvpeek (i : Issue) (rd : Fin 32) (ra : Fin 32) (rb : Fin 32) (s : State) : Out := s.issue i (badOnCycle i (decide (ra.val = 0 ∧ rb.val < 16))) fun s r => eventHead s i.core.val r rd.val rb.val false

/-- EVCNT (R507): EVCNT reads the event queue's level and losses. -/
def execEvcnt (i : Issue) (rd : Fin 32) (ra : Fin 32) (rb : Fin 32) (s : State) : Out := s.issue i (badOnCycle i (decide (ra.val = 0 ∧ rb.val = 0))) fun s r => .done s (r.setG rd.val (s.eventCount (s.runs i.core.val))) []

/-- OSQPOST (R406): OSQPOST posts a message to the tenant's supervisory queue and rings its doorbell. -/
def execOsqpost (i : Issue) (rd : Fin 32) (ra : Fin 32) (rb : Fin 32) (s : State) : Out := s.issue i (badOnCycle i true) fun s r => osqPost s i.core.val r rd.val ra.val rb.val

/-- MFSR (R474): MFSR reads a special register. -/
def execMfsr (i : Issue) (rd : Fin 32) (ra : Fin 32) (imm : BitVec 12) (s : State) : Out := s.issue i (s.mfsrBad i.core.val imm.toNat (decide (ra.val = 0))) fun s r => mfsr s i.core.val r rd.val imm.toNat

/-- MTSR (R545): MTSR writes a supervisory special register. -/
def execMtsr (i : Issue) (rd : Fin 32) (ra : Fin 32) (imm : BitVec 12) (s : State) : Out := s.issue i (s.mtsrBad i imm.toNat (decide (rd.val = 0))) fun s r => mtsr s i.core.val r imm.toNat (r.getG ra.val)

end Sys2Proof.Machine
end

