-- ==== Sys2Proof/Machine/IntCmd.lean ====
section
/-!
DEFINITION. Machine/IntCmd.lean: the integer, predicate and branch instructions (R488 to R497), and NOP, FENCE and BRK.
-/

namespace Sys2Proof.Machine


/-- ALU (R488): ALU performs a 64-bit operation selected by FN. -/
def execAlu (i : Issue) (rd : Fin 32) (ra : Fin 32) (rb : Fin 32) (fn : Fin 128) (s : State) : Out := s.issue i (badIn (aluOp 64 fn.val 0 0 rb.val).isSome) fun s r => .done s (r.setG rd.val ((aluOp 64 fn.val (r.getG ra.val) (r.getG rb.val) rb.val).getD 0)) []

/-- ALUW (R488): ALUW performs a 32-bit operation selected by FN with a sign-extended result. -/
def execAluw (i : Issue) (rd : Fin 32) (ra : Fin 32) (rb : Fin 32) (fn : Fin 128) (s : State) : Out := s.issue i (badIn (aluOp 32 fn.val 0 0 rb.val).isSome) fun s r => .done s (r.setG rd.val (toReg 32 ((aluOp 32 fn.val (r.getG ra.val) (r.getG rb.val) rb.val).getD 0))) []

/-- ADDI (R487): ADDI adds a sign-extended immediate. -/
def execAddi (i : Issue) (rd : Fin 32) (ra : Fin 32) (imm : BitVec 12) (s : State) : Out := s.issue i (badIn true) fun s r => .done s (r.setG rd.val (((r.getG ra.val) + signed12 imm) % 2 ^ 64)) []

/-- ADDIW (R487): ADDIW adds an immediate in 32 bits and sign-extends. -/
def execAddiw (i : Issue) (rd : Fin 32) (ra : Fin 32) (imm : BitVec 12) (s : State) : Out := s.issue i (badIn true) fun s r => .done s (r.setG rd.val (toReg 32 (((r.getG ra.val) + signed12 imm) % 2 ^ 32))) []

/-- ANDI (R487): ANDI ANDs a zero-extended immediate. -/
def execAndi (i : Issue) (rd : Fin 32) (ra : Fin 32) (imm : BitVec 12) (s : State) : Out := s.issue i (badIn true) fun s r => .done s (r.setG rd.val ((r.getG ra.val) &&& imm.toNat)) []

/-- ORI (R487): ORI ORs a zero-extended immediate. -/
def execOri (i : Issue) (rd : Fin 32) (ra : Fin 32) (imm : BitVec 12) (s : State) : Out := s.issue i (badIn true) fun s r => .done s (r.setG rd.val ((r.getG ra.val) ||| imm.toNat)) []

/-- XORI (R487): XORI XORs a zero-extended immediate. -/
def execXori (i : Issue) (rd : Fin 32) (ra : Fin 32) (imm : BitVec 12) (s : State) : Out := s.issue i (badIn true) fun s r => .done s (r.setG rd.val ((r.getG ra.val) ^^^ imm.toNat)) []

/-- SHI (R490): SHI shifts or rotates by an immediate amount. -/
def execShi (i : Issue) (rd : Fin 32) (ra : Fin 32) (imm : BitVec 12) (s : State) : Out := s.issue i (badIn (shiOp imm.toNat 0).isSome) fun s r => .done s (r.setG rd.val ((shiOp imm.toNat (r.getG ra.val)).getD 0)) []

/-- MULDIV (R491): MULDIV multiplies or divides by FN. -/
def execMuldiv (i : Issue) (rd : Fin 32) (ra : Fin 32) (rb : Fin 32) (fn : Fin 128) (s : State) : Out := s.issue i (badIn (mulDiv fn.val 0 0).isSome) fun s r => .done s (r.setG rd.val ((mulDiv fn.val (r.getG ra.val) (r.getG rb.val)).getD 0)) []

/-- CMP (R494): CMP compares two registers into a predicate. -/
def execCmp (i : Issue) (cm : Fin 4) (pd : Fin 8) (ra : Fin 32) (rb : Fin 32) (fn : Fin 128) (s : State) : Out := s.issue i (badIn ((cmpCond fn.val 0 0).isSome && decide (cm.val < 3))) fun s r => .done s (r.compare cm.val pd.val ((cmpCond fn.val (r.getG ra.val) (r.getG rb.val)).getD false)) []

/-- CMPI (R494): CMPI compares a register with an immediate into a predicate. -/
def execCmpi (i : Issue) (cm : Fin 4) (pd : Fin 8) (ra : Fin 32) (cond : Fin 16) (imm : BitVec 8) (s : State) : Out := s.issue i (badIn ((cmpiCond cond.val imm.toNat 0).isSome && decide (cm.val < 3))) fun s r => .done s (r.compare cm.val pd.val ((cmpiCond cond.val imm.toNat (r.getG ra.val)).getD false)) []

/-- PRED (R496): PRED performs a predicate operation by FN. -/
def execPred (i : Issue) (rd : Fin 32) (ra : Fin 32) (rb : Fin 32) (fn : Fin 128) (s : State) : Out := s.issue i (badIn (predLegal fn.val rd.val ra.val rb.val)) fun s r => .done s (r.predicate fn.val rd.val ra.val rb.val) []

/-- SEL (R493): SEL writes one of two registers by a predicate. -/
def execSel (i : Issue) (rd : Fin 32) (ra : Fin 32) (rb : Fin 32) (fn : Fin 128) (s : State) : Out := s.issue i (badIn (decide (bits fn.val 6 4 = 0))) fun s r => .done s (r.setG rd.val (if r.getP (bits fn.val 2 0) != bit fn.val 3 then (r.getG ra.val) else (r.getG rb.val))) []

/-- LIH (R487): LIH loads a sign-extended half-word shifted into place. -/
def execLih (i : Issue) (h : Fin 4) (rd : Fin 32) (z : Bool) (imm : BitVec 16) (s : State) : Out := s.issue i (badIn (!z)) fun s r => .done s (r.setG rd.val (halfWord h.val imm true)) []

/-- ORH (R487): ORH ORs a half-word into place. -/
def execOrh (i : Issue) (h : Fin 4) (rd : Fin 32) (z : Bool) (imm : BitVec 16) (s : State) : Out := s.issue i (badIn (!z)) fun s r => .done s (r.setG rd.val (r.getG rd.val ||| halfWord h.val imm false)) []

/-- B (R497): B branches by a PC-relative offset. -/
def execB (i : Issue) (off : BitVec 22) (s : State) : Out := s.issue i (badIn true) fun s r => .jump s r (branchTo i.core.val r off)

/-- BL (R497): BL branches and writes the return address to g31. -/
def execBl (i : Issue) (off : BitVec 22) (s : State) : Out := s.issue i (badIn true) fun s r => .jump s (r.setG 31 (addrOn i.core.val (r.pc.toNat + 4))) (branchTo i.core.val r off)

/-- JR (R497): JR jumps to a register target. -/
def execJr (i : Issue) (rd : Fin 32) (ra : Fin 32) (rb : Fin 32) (s : State) : Out := s.issue i (badIn true) fun s r => jumpTo s r (addrOn i.core.val (r.getG ra.val))

/-- JLR (R497): JLR jumps to a register target and writes the return address. -/
def execJlr (i : Issue) (rd : Fin 32) (ra : Fin 32) (rb : Fin 32) (s : State) : Out := s.issue i (badIn true) fun s r => jumpTo s (r.setG rd.val (addrOn i.core.val (r.pc.toNat + 4))) (addrOn i.core.val (r.getG ra.val))

/-- NOP (R487): NOP does nothing. -/
def execNop (i : Issue) (rd : Fin 32) (ra : Fin 32) (rb : Fin 32) (s : State) : Out := s.issue i (badIn (zero3 rd ra rb)) fun s r => .done s r []

/-- FENCE (R483): FENCE waits until every earlier access has completed. -/
def execFence (i : Issue) (rd : Fin 32) (ra : Fin 32) (rb : Fin 32) (s : State) : Out := s.issue i (badIn (zero3 rd ra rb)) fun s r => .done s r []

/-- BRK (R771): BRK halts the core for the debug port while BRKEN = 1, and otherwise acts as NOP. -/
def execBrk (i : Issue) (rd : Fin 32) (ra : Fin 32) (rb : Fin 32) (s : State) : Out := s.issue i (badIn (zero3 rd ra rb)) fun s r => if s.flag (DBG.NCTL_BRKEN i.core.val) then .brk s r else .done s r []

end Sys2Proof.Machine
end

