-- ==== Sys2Proof/Machine/IntcCmd.lean ====
section
/-!
DEFINITION. Machine/IntcCmd.lean: the commands of the interrupt controller.
-/

namespace Sys2Proof.Machine


/-- INTERRUPT_TAKE (R558): A deliverable interrupt is taken at an instruction boundary and its source delivered. -/
def execInterruptTake (c : Fin 4) (s : State) : Out := s.act fun s => s.takeInterrupt c.val

/-- INSVC_END (R558): A write of 1 to an INSVC bit ends the service of that priority. -/
def execInsvcEnd (c : Fin 4) (plat : Bool) (p : Fin 16) (s : State) : Out := s.act fun s => s.insvcEnd c.val plat p.val

/-- SWI_SET (R559): A write to SUP_SWI_SET makes a software source pending. -/
def execSwiSet (n : BitVec 10) (s : State) : Out := s.act fun s => s.swiSet n.toNat

/-- SWI_CLR (R559): A write to SUP_SWI_CLR clears a pending software source. -/
def execSwiClr (n : BitVec 10) (s : State) : Out := s.act fun s => s.swiClr n.toNat

end Sys2Proof.Machine
end

