-- ==== Sys2Proof/Machine/LdSt.lean ====
section
/-!
DEFINITION. Machine/LdSt.lean: addresses, loads, stores and atomics as instructions give them to a core (R499 to R504).
-/

namespace Sys2Proof.Machine

/-- The address of an I-format access (R499). -/
def immAddr (n : Nat) (r : Regs) (ra : Nat) (imm : BitVec 12) : Nat := addrOn n (r.getG ra + signed12 imm)

/-- The address of an indexed access (R499). -/
def idxAddr (n : Nat) (r : Regs) (ra rb fn : Nat) : Nat := addrOn n (r.getG ra + r.getG rb * 2 ^ bits fn 4 3)

/-- A loaded value in a register (R487, R499). -/
def loaded (signed : Bool) (b : List Byte) : Nat :=
  if signed then ofSigned 64 (toSigned (8 * b.length) (ofLe b)) else ofLe b

/-- Load `w` bytes into g[rd] (R499, R500). -/
def loadInto (s : State) (n : Nat) (r : Regs) (rd a w : Nat) (signed : Bool) : Eff :=
  (s.coreLoad n a w).eff [(a, false)] fun b => r.setG rd (loaded signed b)

/-- Store the low `w` bytes of a value (R487, R499, R502). -/
def storeFrom (s : State) (n : Nat) (r : Regs) (v a w : Nat) : Eff :=
  (s.coreStore n a (leBytes w v)).eff [(a, true)] fun _ => r

/-- Bytes of a LOAD by its place among the opcodes 0x20 to 0x26 (R487). -/
def loadBytes (kind : Nat) : Nat := 2 ^ (kind / 2)

/-- A LOAD that sign-extends (R487). -/
def loadSigned (kind : Nat) : Bool := kind % 2 == 1

/-- VLD (R487, R500). -/
def loadVector (s : State) (n : Nat) (r : Regs) (rd a : Nat) : Eff :=
  (s.coreLoad n a 16).eff [(a, false)] fun b => r.setV rd (ofLe b)

/-- Bytes of an atomic (R503). -/
def atomBytes (fn : Nat) : Nat := if bit fn 4 then 4 else 8

/-- The fields of ATOM that its table lists (R503). -/
def atomLegal (fn : Nat) : Bool := decide (bits fn 6 5 = 0) && (atomOp 64 (bits fn 3 0) 0 0 0).isSome

/-- The new bytes of an atomic (R503), none where memory stays as it is. -/
def atomNew (fn rb rd : Nat) (old : List Byte) : Option (List Byte) :=
  match atomOp (8 * atomBytes fn) (bits fn 3 0) (ofLe old) rb rd with
  | some (some x) => some (leBytes (atomBytes fn) x)
  | _ => none

/-- ATOM (R503, R504). -/
def atomic (s : State) (n : Nat) (r : Regs) (rd ra rb fn : Nat) : Eff :=
  let a := addrOn n (r.getG ra)
  (s.coreAtomic n a (atomBytes fn) (atomNew fn (r.getG rb) (r.getG rd))).eff [(a, false), (a, true)] fun b =>
    r.setG rd (loaded (bit fn 4) b)

end Sys2Proof.Machine
end

