-- ==== Sys2Proof/Machine/LdStCmd.lean ====
section
/-!
DEFINITION. Machine/LdStCmd.lean: loads, stores and atomics (R499 to R504).
-/

namespace Sys2Proof.Machine


/-- LOAD (R499): A load of 8 to 64 bits reads memory through the tenant's windows or the supervisory translation. -/
def execLoad (i : Issue) (kind : Fin 7) (rd : Fin 32) (ra : Fin 32) (imm : BitVec 12) (s : State) : Out := s.issue i (badIn true) fun s r => loadInto s i.core.val r rd.val (immAddr i.core.val r ra.val imm) (loadBytes kind.val) (loadSigned kind.val)

/-- STORE (R499): A store of 8 to 64 bits writes memory through the windows. -/
def execStore (i : Issue) (kind : Fin 4) (rd : Fin 32) (ra : Fin 32) (imm : BitVec 12) (s : State) : Out := s.issue i (badIn true) fun s r => storeFrom s i.core.val r (r.getG rd.val) (immAddr i.core.val r ra.val imm) (2 ^ kind.val)

/-- VLD (R500): VLD loads 16 bytes into a v register. -/
def execVld (i : Issue) (rd : Fin 32) (ra : Fin 32) (imm : BitVec 12) (s : State) : Out := s.issue i (badIn (decide (rd.val < 16))) fun s r => loadVector s i.core.val r rd.val (immAddr i.core.val r ra.val imm)

/-- VST (R500): VST stores a v register. -/
def execVst (i : Issue) (rd : Fin 32) (ra : Fin 32) (imm : BitVec 12) (s : State) : Out := s.issue i (badIn (decide (rd.val < 16))) fun s r => storeFrom s i.core.val r (r.getV rd.val) (immAddr i.core.val r ra.val imm) 16

/-- LDX (R499): LDX loads from a scaled indexed address. -/
def execLdx (i : Issue) (rd : Fin 32) (ra : Fin 32) (rb : Fin 32) (fn : Fin 128) (s : State) : Out := s.issue i (badIn (decide (bits fn.val 6 5 = 0))) fun s r => loadInto s i.core.val r rd.val (idxAddr i.core.val r ra.val rb.val fn.val) (2 ^ bits fn.val 1 0) (bit fn.val 2)

/-- STX (R499): STX stores to a scaled indexed address. -/
def execStx (i : Issue) (rd : Fin 32) (ra : Fin 32) (rb : Fin 32) (fn : Fin 128) (s : State) : Out := s.issue i (badIn (decide (bits fn.val 6 5 = 0) && !bit fn.val 2)) fun s r => storeFrom s i.core.val r (r.getG rd.val) (idxAddr i.core.val r ra.val rb.val fn.val) (2 ^ bits fn.val 1 0)

/-- ATOM (R503): ATOM performs an indivisible read-modify-write by FN. -/
def execAtom (i : Issue) (rd : Fin 32) (ra : Fin 32) (rb : Fin 32) (fn : Fin 128) (s : State) : Out := s.issue i (badIn (atomLegal fn.val)) fun s r => atomic s i.core.val r rd.val ra.val rb.val fn.val

end Sys2Proof.Machine
end

