-- ==== Sys2Proof/Machine/MemCmd.lean ====
section
/-!
DEFINITION. Machine/MemCmd.lean: the commands of common memory and the arbiters.
-/

namespace Sys2Proof.Machine


/-- MEM_REQUEST (R654): A requester presents a burst to a bank or channel arbiter, which grants and serves it. -/
def execMemRequest (bursts : List Burst) (s : State) : Out := s.act fun s => s.memRequest bursts

/-- SCRUB_READ (R650): The scrubber reads a word in an idle cycle and corrects errors. -/
def execScrubRead (addr : BitVec 40) (s : State) : Out := s.act fun s => s.scrubRead addr.toNat

/-- DRAM_REFRESH (R642): The controller performs a per-bank refresh at the temperature-scaled rate. -/
def execDramRefresh (rate : Fin 4) (s : State) : Out := s.act fun s => s.dramRefresh rate.val

/-- MEM_INJ_ARM (R651): MEM_CMD.INJ arms an error injection at the named word. -/
def execMemInjArm (s : State) : Out := s.act fun s => s.injArm

/-- MEM_LOG_CLR (R649): MEM_CMD.LOG_CLR empties the error log. -/
def execMemLogClr (s : State) : Out := s.act fun s => s.memLogClr

/-- MEM_CNT_CLR (R666): MEM_CMD.CNT_CLR zeroes every MEM counter. -/
def execMemCntClr (s : State) : Out := s.act fun s => s.memCntClr

/-- SRAM_ZERO_DONE (R640): SRAM zeroing finishes and SRAM_RDY sets. -/
def execSramZeroDone (s : State) : Out := s.act fun s => (s.sramZeroDone).dbgRetry

/-- DRAM_TRAIN_FAIL (R644): DRAM training fails and TRAIN_FAIL sets. -/
def execDramTrainFail (s : State) : Out := s.act fun s => (s.dramTrainFail).dbgRetry

/-- DRAM_ZERO_DONE (R644): DRAM zeroing after training finishes and DRAM_RDY sets. -/
def execDramZeroDone (s : State) : Out := s.act fun s => (s.dramZeroDone).dbgRetry

/-- SELF_REFRESH_ENTRY (R740): In Lull the DRAM controller returns the devices to self-refresh after 10 µs without an access. -/
def execSelfRefreshEntry (s : State) : Out := .next (if s.sys.power = .lull then s.selfRefreshEntry else s)

end Sys2Proof.Machine
end

