-- ==== Sys2Proof/Machine/Output.lean ====
section
/-!
DEFINITION. Machine/Output.lean: output and dispatch instructions (R535 to R539), and the end of a dispatch (R431, R435).
-/

namespace Sys2Proof.Machine

/-- The output instructions (R535). -/
inductive OutFn where
  | pubv | trip | arm | stdn
  deriving DecidableEq, Repr

/-- FN of an output instruction. -/
def OutFn.num : OutFn → Nat
  | .pubv => 0 | .trip => 1 | .arm => 2 | .stdn => 3

/-- A kind of publication accepts an output instruction (R569). -/
def OutFn.fits (f : OutFn) (kind : Nat) : Bool :=
  match f with
  | .pubv => decide (kind ≤ 3)
  | .trip => decide (kind = 1)
  | .arm | .stdn => decide (kind = 2)

/-- The key slot of a publication fails the usage or the owner check (R702). -/
def State.pubKeyBad (s : State) (n : Nat) : Bool :=
  decide (s.pubF PUB.W0_AUTH_EN n = 1) && !keyMaskOk (s.keySlot (s.pubF PUB.W0_KEYSLOT n)) (.tx (s.pubOwner n))

/-- The causes of an output instruction of tenant `t` (R536). -/
def State.outCause (s : State) (t n : Nat) (f : OutFn) : Option Nat :=
  if 4352 ≤ n then some causeOutput
  else if s.pubOwner n ≠ t ∨ ¬ f.fits (s.pubKind n) then some causeOutput
  else if s.pubKeyBad n then some causeKey
  else none

/-- Change the dispatch of a tenant. -/
def State.onDisp (s : State) (t : Nat) (f : Disp → Disp) : State := s.onTenant t fun x => { x with disp := x.disp.map f }

/-- PROV and TICK of the dispatch that runs on core `n` (R336, R537). -/
def State.dispMark (s : State) (n : Nat) : Bool × Nat :=
  match s.dispOn n with
  | some (_, d) => (descProv d.desc, descTick d.desc)
  | none => (false, 0)

/-- An output instruction that raises nothing (R535, R537, R538): `v` is its data word or identity. -/
def State.outDo (s : State) (n p v : Nat) (f : OutFn) : State :=
  let t := s.runs n
  let m := s.dispMark n
  let note (s : State) : State := s.onDisp t fun d => { d with ops := d.ops ++ [⟨f.num, p, v % 2 ^ 32⟩] }
  match f with
  | .pubv => s.onDisp t fun d => { d with staged := if d.staged.contains p then d.staged else d.staged ++ [p] }
  | .trip => (note s).pubTrip p (v % 2 ^ 32) m.1 m.2
  | .arm => (note s).pubArm p (v % 2 ^ 32) m.1 m.2
  | .stdn => (note s).pubStdn p (v % 2 ^ 32) m.2 (some m)

/-- PUBV, TRIP, ARM and STDN (R535, R536). -/
def output (s : State) (n : Nat) (r : Regs) (ra v : Nat) (f : OutFn) : Eff :=
  let p := r.getG ra
  match s.outCause (s.runs n) p f with
  | some x => .fault s x 0
  | none => .done (s.outDo n p v f) r []

/-- The staged bytes of a publication as its digest takes them: value and quality words (R284, R575). -/
def State.stagedBytes (s : State) (n : Nat) : List Byte :=
  match s.staging n with
  | some vs => (vs.map fun (_, v, q) => leBytes 4 v ++ leBytes 4 q).flatten
  | none => []

/-- What a dispatch wrote enters the digest of its tick (R284, R538). -/
def State.digestNote (s : State) (t : Nat) (d : Disp) : State :=
  let ps := d.staged.map fun n => (n, s.stagedBytes n)
  s.onTenant t fun x => { x with dig := { x.dig with pubs := x.dig.pubs ++ ps, ops := x.dig.ops ++ d.ops } }

/-- A dispatch yields (R431, R435): digest record, commit, end, and the digest when nothing of the tick waits (R284, R286). -/
def State.yieldNow (s : State) (t : Nat) (d : Disp) : State :=
  (((s.digestNote t d).pubCommit t d.staged (descProv d.desc) (descTick d.desc)).endDispatch t).digestSend t

/-- YIELD (R431, R435, R539). -/
def yieldEff (s : State) (n : Nat) : Eff :=
  match s.dispOn n with
  | none => .own s
  | some (t, d) => if (s.tenant t).held = [] then .own (s.yieldNow t d) else .fault s causeYieldHeld 0

/-- BQ (R539). -/
def budgetTest (s : State) (n : Nat) (r : Regs) (rd v : Nat) : Eff :=
  .done s (r.setP rd ((s.dispOn n).any fun x => decide (v ≤ x.2.left))) []

end Sys2Proof.Machine
end

