-- ==== Sys2Proof/Machine/OutCmd.lean ====
section
/-!
DEFINITION. Machine/OutCmd.lean: output and dispatch instructions (R535 to R539).
-/

namespace Sys2Proof.Machine


/-- PUBV (R535): PUBV marks a publication written in the dispatch. -/
def execPubv (i : Issue) (rd : Fin 32) (ra : Fin 32) (rb : Fin 32) (s : State) : Out := s.issue i (badOnCycle i (decide (rd.val = 0 ∧ rb.val = 0))) fun s r => output s i.core.val r ra.val (r.getG rb.val) .pubv

/-- TRIP (R584): TRIP passes a trip to PUB at issue, which holds it when provisional. -/
def execTrip (i : Issue) (rd : Fin 32) (ra : Fin 32) (rb : Fin 32) (s : State) : Out := s.issue i (badOnCycle i (decide (rd.val = 0))) fun s r => output s i.core.val r ra.val (r.getG rb.val) .trip

/-- ARM (R589): ARM sets ARMED and its identity on a kind 2 publication. -/
def execArm (i : Issue) (rd : Fin 32) (ra : Fin 32) (rb : Fin 32) (s : State) : Out := s.issue i (badOnCycle i (decide (rd.val = 0))) fun s r => output s i.core.val r ra.val (r.getG rb.val) .arm

/-- STDN (R589): STDN clears ARMED when the identity matches. -/
def execStdn (i : Issue) (rd : Fin 32) (ra : Fin 32) (rb : Fin 32) (s : State) : Out := s.issue i (badOnCycle i (decide (rd.val = 0))) fun s r => output s i.core.val r ra.val (r.getG rb.val) .stdn

/-- YIELD (R431): YIELD ends the dispatch and commits its staged publications. -/
def execYield (i : Issue) (rd : Fin 32) (ra : Fin 32) (rb : Fin 32) (s : State) : Out := s.issue i (badOnCycle i (zero3 rd ra rb)) fun s _ => yieldEff s i.core.val

/-- BQ (R539): BQ tests the remaining budget into a predicate. -/
def execBq (i : Issue) (rd : Fin 32) (ra : Fin 32) (rb : Fin 32) (s : State) : Out := s.issue i (badOnCycle i (isP rd.val && decide (rb.val = 0))) fun s r => budgetTest s i.core.val r rd.val (r.getG ra.val)

end Sys2Proof.Machine
end

