-- ==== Sys2Proof/Machine/PcxCmd.lean ====
section
/-!
DEFINITION. Machine/PcxCmd.lean: the commands of the port complex.
-/

namespace Sys2Proof.Machine


/-- LANE_ENABLE (R132): A write of EN = 1 with a mode moves the lane from DISABLED to NO_SIGNAL with its transmitter on. -/
def execLaneEnable (p : Fin 10) (mode : BitVec 2) (s : State) : Out := s.act fun s => s.pcxCfgWrite p.val (putBits (putBits (s.rd (PCX.CFG p.val)) 2 1 mode.toNat) 0 0 1)

/-- LANE_DISABLE (R132): A write of EN = 0 returns the lane to DISABLED with its transmitter off. -/
def execLaneDisable (p : Fin 10) (s : State) : Out := s.act fun s => s.pcxCfgWrite p.val (putBits (s.rd (PCX.CFG p.val)) 0 0 0)

/-- PCX_CFG_WRITE (R129): A write to PCX_p_CFG leaves MODE, FEC and AN_EN unchanged while EN = 1 and applies the other fields. -/
def execPcxCfgWrite (p : Fin 10) (value : Word) (s : State) : Out := s.act fun s => s.pcxCfgWrite p.val value.toNat

/-- SDS_PLL_LOSS (R128): Loss of SerDes PLL lock sends every enabled lane to NO_SIGNAL with its transmitter off. -/
def execSdsPllLoss (s : State) : Out := s.act fun s => s.pllLoss

/-- SDS_PLL_RELOCK (R128): The SerDes PLL relocks and enabled lanes turn their transmitters back on. -/
def execSdsPllRelock (s : State) : Out := s.act fun s => s.pllRelock

/-- LINK_SIGNAL_DETECT (R132): Signal present for 10 µs moves the lane from NO_SIGNAL to SYNC_WAIT. -/
def execLinkSignalDetect (p : Fin 10) (s : State) : Out := s.act fun s => s.signalDetect p.val

/-- LINK_SYNC_LOCK (R132): Block lock or code-group sync held for 100 µs moves the lane to AN or UP. -/
def execLinkSyncLock (p : Fin 10) (s : State) : Out := s.act fun s => s.syncLock p.val

/-- LINK_SYNC_LOSS (R132): Loss of sync in UP or RFAULT returns the lane to SYNC_WAIT and sets LINK_DOWN. -/
def execLinkSyncLoss (p : Fin 10) (s : State) : Out := s.act fun s => s.syncLoss p.val

/-- LINK_SIGNAL_LOSS (R132): Loss of signal returns the lane to NO_SIGNAL. -/
def execLinkSignalLoss (p : Fin 10) (s : State) : Out := s.act fun s => s.signalLoss p.val

/-- AN_COMPLETE (R130): Autonegotiation ends, and the lane moves to UP or REFUSED by the partner's result. -/
def execAnComplete (p : Fin 10) (gig : Bool) (fullDuplex : Bool) (s : State) : Out := s.act fun s => s.anComplete p.val gig fullDuplex

/-- AN_PARTNER_RESTART (R130): A partner restart of autonegotiation returns a REFUSED lane to AN. -/
def execAnPartnerRestart (p : Fin 10) (s : State) : Out := s.act fun s => s.anAgain p.val

/-- AN_RESTART (R132): CMD.AN_RESTART returns a REFUSED lane to AN. -/
def execAnRestart (p : Fin 10) (s : State) : Out := s.act fun s => s.anAgain p.val

/-- RFAULT_RECEIVE (R132): Received remote fault ordered sets move the lane from UP to RFAULT. -/
def execRfaultReceive (p : Fin 10) (s : State) : Out := s.act fun s => s.rfaultOn p.val

/-- RFAULT_END (R132): 128 columns without remote fault return the lane from RFAULT to UP. -/
def execRfaultEnd (p : Fin 10) (s : State) : Out := s.act fun s => s.rfaultOff p.val

/-- RX_FRAME (R137): A received frame passes PCS, MAC checks, the checksum and tag stages, and RDE at the port. -/
def execRxFrame (p : Fin 10) (bytes : List Byte) (fcsOk : Bool) (codeErr : Bool) (s : State) : Out := s.act fun s => s.rxFrame p.val bytes fcsOk codeErr

/-- RX_FIFO_DEQUEUE (R161): A frame leaves the receive FIFO toward RDE and the switch core in arrival order. -/
def execRxFifoDequeue (p : Fin 10) (s : State) : Out := s.act fun s => s.rxDequeue p.val

/-- PAUSE_REPEAT (R162): Every QUANTA × 256 bit times above the low watermark, the PAUSE frame repeats. -/
def execPauseRepeat (p : Fin 10) (s : State) : Out := s.act fun s => s.pauseRepeat p.val

/-- RX_PAUSE_FRAME (R164): A received PAUSE frame is obeyed or discarded by RXPAUSE_EN and counted. -/
def execRxPauseFrame (p : Fin 10) (quanta : BitVec 16) (s : State) : Out := s.act fun s => if (s.port p.val).admits then s.rxPause p.val quanta.toNat else s

/-- PAUSE_QUANTA_EXPIRE (R164): The pause time from a received PAUSE frame runs out and transmission resumes. -/
def execPauseQuantaExpire (p : Fin 10) (s : State) : Out := s.act fun s => s.onPort p.val fun q => { q with paused := false }

/-- TSQ_POP (R157): A read of TSQ_W2 removes the head entry of the transmit timestamp queue. -/
def execTsqPop (who : Requester) (p : Fin 10) (s : State) : Out := s.actFrom who fun s => s.tsqPop who p.val

/-- TSQ_FLUSH (R159): CMD.TSQ_FLUSH empties the TSQ and zeroes LOST. -/
def execTsqFlush (p : Fin 10) (s : State) : Out := s.act fun s => s.tsqFlush p.val

/-- PCX_CNT_CLR (R181): CMD.CNT_CLR zeroes every port counter and both CNTHALF registers. -/
def execPcxCntClr (p : Fin 10) (s : State) : Out := s.act fun s => s.pcxCntClr p.val

/-- PORT_RESET (R220): PTR resets port p's class L fields and discards every frame queued to the port. -/
def execPortReset (p : Fin 10) (s : State) : Out := s.act fun s => s.portReset p.val

/-- GCL_FLIP (R178): GCL_CTL.FLIP makes the other epoch pending, or is refused. -/
def execGclFlip (p : Fin 10) (s : State) : Out := s.act fun s => s.gclFlip p.val

/-- GCL_ENABLE_WRITE (R179): A write of GCL_CTL.EN enables or disables gating and completes a pending flip at once when EN becomes 0. -/
def execGclEnableWrite (p : Fin 10) (en : Bool) (flip : Bool) (s : State) : Out := s.act fun s => s.gclCtlWrite p.val en flip

/-- GCL_EPOCH_WRITE (R177): A write to a gate list epoch with drain count 1 changes nothing and sets GCL_REFUSED. -/
def execGclEpochWrite (p : Fin 10) (e : Fin 2) (w : GclWrite) (s : State) : Out := s.act fun s => s.gclEpochWrite p.val e.val w

end Sys2Proof.Machine
end

