-- ==== Sys2Proof/Machine/Vec.lean ====
section
/-!
DEFINITION. Machine/Vec.lean: the results of the vector, complex and phasor instructions on patterns of 128 bits (R516 to R534).
None is an FN that no table lists, or a field that is not zero where it must be.
-/

namespace Sys2Proof.Machine

/-! ## Lanes -/

/-- Lane `i` of a vector register (R516). -/
def lane (v i : Nat) : Nat := v / 2 ^ (32 * i) % 2 ^ 32

/-- A vector register from its lanes, lane 0 first. -/
def ofLanes (xs : List Nat) : Nat := (xs.zipIdx.map fun (x, i) => x % 2 ^ 32 * 2 ^ (32 * i)).sum

/-- An operation lane by lane. -/
def lanes2 (f : Nat → Nat → Nat) (a b : Nat) : Nat := ofLanes ((List.range 4).map fun i => f (lane a i) (lane b i))

/-- An operation lane by lane on three operands. -/
def lanes3 (f : Nat → Nat → Nat → Nat) (d a b : Nat) : Nat :=
  ofLanes ((List.range 4).map fun i => f (lane d i) (lane a i) (lane b i))

/-- A lane with one replaced. -/
def setLane (v i x : Nat) : Nat := putBits v (32 * i + 31) (32 * i) x

/-- A field marked v: bit [4] is zero (R519). -/
def isV (n : Nat) : Bool := decide (n < 16)

/-! ## VINT -/

/-- Signed value of a lane. -/
def s32 (x : Nat) : Int := toSigned 32 x

/-- A saturated lane. -/
def sat32 (i : Int) : Nat := ofSigned 32 (clampSigned 32 i)

/-- rhe(a, n) with rhe(a, 0) = a (R520). -/
def sarRound (a n : Nat) : Nat := ofSigned 32 (rhe (s32 a) n)

/-- VINT (R520): `va`, `vb` are the registers' contents, `rb` the field. -/
def vintOp (fn rd ra rb va vb : Nat) : Option Nat :=
  let bin (f : Nat → Nat → Nat) : Option Nat := if isV rd && isV ra && isV rb then some (lanes2 f va vb) else none
  let imm (f : Nat → Nat) : Option Nat := if isV rd && isV ra then some (lanes2 (fun a _ => f a) va 0) else none
  match fn with
  | 0x00 => bin fun a b => (a + b) % 2 ^ 32
  | 0x01 => bin fun a b => ofSigned 32 (a - b)
  | 0x02 => bin fun a b => sat32 (s32 a + s32 b)
  | 0x03 => bin fun a b => sat32 (s32 a - s32 b)
  | 0x04 => bin fun a b => a * b % 2 ^ 32
  | 0x05 => bin fun a b => sat32 (rhe (s32 a * s32 b) 31)
  | 0x06 => bin fun a b => ofSigned 32 (min (s32 a) (s32 b))
  | 0x07 => bin fun a b => ofSigned 32 (max (s32 a) (s32 b))
  | 0x08 => if rb = 0 then imm fun a => sat32 (s32 a).natAbs else none
  | 0x09 => bin fun a b => a &&& b
  | 0x0A => bin fun a b => a ||| b
  | 0x0B => bin fun a b => a ^^^ b
  | 0x0C => imm fun a => shiftLeft 32 a rb
  | 0x0D => imm fun a => shiftSar 32 a rb
  | 0x0E => imm fun a => sarRound a rb
  | _ => none

/-! ## VFLT -/

/-- A binary32 operation on two patterns. -/
def f32 (f : Fp → Fp → Fp) (a b : Nat) : Nat := to32 (f (fp32 a) (fp32 b))

/-- VCVTI of one lane (R521). -/
def toInt32 (a n : Nat) : Nat :=
  match fp32 a with
  | .nan => 0
  | .inf neg => if neg then 2 ^ 31 else 2 ^ 31 - 1
  | .num _ v => sat32 (rheRat (v * ((2 ^ n : Nat) : Rat)))

/-- VFLT (R521). -/
def vfltOp (fn rd ra rb vd va vb : Nat) : Option Nat :=
  let bin (f : Fp → Fp → Fp) : Option Nat := if isV rd && isV ra && isV rb then some (lanes2 (f32 f) va vb) else none
  let one (f : Fp → Fp) : Option Nat :=
    if isV rd && isV ra && decide (rb = 0) then some (lanes2 (fun a _ => to32 (f (fp32 a))) va 0) else none
  match fn with
  | 0x00 => bin (Fp.add rnd32)
  | 0x01 => bin (Fp.sub rnd32)
  | 0x02 => bin (Fp.mul rnd32)
  | 0x03 => if isV rd && isV ra && isV rb then
      some (lanes3 (fun d a b => to32 (Fp.fma rnd32 (fp32 d) (fp32 a) (fp32 b))) vd va vb) else none
  | 0x04 => bin Fp.min
  | 0x05 => bin Fp.max
  | 0x06 => one fun x => if x.neg? then x.negate else x
  | 0x07 => one Fp.negate
  | 0x08 => one (Fp.sqrt rnd32)
  | 0x09 => if isV rd && isV ra then
      some (lanes2 (fun a _ => to32 (rnd32 false ((s32 a : Rat) / ((2 ^ rb : Nat) : Rat)))) va 0) else none
  | 0x0A => if isV rd && isV ra then some (lanes2 (fun a _ => toInt32 a rb) va 0) else none
  | _ => none

/-! ## VCPX -/

/-- A complex value. -/
abbrev Cpx := Fp × Fp

/-- Complex value `k` of a vector register (R516). -/
def cpx (v k : Nat) : Cpx := (fp32 (lane v (2 * k)), fp32 (lane v (2 * k + 1)))

/-- A vector register from two complex values. -/
def ofCpx (a b : Cpx) : Nat := ofLanes [to32 a.1, to32 a.2, to32 b.1, to32 b.2]

/-- The exact product of complex values, each component a sum of two exact products, closed by a rounding. -/
def Cpx.mulBy (rnd : Rounding) (a b : Cpx) : Cpx :=
  ((a.1.mul exactly b.1).sub rnd (a.2.mul exactly b.2), (a.1.mul exactly b.2).add rnd (a.2.mul exactly b.1))

/-- A sum of complex values, each component rounded once. -/
def Cpx.addBy (rnd : Rounding) (a b : Cpx) : Cpx := (a.1.add rnd b.1, a.2.add rnd b.2)

/-- VCPX (R522): `g` is g[rb]. -/
def vcpxOp (fn rd ra rb vd va vb g : Nat) : Option Nat :=
  let each (f : Nat → Cpx) : Nat := ofCpx (f 0) (f 1)
  let vvv := isV rd && isV ra && isV rb
  match fn with
  | 0x00 => if vvv then some (each fun k => (cpx va k).addBy rnd32 (cpx vb k)) else none
  | 0x01 => if vvv then some (each fun k => (cpx va k).addBy rnd32 ((cpx vb k).1.negate, (cpx vb k).2.negate)) else none
  | 0x02 => if vvv then some (each fun k => (cpx va k).mulBy rnd32 (cpx vb k)) else none
  | 0x03 => if vvv then some (each fun k => (cpx vd k).addBy rnd32 ((cpx va k).mulBy exactly (cpx vb k))) else none
  | 0x04 => if isV rd && isV ra && decide (rb = 0) then some (each fun k => ((cpx va k).1, (cpx va k).2.negate)) else none
  | 0x05 => if isV rd && isV ra then some (each fun k => (cpx va k).mulBy rnd32 (cosSinAu (toSigned 16 g))) else none
  | _ => none

/-! ## Comparisons of VMOV -/

/-- VFCMPEQ, VFCMPLT and VFCMPLE on lane 0 (R523). -/
def vfCompare (fn va vb : Nat) : Bool :=
  let a := fp32 (lane va 0)
  let b := fp32 (lane vb 0)
  match fn with
  | 0x05 => a.eq b
  | 0x06 => a.lt b
  | _ => a.eq b || a.lt b

/-! ## Phasor unit -/

/-- The magnitude of a complex value, rounded once (R533). -/
def Cpx.mag (a : Cpx) : Fp := ((a.1.mul exactly a.1).add exactly (a.2.mul exactly a.2)).sqrt rnd32

/-- An infinite part beside a NaN: no magnitude is stated. -/
def Cpx.openMag (a : Cpx) : Bool :=
  match a with
  | (.inf _, .nan) => true
  | (.nan, .inf _) => true
  | _ => false

/-- The lane that PMAG writes for complex value `k` (R533). -/
def magLane (va k : Nat) : Nat :=
  if (cpx va k).openMag then (Config.openMag (lane va (2 * k)) (lane va (2 * k + 1))).toNat else to32 (cpx va k).mag

/-- PMAG (R533). -/
def pmagOp (va : Nat) : Nat := ofLanes [magLane va 0, magLane va 1, 0, 0]

/-- PANG (R533): none where a part of c0 is not finite, for which no angle is stated. -/
def pangOp (va : Nat) : Option Int :=
  let a := cpx va 0
  if a.1.finite ∧ a.2.finite then some (angleAu a.1.rat a.2.rat) else none

/-- A complex product, each operation in binary64 (R534). -/
def Cpx.mul64 (a b : Cpx) : Cpx :=
  ((a.1.mul rnd64 b.1).sub rnd64 (a.2.mul rnd64 b.2), (a.1.mul rnd64 b.2).add rnd64 (a.2.mul rnd64 b.1))

/-- a of R534: e^(j120°) rounded to binary64. -/
def unitA : Cpx := (.num true (-1 / 2), .num false sin120)

/-- A third of a complex value in binary64, then each component rounded to binary32. -/
def Cpx.third (a : Cpx) : Cpx :=
  ((a.1.div rnd64 (.num false 3)).round rnd32, (a.2.div rnd64 (.num false 3)).round rnd32)

/-- A complex zero. -/
def Cpx.zero : Cpx := (.num false 0, .num false 0)

/-- (x + p·y + q·z) / 3, each operation in binary64 (R534). -/
def seqOf (p q x y z : Cpx) : Cpx := ((x.addBy rnd64 (p.mul64 y)).addBy rnd64 (q.mul64 z)).third

/-- PSEQ01 (R534). -/
def pseq01Op (va vb : Nat) : Nat :=
  let v0 := (((cpx va 0).addBy rnd64 (cpx va 1)).addBy rnd64 (cpx vb 0)).third
  ofCpx v0 (seqOf unitA (unitA.mul64 unitA) (cpx va 0) (cpx va 1) (cpx vb 0))

/-- PSEQ2 (R534). -/
def pseq2Op (va vb : Nat) : Nat :=
  ofCpx (seqOf (unitA.mul64 unitA) unitA (cpx va 0) (cpx va 1) (cpx vb 0)) Cpx.zero

/-- The sum of R530 over coefficients (patterns) and samples, in ascending n. -/
def pdftSum (xs : List ((Nat × Nat) × Int)) : Cpx :=
  let r := xs.foldl (fun (acc : Cpx) (w, x) =>
    (acc.1.add rnd64 ((fp32 w.1).mul rnd64 (Fp.ofInt x)), acc.2.add rnd64 ((fp32 w.2).mul rnd64 (Fp.ofInt x)))) Cpx.zero
  (r.1.round rnd32, r.2.round rnd32)

/-- Validities of quality entries rank good, questionable, invalid (R315). -/
def entryRank (q : Nat) : Nat := match bits q 1 0 with
  | 0 => 0 | 3 => 1 | _ => 2

/-- Lane 2 of PDFT (R530): the worst validity, the OR of test and of the predicted marks. -/
def entriesWorst (qs : List Nat) : Nat :=
  let worst := qs.foldl (fun b q => if entryRank b < entryRank q then bits q 1 0 else b) 0
  worst + qs.foldl (fun b q => b ||| (q &&& 0xC)) 0

end Sys2Proof.Machine
end

