-- ==== Sys2Proof/Machine/Phx.lean ====
section
/-!
DEFINITION. Machine/Phx.lean: VMOV and the phasor unit's reads of sample windows (R523 to R534).
-/

namespace Sys2Proof.Machine

/-! ## VMOV -/

/-- The fields of VMOV that its table lists (R523). -/
def vmovLegal (fn rd ra rb : Nat) : Bool :=
  match fn with
  | 0x00 => isV ra && decide (rb < 4)
  | 0x01 => isV rd && decide (rb < 4)
  | 0x02 => isV rd && decide (rb = 0)
  | 0x03 => isV rd && isV ra && decide (rb = 0)
  | 0x04 => isV rd && decide (ra = 0 ∧ rb = 0)
  | 0x05 | 0x06 | 0x07 => isP rd && isV ra && isV rb
  | _ => false

/-- VMOV (R523). -/
def Regs.vmov (r : Regs) (fn rd ra rb : Nat) : Regs :=
  match fn with
  | 0x00 => r.setG rd (toReg 32 (lane (r.getV ra) rb))
  | 0x01 => r.setV rd (setLane (r.getV rd) rb (r.getG ra))
  | 0x02 => r.setV rd (ofLanes (List.replicate 4 (r.getG ra)))
  | 0x03 => r.setV rd (r.getV ra)
  | 0x04 => r.setV rd 0
  | _ => r.setP rd (vfCompare fn (r.getV ra) (r.getV rb))

/-! ## The window word -/

/-- Where the value of a slot stands (R529). -/
def slotAddr (base ch i : Nat) : Nat := (base + ch * 0x400 + i * 4) % 2 ^ 32

/-- Where the quality entry of a slot stands (R529). -/
def entryAddr (base ch i : Nat) : Nat := (base + 0x1000000 + ch * 0x80 + i / 2) % 2 ^ 32

/-- The quality entry of a slot in its byte (R337). -/
def entryOf (b i : Nat) : Nat := if i % 2 = 0 then bits b 3 0 else bits b 7 4

/-- CH, END and SET of a window word (R528). -/
def wordCh (w : Nat) : Nat := bits w 13 0
def wordEnd (w : Nat) : Nat := bits w 23 16
def wordSet (w : Nat) : Nat := bits w 28 24

/-- A slot `k` behind END. -/
def slotBehind (w k : Nat) : Nat := (wordEnd w + 256 - k % 256) % 256

/-! ## PDFT -/

/-- The slots of PDFT, oldest first (R530). -/
def pdftSlots (w len : Nat) : List Nat := (List.range len).map fun n => slotBehind w (len - 1 - n)

/-- The accesses of PDFT in ascending sample order (R529, R530). -/
def pdftReads (base w len : Nat) : List (Nat × Nat) :=
  (pdftSlots w len).flatMap fun i => [(slotAddr base (wordCh w) i, 4), (entryAddr base (wordCh w) i, 1)]

/-- Values and quality entries of the slots read. -/
def samplesOf : List Nat → List Nat → List (Nat × Nat)
  | i :: is, v :: b :: vs => (v, entryOf b i) :: samplesOf is vs
  | _, _ => []

/-- The result of PDFT (R530). -/
def pdftOp (cs : List (Nat × Nat)) (xs : List (Nat × Nat)) : Nat :=
  let c := pdftSum (cs.zip (xs.map fun x => toSigned 32 x.1))
  let qs := xs.map (·.2)
  ofLanes [to32 c.1, to32 c.2, entriesWorst qs, (qs.filter fun q => bits q 1 0 ≠ 0).length]

/-- Reads, as watchpoints see them. -/
def readsAcc (rs : List (Nat × Nat)) : List (Nat × Bool) := rs.map fun x => (x.1, false)

/-- PDFT (R530, R531). -/
def pdft (s : State) (n : Nat) (r : Regs) (rd base w : Nat) : Eff :=
  let k := wordSet w
  let len := s.getF (CYC.PHX_CFG_LEN k)
  if ¬ s.flag (CYC.PHX_CFG_LOCK k) ∨ len = 0 then .done s (r.setV rd (ofLanes [0, 0, 1, 0])) []
  else
    let rs := pdftReads base w len
    match s.coreLoads n rs with
    | .fault s x a => .fault s x a
    | .wait => .wait
    | .ok s vs =>
      .done s (r.setV rd (pdftOp ((List.range len).map (s.phxAt k)) (samplesOf (pdftSlots w len) vs))) (readsAcc rs)

/-! ## PSWF and PSWQ -/

/-- The four slots of PSWF and PSWQ, newest first; none where the window word gives none (R532). -/
def pswSlots (w : Nat) : Option (List Nat) :=
  let code := bits w 35 32
  let m := bits w 63 40 * gridN code / 65536
  if 8 < code ∨ 255 < m + 3 then none else some ((List.range 4).map fun q => slotBehind w (m + q))

/-- PSWF and PSWQ read their slots in ascending sample order, oldest first (R529, R532). -/
def pswReads (addr : Nat → Nat) (width : Nat) (is : List Nat) : List (Nat × Nat) := is.reverse.map fun i => (addr i, width)

/-- PSWF (R532). -/
def pswf (s : State) (n : Nat) (r : Regs) (rd base w : Nat) : Eff :=
  match pswSlots w with
  | none => .done s (r.setV rd 0) []
  | some is =>
    let rs := pswReads (slotAddr base (wordCh w)) 4 is
    match s.coreLoads n rs with
    | .fault s x a => .fault s x a
    | .wait => .wait
    | .ok s vs => .done s (r.setV rd (ofLanes vs.reverse)) (readsAcc rs)

/-- Quality entries of four slots as a word (R532). -/
def entriesWord (xs : List (Nat × Nat)) : Nat := (xs.zipIdx.map fun ((b, i), q) => entryOf b i * 16 ^ q).sum

/-- PSWQ (R532). -/
def pswq (s : State) (n : Nat) (r : Regs) (rd base w : Nat) : Eff :=
  match pswSlots w with
  | none => .done s (r.setG rd 0x1111) []
  | some is =>
    let rs := pswReads (entryAddr base (wordCh w)) 1 is
    match s.coreLoads n rs with
    | .fault s x a => .fault s x a
    | .wait => .wait
    | .ok s vs => .done s (r.setG rd (entriesWord (vs.reverse.zip is))) (readsAcc rs)

/-- PANG's result (R533): open, but the same for the same operands (R518), where a part of c0 is not finite. -/
def pangReg (va : Nat) : Nat :=
  match pangOp va with
  | some x => ofSigned 64 x
  | none => toReg 64 (ofSigned 64 (toSigned 16 (Config.openAngle (lane va 0) (lane va 1))))

end Sys2Proof.Machine
end

