-- ==== Sys2Proof/Machine/PhxCmd.lean ====
section
/-!
DEFINITION. Machine/PhxCmd.lean: the phasor instructions (R527 to R534).
-/

namespace Sys2Proof.Machine


/-- PDFT (R530): PDFT computes a phasor over sample window slots with a coefficient set. -/
def execPdft (i : Issue) (rd : Fin 32) (ra : Fin 32) (rb : Fin 32) (s : State) : Out := s.issue i (badOnCycle i (isV rd.val)) fun s r => pdft s i.core.val r rd.val (r.getG ra.val) (r.getG rb.val)

/-- PSWF (R532): PSWF reads four sample values from a window. -/
def execPswf (i : Issue) (rd : Fin 32) (ra : Fin 32) (rb : Fin 32) (s : State) : Out := s.issue i (badOnCycle i (isV rd.val)) fun s r => pswf s i.core.val r rd.val (r.getG ra.val) (r.getG rb.val)

/-- PSWQ (R532): PSWQ reads four quality entries from a window. -/
def execPswq (i : Issue) (rd : Fin 32) (ra : Fin 32) (rb : Fin 32) (s : State) : Out := s.issue i (badOnCycle i true) fun s r => pswq s i.core.val r rd.val (r.getG ra.val) (r.getG rb.val)

/-- PMAG (R533): PMAG computes the magnitudes of two complex values. -/
def execPmag (i : Issue) (rd : Fin 32) (ra : Fin 32) (rb : Fin 32) (s : State) : Out := s.issue i (badOnCycle i (isV rd.val && isV ra.val && decide (rb.val = 0))) fun s r => .done s (r.setV rd.val (pmagOp (r.getV ra.val))) []

/-- PANG (R533): PANG computes the angle of c0 in au. -/
def execPang (i : Issue) (rd : Fin 32) (ra : Fin 32) (rb : Fin 32) (s : State) : Out := s.issue i (badOnCycle i (isV ra.val && decide (rb.val = 0))) fun s r => .done s (r.setG rd.val (pangReg (r.getV ra.val))) []

/-- PSEQ01 (R534): PSEQ01 computes zero and positive sequence. -/
def execPseq01 (i : Issue) (rd : Fin 32) (ra : Fin 32) (rb : Fin 32) (s : State) : Out := s.issue i (badOnCycle i (isV rd.val && isV ra.val && isV rb.val)) fun s r => .done s (r.setV rd.val (pseq01Op (r.getV ra.val) (r.getV rb.val))) []

/-- PSEQ2 (R534): PSEQ2 computes negative sequence. -/
def execPseq2 (i : Issue) (rd : Fin 32) (ra : Fin 32) (rb : Fin 32) (s : State) : Out := s.issue i (badOnCycle i (isV rd.val && isV ra.val && isV rb.val)) fun s r => .done s (r.setV rd.val (pseq2Op (r.getV ra.val) (r.getV rb.val))) []

end Sys2Proof.Machine
end

