-- ==== Sys2Proof/Machine/PubCmd.lean ====
section
/-!
DEFINITION. Machine/PubCmd.lean: the commands of the publication block.
-/

namespace Sys2Proof.Machine


/-- GOOSE_REPEAT (R581): A GOOSE repeat interval expires and the state is sent again with the next sqNum. -/
def execGooseRepeat (n : Fin 4352) (s : State) : Out := s.act fun s => s.repeatEnds n.val

/-- CLOG_POP (R588): A read of PUB_CLOG_W3 removes the head of the correction log. -/
def execClogPop (who : Requester) (s : State) : Out := s.actFrom who fun s => s.clogPop who

/-- PUB_FLIP (R571): PUB_CMD.FLIP switches the active publication epoch. -/
def execPubFlip (s : State) : Out := s.act fun s => s.pubFlipped

/-- PUB_ENTRY_WRITE (R573): A write to a publication entry is accepted only in an inactive, drained epoch and checked when it sets EN. -/
def execPubEntryWrite (e : Fin 2) (n : Fin 4352) (w : Fin 8) (value : Word) (s : State) : Out := s.act fun s => s.pubEntryWrite e.val n.val w.val value.toNat

/-- PUB_CNT_CLR (R605): PUB_CMD.CNT_CLR zeroes every PUB counter. -/
def execPubCntClr (s : State) : Out := s.act fun s => s.pubCntClr

/-- PUB_SCMD_STDN (R589): PUB_SCMD.GO issues a software STAND-DOWN of a kind 2 publication. -/
def execPubScmdStdn (n : Fin 4352) (s : State) : Out := s.act fun s => s.pubScmd n.val

/-- GOOSE_RECEIVE (R597): A received GOOSE frame is matched, checked and written to its subscription record, with event posts. -/
def execGooseReceive (s : State) : Out := s.act fun s => s.gooseReceive

/-- GOOSE_TAL_EXPIRE (R598): A subscription's timeAllowedtoLive passes and its record is marked EXPIRED and invalid. -/
def execGooseTalExpire (m : Fin 4096) (s : State) : Out := s.act fun s => s.talEnds m.val

/-- ALIVE_TOGGLE (R602): Every 500 µs ALIVE toggles while enabled and the cluster runs. -/
def execAliveToggle (s : State) : Out := s.act fun s => s.aliveToggle

end Sys2Proof.Machine
end

