-- ==== Sys2Proof/Machine/RdeCmd.lean ====
section
/-!
DEFINITION. Machine/RdeCmd.lean: the commands of redundancy and the pair.
-/

namespace Sys2Proof.Machine

/-- An entry of a DIGEST message as a number, a digest and a fault bit. -/
def digestItem (i : DigestItem) : Nat × Nat × Bool := (i.tenant.val, i.digest.toNat, i.fault)

/-- An entry of a PUBSTATE message. -/
def snapOf (p : PubState) : PubSnap := ⟨p.pub, p.stNum.toNat, p.sqNum.toNat, p.curve, p.values.map BitVec.toNat⟩


/-- RDE_CFG_WRITE (R246): A write of the redundancy mode and ports takes effect only with the named ports disabled, and a pair mode starts the pair state machine. -/
def execRdeCfgWrite (value : Word) (s : State) : Out := s.act fun s => s.rdeCfgWrite value.toNat

/-- SOURCE_AGE_OUT (R258): A source entry unused for AGE ms becomes free. -/
def execSourceAgeOut (entry : Fin 8192) (s : State) : Out := s.act fun s => s.sourceAgeOut entry.val

/-- DD_FLUSH (R260): RDE_CMD.DD_FLUSH frees every source entry. -/
def execDdFlush (s : State) : Out := s.act fun s => s.ddFlush

/-- PROXY_FLIP (R263): RDE_CMD.PROXY_FLIP switches the active proxy epoch. -/
def execProxyFlip (s : State) : Out := s.act fun s => s.proxyFlip

/-- PROXY_ENTRY_WRITE (R263): A write to a proxy entry is accepted only in an inactive, drained epoch. -/
def execProxyEntryWrite (e : Fin 2) (m : Fin 512) (value : DWord) (s : State) : Out := s.act fun s => s.proxyWrite e.val m.val value.toNat

/-- RDE_CNT_CLR (R296): RDE_CMD.CNT_CLR zeroes every RDE counter. -/
def execRdeCntClr (s : State) : Out := s.act fun s => s.rdeCntClr

/-- HEARTBEAT_SEND (R273): Every 62.5 µs each pair module sends a HEARTBEAT on both lanes. -/
def execHeartbeatSend (s : State) : Out := s.act fun s => s.heartbeatSend

/-- HEARTBEAT_RECEIVE (R274): A partner HEARTBEAT is deduplicated and drives the pair state machine. -/
def execHeartbeatReceive (seq : HalHead) (state : PairCode) (leads : Bool) (serial : DWord) (tick : Word) (s : State) : Out := s.act fun s => s.heartbeatReceive seq.lane.val seq.num.toNat (pairOf state) leads serial.toNat tick.toNat

/-- HEARTBEAT_MISS (R275): A heartbeat interval passes without a partner heartbeat on either lane and RDE_HB_MISS counts it. -/
def execHeartbeatMiss (s : State) : Out := s.act fun s => s.heartbeatMiss

/-- PAIR_SEEK_TIMEOUT (R282): SEEKTO × 10 ms in SEEK without a partner moves the pair to ALONE. -/
def execPairSeekTimeout (s : State) : Out := s.act fun s => s.seekTimeout

/-- HALYARD_TICK_RECEIVE (R278): The follower takes the leader's TICK message and adopts its reference when B_t differs. -/
def execHalyardTickReceive (seq : HalHead) (tick : Word) (sec : BitVec 48) (ns : BitVec 30) (fw : Word) (base : BitVec 16) (blk : BitVec 13) (s : State) : Out := s.act fun s => s.halTick seq.lane.val seq.num.toNat tick.toNat (sec.toNat * 1000000000 + ns.toNat) fw.toNat base.toNat blk.toNat

/-- DIGEST_RECEIVE (R286): A partner DIGEST message is taken and compared with the local digest. -/
def execDigestReceive (seq : HalHead) (tick : Word) (items : List DigestItem) (s : State) : Out := s.act fun s => s.digestReceive seq.lane.val seq.num.toNat tick.toNat (items.map digestItem)

/-- PAGELIST_RECEIVE (R291): The donor takes PAGELIST and fixes the target tick. -/
def execPagelistReceive (seq : HalHead) (t : Fin 1024) (crcs : PageCrcs) (s : State) : Out := s.act fun s => s.pageListReceive seq.lane.val seq.num.toNat t.val crcs.count (crcs.crcs.map BitVec.toNat)

/-- XFER_COPY (R291): After the tenant's last yield before the target tick, the donor copies changed pages and publication state and sends them. -/
def execXferCopy (t : Fin 1024) (s : State) : Out := s.act fun s => s.xferCopy t.val

/-- PAGE_RECEIVE (R273): The joiner takes a PAGE message of transferred data. -/
def execPageReceive (seq : HalHead) (t : Fin 1024) (target : Word) (index : Nat) (quarter : Fin 4) (data : List Byte) (s : State) : Out := s.act fun s => s.pageReceive seq.lane.val seq.num.toNat t.val target.toNat index quarter.val data

/-- PUBSTATE_RECEIVE (R273): The joiner takes a PUBSTATE message of publication state. -/
def execPubstateReceive (seq : HalHead) (t : Fin 1024) (target : Word) (pubs : List PubState) (s : State) : Out := s.act fun s => s.pubStateReceive seq.lane.val seq.num.toNat t.val target.toNat (pubs.map snapOf)

/-- XFER_END_RECEIVE (R291): XFER_END makes the joiner install the transfer and reply done or retry. -/
def execXferEndReceive (seq : HalHead) (t : Fin 1024) (target : Word) (frames : Nat) (reply : Option Bool) (s : State) : Out := s.act fun s => s.xferEndReceive seq.lane.val seq.num.toNat t.val target.toNat frames reply

/-- RDE_RESUME (R290): RDE_TCMD RESUME returns a tenant to SHADOW, or to ACTIVE while ALONE. -/
def execRdeResume (t : Fin 1024) (s : State) : Out := s.act fun s => s.rdeResume t.val

/-- RDE_SILENCE (R290): RDE_TCMD SILENCE makes a pair tenant SILENT. -/
def execRdeSilence (t : Fin 1024) (s : State) : Out := s.act fun s => s.rdeSilence t.val

/-- RDE_RETRANSFER (R290): RDE_TCMD RETRANSFER returns a pair tenant to WAIT and restarts its transfer. -/
def execRdeRetransfer (t : Fin 1024) (s : State) : Out := s.act fun s => s.rdeRetransfer t.val

end Sys2Proof.Machine
end

