-- ==== Sys2Proof/Machine/ResetCmd.lean ====
section
/-!
DEFINITION. Machine/ResetCmd.lean: the commands of resets, power states, the watchdog, the NVS controller and the supplies.
-/

namespace Sys2Proof.Machine


/-- LC_COMPLETE (R712): A life-cycle transition completes in NVS and gives LCT. -/
def execLcComplete (good : Bool) (s : State) : Out := s.act fun s => s.lcComplete good

/-- POR (R728): PWR_GOOD low or VDD_AON below threshold holds the whole module in reset. -/
def execPor (damaged : List (Fin 8192)) (s : State) : Out := .next (s.por (damaged.map (·.val)))

/-- PIN (R729): RESET_N low for at least 1 µs resets every field but classes P and N. -/
def execPin (s : State) : Out := .next s.pinReset

/-- SSR (R728): SYS_RST_CMD OP SSR gives a software system reset. -/
def execSsr (who : Requester) (key : BitVec 16) (s : State) : Out := s.actWrite who fun s => s.rstCmdWrite who (key.toNat * 65536 + 1)

/-- RESET_CLR (R731): SYS_RST_CMD OP CLR stops the cycle cluster, stops tenants and resets class C fields. -/
def execResetClr (who : Requester) (key : BitVec 16) (s : State) : Out := s.actWrite who fun s => s.rstCmdWrite who (key.toNat * 65536 + 2)

/-- RESET_RELEASE (R728): A held reset is released and the module starts from its reset state. -/
def execResetRelease (s : State) : Out := .next s.resetRelease

/-- BOOT_ROM (R749): S0 runs the boot ROM, verifies and loads a boot copy and jumps to it. -/
def execBootRom (s : State) : Out := s.act fun s => s.bootRom

/-- PWR_LULL (R739): SYS_PWR_CMD LULL gates the cycle cores and CK_SIG, or is refused. -/
def execPwrLull (who : Requester) (key : BitVec 16) (s : State) : Out := s.actWrite who fun s => s.pwrCmdWrite who (key.toNat * 65536 + 1)

/-- PWR_RUN (R738): SYS_PWR_CMD RUN resumes clocks from Lull. -/
def execPwrRun (who : Requester) (key : BitVec 16) (s : State) : Out := s.actWrite who fun s => s.pwrCmdWrite who (key.toNat * 65536 + 2)

/-- PWR_CALM (R738): SYS_PWR_CMD CALM starts Calm entry. -/
def execPwrCalm (who : Requester) (key : BitVec 16) (s : State) : Out := s.actWrite who fun s => s.pwrCmdWrite who (key.toNat * 65536 + 3)

/-- CALM_ENTER (R742): Once pending operations end, the module enters Calm with only the always-on domain running. -/
def execCalmEnter (s : State) : Out := s.act fun s => s.calmEnter

/-- WAKE_TIMER (R743): TOD seconds reaching SYS_WAKE_SEC wakes the module from Calm. -/
def execWakeTimer (s : State) : Out := .next s.wakeTimer

/-- WAKE_GPIO (R743): The selected GPIO[0] edge wakes the module from Calm. -/
def execWakeGpio (rising : Bool) (s : State) : Out := .next (s.wakeGpio rising)

/-- WDT_ENABLE (R754): A write of SYS_WDT_CFG.EN starts the global watchdog. -/
def execWdtEnable (who : Requester) (value : Word) (s : State) : Out := s.actWrite who fun s => if s.platform who then s.wdtCfg (putBits value.toNat 31 31 1) else s.sysLevel

/-- WDT_KICK (R754): A kick pair restarts the global watchdog; a wrong value gives WDR. -/
def execWdtKick (who : Requester) (value : Word) (s : State) : Out := s.actWrite who fun s => s.wdtKick (value.toNat % 65536)

/-- WDT_HALF (R754): Half of TIMEOUT passes without a kick and WDT_HALF sets. -/
def execWdtHalf (s : State) : Out := s.act fun s => s.wdtHalf

/-- WDT_EXPIRE (R754): The global watchdog expires. -/
def execWdtExpire (s : State) : Out := s.act fun s => s.wdtExpire

/-- CORE_RELEASE (R746): A write of SYS_CORE_REL releases S1 to S3 from reset. -/
def execCoreRelease (who : Requester) (value : Word) (s : State) : Out := s.actWrite who fun s => if s.platform who then s.coreRelease value.toNat else s.sysLevel

/-- UNMAP_LOG_CLEAR (R756): Clearing SYS_STATUS.UNMAP empties the unmapped access log. -/
def execUnmapLogClear (s : State) : Out := s.act fun s => s.unmapClear

/-- NVS_WRITE (R758): NVS WRITE copies bytes from memory to NVS, or is refused. -/
def execNvsWrite (who : Requester) (s : State) : Out := s.actWrite who fun s => s.nvsStart who .write

/-- NVS_ERASE (R758): NVS ERASE sets bytes of NVS to 0xFF, or is refused. -/
def execNvsErase (who : Requester) (s : State) : Out := s.actWrite who fun s => s.nvsStart who .erase

/-- NVS_BKD (R758): NVS BKD stores a boot-key digest in an unset slot, or is refused. -/
def execNvsBkd (who : Requester) (index : Fin 4) (s : State) : Out := s.actWrite who fun s => s.nvsStart who (.bkd index.val)

/-- NVS_CMD_DONE (R758): An NVS command completes or fails and sets NVS_DONE or NVS_ERR. -/
def execNvsCmdDone (good : Bool) (s : State) : Out := s.act fun s => s.nvsDone good

/-- NVS_REFRESH (R797): In idle NVS time the controller rewrites pages due for refresh. -/
def execNvsRefresh (s : State) : Out := s.act fun s => s.nvsRefresh

/-- RAIL_OUT_OF_RANGE (R788): A supply rail leaves its operating range while PWR_GOOD stays high; ALIVE stops toggling after at most one further transition and SAFE_OUT is driven only while VDD_AON is above its threshold. -/
def execRailOutOfRange (aon : Bool) (s : State) : Out := .next (s.railOut aon)

end Sys2Proof.Machine
end

