-- ==== Sys2Proof/Machine/SecCmd.lean ====
section
/-!
DEFINITION. Machine/SecCmd.lean: the commands of the key store, the engine, the life cycle and Ensign.
-/

namespace Sys2Proof.Machine


/-- KEY_WRITE (R696): Key WRITE stores a key and attributes into a slot, or is refused. -/
def execKeyWrite (who : Requester) (slot : Fin 8192) (s : State) : Out := s.act fun s => s.secFrom who fun s => s.keyWrite who slot.val

/-- KEY_READ (R696): Key READ copies a slot's attributes without key bits. -/
def execKeyRead (who : Requester) (slot : Fin 8192) (s : State) : Out := s.act fun s => s.secFrom who fun s => s.keyRead who slot.val

/-- KEY_ERASE (R696): Key ERASE sets a slot to zero. -/
def execKeyErase (who : Requester) (slot : Fin 8192) (s : State) : Out := s.act fun s => s.secFrom who fun s => s.keyErase who slot.val

/-- KEY_LINK (R696): Key LINK writes only EXPIRY and NEXT of a slot. -/
def execKeyLink (who : Requester) (slot : Fin 8192) (s : State) : Out := s.act fun s => s.secFrom who fun s => s.keyLink who slot.val

/-- KEY_COMMIT (R697): A key command's NVS commit finishes and BUSY clears, or the slot keeps its old contents. -/
def execKeyCommit (good : Bool) (s : State) : Out := s.act fun s => s.keyCommit good

/-- KEY_EXPIRE (R700): At a tick boundary reaching EXPIRY a slot becomes EXPIRED. -/
def execKeyExpire (s : State) : Out := s.act fun s => s.keyExpire

/-- ENG_HMAC_INIT (R707): HMAC_INIT starts a supervisory MAC with a slot. -/
def execEngHmacInit (who : Requester) (slot : Fin 8192) (s : State) : Out := s.act fun s => s.secFrom who fun s => s.hmacInit who slot.val

/-- ENG_DIN (R707): A write of SEC_ENG_DIN appends four bytes to the running HMAC. -/
def execEngDin (who : Requester) (value : Word) (s : State) : Out := s.act fun s => s.secFrom who fun s => s.engDin value.toNat

/-- ENG_HMAC_FINAL (R707): HMAC_FINAL produces the MAC into the data buffer. -/
def execEngHmacFinal (who : Requester) (tailb : Fin 4) (s : State) : Out := s.act fun s => s.secFrom who fun s => s.hmacFinal who tailb.val

/-- ENG_SIGN256 (R707): SIGN256 signs a digest with an ECDSA P-256 slot. -/
def execEngSign256 (who : Requester) (slot : Fin 8192) (s : State) : Out := s.act fun s => s.secFrom who fun s => s.sign256 who slot.val

/-- ENG_VERIFY256 (R707): VERIFY256 verifies a P-256 signature. -/
def execEngVerify256 (who : Requester) (s : State) : Out := s.act fun s => s.secFrom who fun s => s.verify256 who

/-- ENG_VERIFY384 (R707): VERIFY384 verifies a P-384 signature. -/
def execEngVerify384 (who : Requester) (s : State) : Out := s.act fun s => s.secFrom who fun s => s.verify384 who

/-- ENG_COMPLETE (R708): An engine operation completes, writes its result and sets ENG_DONE. -/
def execEngComplete (s : State) : Out := s.act fun s => s.engComplete

/-- LC_PROVISION (R710): LC PROVISION moves BLANK to PROVISION. -/
def execLcProvision (who : Requester) (key : BitVec 16) (s : State) : Out := s.act fun s => s.secFrom who fun s => s.lcProvision who key.toNat

/-- LC_OWNER_ROOT (R710): LC OWNER_ROOT writes the owner root once in PROVISION. -/
def execLcOwnerRoot (who : Requester) (key : BitVec 16) (s : State) : Out := s.act fun s => s.secFrom who fun s => s.lcOwnerRoot who key.toNat

/-- LC_FIELD (R710): LC FIELD generates the field root and moves PROVISION to FIELD. -/
def execLcField (who : Requester) (key : BitVec 16) (s : State) : Out := s.act fun s => s.secFrom who fun s => s.lcField who key.toNat

/-- LC_RMA (R711): LC RMA with a valid token erases secrets and moves to RMA. -/
def execLcRma (who : Requester) (key : BitVec 16) (s : State) : Out := s.act fun s => s.secFrom who fun s => s.lcRma who key.toNat

/-- LC_SCRAP (R710): LC SCRAP erases NVS and moves to SCRAP. -/
def execLcScrap (who : Requester) (key : BitVec 16) (s : State) : Out := s.act fun s => s.secFrom who fun s => s.lcScrap who key.toNat

/-- LC_RELOCK (R710): LC RELOCK clears UNLOCKED on a FIELD module. -/
def execLcRelock (who : Requester) (key : BitVec 16) (s : State) : Out := s.act fun s => s.secFrom who fun s => s.lcRelock who key.toNat

/-- LC_CHALLENGE (R711): LC CHALLENGE writes 32 random bytes for an RMA token. -/
def execLcChallenge (who : Requester) (key : BitVec 16) (s : State) : Out := s.act fun s => s.secFrom who fun s => s.lcChallenge who key.toNat

/-- SEC_ZEROISE (R718): SEC_CMD.ZEROISE starts erasing every key slot. -/
def execSecZeroise (who : Requester) (s : State) : Out := s.act fun s => s.secFrom who fun s => s.zeroise who

/-- ZEROISE_DONE (R718): Zeroise finishes and ZERO_DONE sets. -/
def execZeroiseDone (s : State) : Out := s.act fun s => s.zeroiseDone

/-- SEC_CNT_CLR (R726): SEC_CMD.CNT_CLR zeroes SEC_KEYUNAVAIL. -/
def execSecCntClr (who : Requester) (s : State) : Out := s.act fun s => s.secFrom who fun s => s.secCntClr who

/-- MR_EXTEND (R719): A write of SEC_MR_EXT extends a measurement register with SHA-384. -/
def execMrExtend (who : Requester) (i : Fin 16) (s : State) : Out := s.act fun s => s.secFrom who fun s => s.mrExtend who i.val

/-- TDIG_WRITE (R720): TDIG WRITE stores a tenant image digest, or is refused. -/
def execTdigWrite (who : Requester) (t : Fin 1024) (slot : Fin 2) (s : State) : Out := s.act fun s => s.secFrom who fun s => s.tdigWrite who t.val slot.val

/-- TDIG_READ (R721): TDIG READ copies a tenant image digest to the data buffer. -/
def execTdigRead (who : Requester) (t : Fin 1024) (slot : Fin 2) (s : State) : Out := s.act fun s => s.secFrom who fun s => s.tdigRead who t.val slot.val

/-- ENSIGN_GO (R722): ENS_CMD.GO snapshots the inputs and starts an Ensign statement. -/
def execEnsignGo (who : Requester) (s : State) : Out := s.act fun s => s.secFrom who fun s => s.ensignGo who

/-- ENSIGN_DONE (R722): Ensign generation increments and commits SEC_MONO, signs and writes the statement. -/
def execEnsignDone (good : Bool) (s : State) : Out := s.act fun s => s.ensignDone good

end Sys2Proof.Machine
end

