-- ==== Sys2Proof/Machine/SvcCmd.lean ====
section
/-!
DEFINITION. Machine/SvcCmd.lean: the commands of sampled-value ingest and resampling.
-/

namespace Sys2Proof.Machine

/-- The register a stream write names. -/
def streamWriteAddr : StreamWrite → Nat
  | .cfg st _ => SVC.STRCFG st.val | .cfg2 st _ => SVC.STRCFG2 st.val | .channel c _ => SVC.CHCFG c.val

/-- The word a stream write carries. -/
def streamWriteValue : StreamWrite → Nat
  | .cfg _ v => v.toNat | .cfg2 _ v => v.toNat | .channel _ v => v.toNat

/-- A stream write (R311). -/
def State.streamWrite (s : State) : StreamWrite → State
  | .cfg st v => s.strcfgWrite st.val v.toNat
  | .cfg2 st v => s.strcfg2Write st.val v.toNat
  | .channel c v => s.chcfgWrite c.val v.toNat

/-- The register a resampler write names. -/
def rsWriteAddr : RsWrite → Nat
  | .rscfg st _ => SVC.RSCFG st.val | .phdly c _ => SVC.PHDLY c.val | .iset i _ => SVC.ISET i.val
  | .dset i _ => SVC.DSET i.val | .gdmin g _ => SVC.GDMIN g.val | .period g _ => SVC.PERIOD g.val
  | .base g _ => SVC.GBASE g.val

/-- The word a resampler write carries. -/
def rsWriteValue : RsWrite → Nat
  | .rscfg _ v => v.toNat | .phdly _ v => v.toNat | .iset _ v => v.toNat | .dset _ v => v.toNat
  | .gdmin _ v => v.toNat | .period _ v => v.toNat | .base _ v => v.toNat

/-- A resampler write (R380, R381, R383). -/
def State.rsWrite (s : State) : RsWrite → State
  | .rscfg st v => s.rscfgWrite st.val v.toNat
  | .phdly c v => s.phdlyWrite c.val v.toNat
  | .iset i v => s.setWrite false i.val v.toNat
  | .dset i v => s.setWrite true i.val v.toNat
  | .gdmin g v => s.gridWrite g.val (SVC.GDMIN g.val) v.toNat
  | .period g v => s.gridWrite g.val (SVC.PERIOD g.val) v.toNat
  | .base g v => s.gridWrite g.val (SVC.GBASE g.val) v.toNat


/-- SV_FRAME_INGEST (R322): An SV frame from INGEST is decoded, matched, checked and its samples classified into the stream history. -/
def execSvFrameIngest (s : State) : Out := s.actSig fun s => s.svIngest

/-- RESAMPLE_REWRITE (R333): Output samples that depended on replaced samples are recomputed and rewritten without the predicted mark. -/
def execResampleRewrite (st : Fin 2048) (s : State) : Out := s.actSig fun s => s.resampleRewrite st.val

/-- SUB_FLIP (R309): SVC_CMD.SUB_FLIP switches the active subscription epoch. -/
def execSubFlip (s : State) : Out := s.actGated SVC.CMD 1 fun s => s.subFlip

/-- SUB_ENTRY_WRITE (R309): A write to a subscription entry is accepted only in an inactive, drained epoch. -/
def execSubEntryWrite (e : Fin 2) (n : Fin 2048) (w : Fin 20) (value : Word) (s : State) : Out := s.actGated (SVC.SUB_W0 e.val n.val + 4 * w.val) value.toNat fun s => s.subWrite e.val n.val w.val value.toNat

/-- STREAM_ENABLE (R312): A write of stream EN = 1 enters IDLE, or is refused under the limits. -/
def execStreamEnable (st : Fin 2048) (value : Word) (s : State) : Out := s.actGated (SVC.STRCFG st.val) (putBits value.toNat 31 31 1) fun s => s.strcfgWrite st.val (putBits value.toNat 31 31 1)

/-- STREAM_DISABLE (R314): A write of stream EN = 0 enters DISABLED and discards the history. -/
def execStreamDisable (st : Fin 2048) (value : Word) (s : State) : Out := s.actGated (SVC.STRCFG st.val) (putBits value.toNat 31 31 0) fun s => s.strcfgWrite st.val (putBits value.toNat 31 31 0)

/-- STREAM_CFG_WRITE (R311): A write changing a structural field of an enabled stream is refused. -/
def execStreamCfgWrite (w : StreamWrite) (s : State) : Out := s.actGated (streamWriteAddr w) (streamWriteValue w) fun s => s.streamWrite w

/-- SVC_CNT_CLR (R343): SVC_CMD.CNT_CLR zeroes every ingest counter. -/
def execSvcCntClr (s : State) : Out := s.actGated SVC.CMD 2 fun s => s.svcCntClr

/-- GRID_ENABLE (R357): A write of GEN = 1 fixes the grid delay and starts the grid, or is refused. -/
def execGridEnable (g : Fin 16) (value : Word) (s : State) : Out := s.actGated (SVC.GCFG g.val) (putBits value.toNat 31 31 1) fun s => s.gcfgWrite g.val (putBits value.toNat 31 31 1)

/-- GRID_DISABLE (R383): A write of GEN = 0 is refused while an enabled stream maps to the grid. -/
def execGridDisable (g : Fin 16) (value : Word) (s : State) : Out := s.actGated (SVC.GCFG g.val) (putBits value.toNat 31 31 0) fun s => s.gcfgWrite g.val (putBits value.toNat 31 31 0)

/-- COEF_DATA_ACCESS (R382): A read or write of SVC_RS_COEF_DATA accesses one coefficient and advances the address. -/
def execCoefDataAccess (who : Requester) (value : Option Word) (s : State) : Out := match value with
  | none => s.actFrom who fun s => (s.coefAccess none).1.respond who (.data (s.coefAccess none).2)
  | some v =>
    if s.regReach who then (s.unhold who).actGated SVC.COEF_DATA v.toNat fun s => (s.coefAccess (some v.toNat)).1
    else s.act fun s => s.respond who .denied

/-- RESAMPLE_CFG_WRITE (R380): A write of RSCFG or PHDLY is refused for an enabled stream, over the load limit or beyond a fixed grid delay. -/
def execResampleCfgWrite (w : RsWrite) (s : State) : Out := s.actGated (rsWriteAddr w) (rsWriteValue w) fun s => s.rsWrite w

end Sys2Proof.Machine
end

