-- ==== Sys2Proof/Machine/SwcCmd.lean ====
section
/-!
DEFINITION. Machine/SwcCmd.lean: the commands of the switch core.
-/

namespace Sys2Proof.Machine


/-- SWC_PIPELINE_ENTER (R207): A frame from a port or HOST takes a sequence number and the active epochs and enters a lookup pipeline. -/
def execSwcPipelineEnter (i : Fin 12) (s : State) : Out := s.act fun s => s.pipelineEnter i.val

/-- SWC_LOOKUP_DONE (R201): A lookup completes and its result is reported to every egress queue's resequencer. -/
def execSwcLookupDone (i : Fin 12) (seq : Fin 256) (parityErr : Bool) (s : State) : Out := s.act fun s => s.lookupDone i.val seq.val parityErr

/-- RESEQ_TIMEOUT (R209): A missing sequence number waited 2 µs, and the resequencer gives up on it. -/
def execReseqTimeout (e : Fin 12) (c : Fin 8) (i : Fin 12) (s : State) : Out := s.act fun s => s.reseqTimeout e.val c.val i.val

/-- DOWN_DROP (R220): A frame reaching the head of a queue of a port that is not up is discarded and counted. -/
def execDownDrop (e : Fin 12) (c : Fin 8) (s : State) : Out := s.act fun s => s.downDrop e.val c.val

/-- AGE_DROP (R221): A frame that waited AGELIM ms at the head of its queue is discarded. -/
def execAgeDrop (e : Fin 12) (c : Fin 8) (s : State) : Out := s.act fun s => s.ageDrop e.val c.val

/-- LEN_DROP (R222): A stored frame too long for the egress MAXLEN is discarded at the head of its queue. -/
def execLenDrop (e : Fin 12) (c : Fin 8) (s : State) : Out := s.act fun s => s.lenDrop e.val c.val

/-- FDB_FLIP (R234): SWC_EPOCH.FDB_FLIP switches the active forwarding epoch. -/
def execFdbFlip (s : State) : Out := s.act fun s => s.onSwc fun w => { w with fdbAct := 1 - w.fdbAct }

/-- CLS_FLIP (R234): SWC_EPOCH.CLS_FLIP switches the active classifier epoch. -/
def execClsFlip (s : State) : Out := s.act fun s => s.onSwc fun w => { w with clsAct := 1 - w.clsAct }

/-- SWC_TABLE_WRITE (R236): A write to a VLAN or classifier entry is accepted only in an inactive, drained epoch. -/
def execSwcTableWrite (e : Fin 2) (w : SwcWrite) (s : State) : Out := s.act fun s => s.swcTableWrite e.val w

/-- FDB_READ (R242): FDB READ copies an address table entry to D0–D2. -/
def execFdbRead (e : Fin 2) (index : Fin 65536) (s : State) : Out := s.act fun s => (s.fdbNote 1 e.val (some index.val)).fdbRead e.val index.val

/-- FDB_WRITE (R242): FDB WRITE stores D0–D2 at an entry index. -/
def execFdbWrite (e : Fin 2) (index : Fin 65536) (s : State) : Out := s.act fun s => (s.fdbNote 2 e.val (some index.val)).fdbWrite e.val index.val

/-- FDB_INSERT (R242): FDB INSERT stores a valid entry at the matching key or the lowest invalid way. -/
def execFdbInsert (e : Fin 2) (s : State) : Out := s.act fun s => (s.fdbNote 3 e.val none).fdbInsert e.val

/-- FDB_DELETE (R242): FDB DELETE removes the entry matching the key. -/
def execFdbDelete (e : Fin 2) (s : State) : Out := s.act fun s => (s.fdbNote 4 e.val none).fdbDelete e.val

/-- FDB_SEARCH (R242): FDB SEARCH finds the entry matching the key. -/
def execFdbSearch (e : Fin 2) (s : State) : Out := s.act fun s => (s.fdbNote 5 e.val none).fdbSearch e.val

/-- SWC_THR_WRITE (R217): A write of a queue's MIN or K applies to the next cell, or is refused when the sum of MIN would exceed 32,768. -/
def execSwcThrWrite (e : Fin 12) (c : Fin 8) (value : Word) (s : State) : Out := s.act fun s => s.thrWrite e.val c.val value.toNat

end Sys2Proof.Machine
end

