-- ==== Sys2Proof/Machine/Sys.lean ====
section
/-!
DEFINITION. Machine/Sys.lean: the system instructions of the supervisory profile (R547, R553 to R555). `n` is the core's debug
index, 64 and up.
-/

namespace Sys2Proof.Machine

/-- UPCALL (R546, R547, R555): it returns past itself. -/
def upcall (s : State) (n : Nat) (r : Regs) : Eff :=
  let c := n - 64
  .own (s.trapTo c (addrOn n (r.pc.toNat + 4)) (causeUpcall + (s.supc c).lvl.num) 0)

/-- TRET (R547): bits [1:0] of PC are always 0 (R473). -/
def trapReturn (s : State) (n : Nat) : Eff := .own (s.onSup (n - 64) SupCore.leave)

/-- IDLE (R555, R557): the core waits behind the instruction, unless an interrupt is deliverable already. -/
def idle (s : State) (n : Nat) (r : Regs) : Eff :=
  let c := n - 64
  .own (s.onSup c fun k => { k with idle := !s.wakes c, regs := r.goTo n (r.pc.toNat + 4) })

/-- ISYNC (R555). -/
def State.isync (s : State) (c : Nat) : State := s.onSup c fun k => { k with il := [] }

/-- Keep the cached translations that `p` keeps (R553, R555). -/
def State.tlbKeep (s : State) (c : Nat) (p : TlbEntry → Bool) : State := s.onSup c fun k => { k with tlb := k.tlb.filter p }

/-- A cached translation is of a space tag (R553): a global one is of none. -/
def TlbEntry.ofTag (e : TlbEntry) (tag : Nat) : Bool := !bit e.leaf 6 && decide (e.stag = tag % 2 ^ 16)

/-- A cached translation is of a virtual address. -/
def TlbEntry.ofVa (e : TlbEntry) (va : Nat) : Bool := decide (va % 2 ^ 48 / 2 ^ e.size = e.va)

/-- DCWB, DCDROP and DCWBD (R555) on the line at an address. -/
def lineOp (s : State) (n : Nat) (r : Regs) (va : Nat) (u : PageUse) (f : State → Nat → State) : Eff :=
  (s.supLineAt (n - 64) va u f).eff [] fun _ => r

end Sys2Proof.Machine
end

