-- ==== Sys2Proof/Machine/SysCmd.lean ====
section
/-!
DEFINITION. Machine/SysCmd.lean: the system instructions (R555).
-/

namespace Sys2Proof.Machine


/-- UPCALL (R555): UPCALL takes a synchronous trap to the next level. -/
def execUpcall (i : Issue) (rd : Fin 32) (ra : Fin 32) (rb : Fin 32) (s : State) : Out := s.issue i (s.sysBad i (zero3 rd ra rb) .app) fun s r => upcall s i.core.val r

/-- TRET (R547): TRET returns from a trap. -/
def execTret (i : Issue) (rd : Fin 32) (ra : Fin 32) (rb : Fin 32) (s : State) : Out := s.issue i (s.sysBad i (zero3 rd ra rb) .kernel) fun s _ => trapReturn s i.core.val

/-- IDLE (R555): IDLE stalls until an interrupt is deliverable or the core is halted. -/
def execIdle (i : Issue) (rd : Fin 32) (ra : Fin 32) (rb : Fin 32) (s : State) : Out := s.issue i (s.sysBad i (zero3 rd ra rb) .kernel) fun s r => idle s i.core.val r

/-- ISYNC (R555): ISYNC invalidates the core's I-cache. -/
def execIsync (i : Issue) (rd : Fin 32) (ra : Fin 32) (rb : Fin 32) (s : State) : Out := s.issue i (s.sysBad i (zero3 rd ra rb) .app) fun s r => .done (s.isync (i.core.val - 64)) r []

/-- XLF_ALL (R555): XLF.ALL discards every cached translation of the core. -/
def execXlfAll (i : Issue) (rd : Fin 32) (ra : Fin 32) (rb : Fin 32) (s : State) : Out := s.issue i (s.sysBad i (zero3 rd ra rb) .kernel) fun s r => .done (s.tlbKeep (i.core.val - 64) fun _ => false) r []

/-- XLF_TAG (R555): XLF.TAG discards the cached translations of one STAG. -/
def execXlfTag (i : Issue) (rd : Fin 32) (ra : Fin 32) (rb : Fin 32) (s : State) : Out := s.issue i (s.sysBad i (decide (rd.val = 0 ∧ rb.val = 0)) .kernel) fun s r => .done (s.tlbKeep (i.core.val - 64) fun e => !e.ofTag (r.getG ra.val)) r []

/-- XLF_VA (R555): XLF.VA discards the cached translation of one VA under one STAG. -/
def execXlfVa (i : Issue) (rd : Fin 32) (ra : Fin 32) (rb : Fin 32) (s : State) : Out := s.issue i (s.sysBad i (decide (rd.val = 0)) .kernel) fun s r => .done (s.tlbKeep (i.core.val - 64) fun e => !(e.ofVa (r.getG ra.val) && e.ofTag (r.getG rb.val))) r []

/-- XLF_VAX (R555): XLF.VAX discards the cached translations of one VA under every STAG. -/
def execXlfVax (i : Issue) (rd : Fin 32) (ra : Fin 32) (rb : Fin 32) (s : State) : Out := s.issue i (s.sysBad i (decide (rd.val = 0 ∧ rb.val = 0)) .kernel) fun s r => .done (s.tlbKeep (i.core.val - 64) fun e => !e.ofVa (r.getG ra.val)) r []

/-- DCWB (R555): DCWB writes back one D-cache line. -/
def execDcwb (i : Issue) (rd : Fin 32) (ra : Fin 32) (rb : Fin 32) (s : State) : Out := s.issue i (s.sysBad i (decide (rd.val = 0 ∧ rb.val = 0)) .app) fun s r => lineOp s i.core.val r (r.getG ra.val) .load fun s l => s.supClean l

/-- DCDROP (R555): DCDROP discards one D-cache line. -/
def execDcdrop (i : Issue) (rd : Fin 32) (ra : Fin 32) (rb : Fin 32) (s : State) : Out := s.issue i (s.sysBad i (decide (rd.val = 0 ∧ rb.val = 0)) .kernel) fun s r => lineOp s i.core.val r (r.getG ra.val) .line fun s l => s.supDrop l

/-- DCWBD (R555): DCWBD writes back and invalidates one D-cache line. -/
def execDcwbd (i : Issue) (rd : Fin 32) (ra : Fin 32) (rb : Fin 32) (s : State) : Out := s.issue i (s.sysBad i (decide (rd.val = 0 ∧ rb.val = 0)) .app) fun s r => lineOp s i.core.val r (r.getG ra.val) .line fun s l => (s.supClean l).supDrop l

end Sys2Proof.Machine
end

