-- ==== Sys2Proof/Machine/TabCmd.lean ====
section
/-!
DEFINITION. Machine/TabCmd.lean: the time base commands that stay inside TAB and the port complex.
-/

namespace Sys2Proof.Machine


/-- TAB_SNAP (R67): TAB_CMD.SNAP captures TOD and the angle counter into the requester's snapshot registers. -/
def execTabSnap (who : Requester) (s : State) : Out := s.actWrite who fun s => s.tabSnap who

/-- TOD_LOAD (R68): TAB_CMD.LOAD copies TODSET into TOD and sets TOD_VALID and TS_STEP. -/
def execTodLoad (s : State) : Out := s.act fun s => s.steps fun s => s.todLoad

/-- TOD_STEP (R69): A write of TAB_STEP's high word adds the signed step to TOD and sets TS_STEP. -/
def execTodStep (ns : DWord) (s : State) : Out := s.act fun s => s.steps fun s => s.todStep ns.toNat

/-- EVQ_FLUSH (R120): TAB_CMD.EVQ_FLUSH empties the PTP event queue and clears LOST. -/
def execEvqFlush (s : State) : Out := s.act fun s => s.evqFlush

/-- EVQ_POP (R85): A read of TAB_EVQ_W3 removes the head record of the PTP event queue. -/
def execEvqPop (who : Requester) (s : State) : Out := s.actFrom who fun s => s.evqPop who

/-- SERVO_OFFSET_SAMPLE (R74): An offset sample from the PTP stack or from PPS_IN drives the servo and the sync state machine. -/
def execServoOffsetSample (o : DWord) (s : State) : Out := s.act fun s => s.steps fun s => s.srvOffsetWrite o.toNat

/-- PPS_IN_EDGE (R80): A rising edge on PPS_IN is timestamped into TAB_PPSIN_TS and, with SRC = PPSIN, yields an offset sample. -/
def execPpsInEdge (s : State) : Out := s.act fun s => s.steps fun s => s.ppsInEdge

/-- SYNC_SAMPLE_TIMEOUT (R76): HO_TIMEOUT × 125 ms without an offset sample moves the sync state to HOLDOVER or FREE. -/
def execSyncSampleTimeout (s : State) : Out := s.act fun s => s.sampleTimeout

/-- HO_EXPIRED (R76): HO_ELAPSED passing HO_LIMIT sets STATUS.HO_EXPIRED once per holdover. -/
def execHoExpired (s : State) : Out := s.act fun s => s.hoExpired

/-- SRC_WRITE (R117): A write that changes TAB_CTL.SRC arms the next offset sample or moves the sync state to FREE. -/
def execSrcWrite (src : BitVec 2) (s : State) : Out := s.act fun s => s.srcWrite src.toNat

/-- SERVO_EN_WRITE (R74): A write of SERVO_EN reinitialises the integrator on 0 to 1, or discards the held rate samples on 0. -/
def execServoEnWrite (en : Bool) (s : State) : Out := s.act fun s => s.servoEnWrite en

/-- RATE_SECOND (R77): Each REFCLK second, SRV_RATE is sampled, HO_DRIFT is averaged in LOCKED, and in HOLDOVER SRV_RATE moves by HO_DRIFT. -/
def execRateSecond (s : State) : Out := .next s.secondPasses

/-- PPSIN_MISS (R80): 1.5 s without a PPS_IN edge while SRC = PPSIN sets PPSIN_MISS once. -/
def execPpsinMiss (s : State) : Out := s.act fun s => s.ppsinMiss

/-- REF10M_WRITE (R81): A write of REF10M arms the move of the PTP PLL to SYNC10M_IN, or returns it to REFCLK. -/
def execRef10mWrite (on : Bool) (s : State) : Out := s.act fun s => s.ref10mWrite on

/-- REF10M_ACQUIRE (R81): At the first SYNC10M_IN edge after REF10M = 1, the PTP PLL takes SYNC10M_IN and REF10M_ACT sets. -/
def execRef10mAcquire (s : State) : Out := s.act fun s => s.ref10mAcquire

/-- REF10M_LOSS (R81): 1 µs without a SYNC10M_IN edge sets REF10M_LOSS and returns the PLL to REFCLK. -/
def execRef10mLoss (s : State) : Out := s.act fun s => s.ref10mLoss

end Sys2Proof.Machine
end

