-- ==== Sys2Proof/Machine/VecCmd.lean ====
section
/-!
DEFINITION. Machine/VecCmd.lean: lane, complex and vector-move instructions (R520 to R523).
-/

namespace Sys2Proof.Machine


/-- VINT (R520): VINT performs an INT32 lane operation by FN. -/
def execVint (i : Issue) (rd : Fin 32) (ra : Fin 32) (rb : Fin 32) (fn : Fin 128) (s : State) : Out := s.issue i (badIn (vintOp fn.val rd.val ra.val rb.val 0 0).isSome) fun s r => .done s (r.setV rd.val ((vintOp fn.val rd.val ra.val rb.val (r.getV ra.val) (r.getV rb.val)).getD 0)) []

/-- VFLT (R521): VFLT performs a binary32 lane operation by FN. -/
def execVflt (i : Issue) (rd : Fin 32) (ra : Fin 32) (rb : Fin 32) (fn : Fin 128) (s : State) : Out := s.issue i (badIn (vfltOp fn.val rd.val ra.val rb.val 0 0 0).isSome) fun s r => .done s (r.setV rd.val ((vfltOp fn.val rd.val ra.val rb.val (r.getV rd.val) (r.getV ra.val) (r.getV rb.val)).getD 0)) []

/-- VCPX (R522): VCPX performs a complex operation by FN. -/
def execVcpx (i : Issue) (rd : Fin 32) (ra : Fin 32) (rb : Fin 32) (fn : Fin 128) (s : State) : Out := s.issue i (badIn (vcpxOp fn.val rd.val ra.val rb.val 0 0 0 0).isSome) fun s r => .done s (r.setV rd.val ((vcpxOp fn.val rd.val ra.val rb.val (r.getV rd.val) (r.getV ra.val) (r.getV rb.val) (r.getG rb.val)).getD 0)) []

/-- VMOV (R523): VMOV moves values or compares lane 0 by FN. -/
def execVmov (i : Issue) (rd : Fin 32) (ra : Fin 32) (rb : Fin 32) (fn : Fin 128) (s : State) : Out := s.issue i (badIn (vmovLegal fn.val rd.val ra.val rb.val)) fun s r => .done s (r.vmov fn.val rd.val ra.val rb.val) []

end Sys2Proof.Machine
end

