-- ==== Sys2Proof/Machine/Dispatch.lean ====
section
/-! DEFINITION. Machine/Dispatch.lean: one arm per command, each a direct call of its meaning. -/

namespace Sys2Proof.Machine

def exec (cmd : Instr) (s : State) : Host.Outcome State Fault Refusal :=
  match cmd with
  | .registerWrite who addr wide value => Sys2Proof.Machine.execRegisterWrite who addr wide value s
  | .unmappedAccess who addr write => Sys2Proof.Machine.execUnmappedAccess who addr write s
  | .lowWordReadLatch who addr => Sys2Proof.Machine.execLowWordReadLatch who addr s
  | .highWordRead who addr => Sys2Proof.Machine.execHighWordRead who addr s
  | .lowWordWriteHold who addr value => Sys2Proof.Machine.execLowWordWriteHold who addr value s
  | .highWordWriteCommit who addr value => Sys2Proof.Machine.execHighWordWriteCommit who addr value s
  | .tabSnap who => Sys2Proof.Machine.execTabSnap who s
  | .todLoad => Sys2Proof.Machine.execTodLoad s
  | .todStep ns => Sys2Proof.Machine.execTodStep ns s
  | .evqFlush => Sys2Proof.Machine.execEvqFlush s
  | .evqPop who => Sys2Proof.Machine.execEvqPop who s
  | .servoOffsetSample o => Sys2Proof.Machine.execServoOffsetSample o s
  | .ppsInEdge => Sys2Proof.Machine.execPpsInEdge s
  | .syncSampleTimeout => Sys2Proof.Machine.execSyncSampleTimeout s
  | .hoExpired => Sys2Proof.Machine.execHoExpired s
  | .srcWrite src => Sys2Proof.Machine.execSrcWrite src s
  | .servoEnWrite en => Sys2Proof.Machine.execServoEnWrite en s
  | .rateSecond => Sys2Proof.Machine.execRateSecond s
  | .ppsinMiss => Sys2Proof.Machine.execPpsinMiss s
  | .ref10mWrite on => Sys2Proof.Machine.execRef10mWrite on s
  | .ref10mAcquire => Sys2Proof.Machine.execRef10mAcquire s
  | .ref10mLoss => Sys2Proof.Machine.execRef10mLoss s
  | .ppsOutEdge => Sys2Proof.Machine.execPpsOutEdge s
  | .angleTick => Sys2Proof.Machine.execAngleTick s
  | .comparatorFire c => Sys2Proof.Machine.execComparatorFire c s
  | .comparatorWrite c w => Sys2Proof.Machine.execComparatorWrite c w s
  | .laneEnable p mode => Sys2Proof.Machine.execLaneEnable p mode s
  | .laneDisable p => Sys2Proof.Machine.execLaneDisable p s
  | .pcxCfgWrite p value => Sys2Proof.Machine.execPcxCfgWrite p value s
  | .sdsPllLoss => Sys2Proof.Machine.execSdsPllLoss s
  | .sdsPllRelock => Sys2Proof.Machine.execSdsPllRelock s
  | .linkSignalDetect p => Sys2Proof.Machine.execLinkSignalDetect p s
  | .linkSyncLock p => Sys2Proof.Machine.execLinkSyncLock p s
  | .linkSyncLoss p => Sys2Proof.Machine.execLinkSyncLoss p s
  | .linkSignalLoss p => Sys2Proof.Machine.execLinkSignalLoss p s
  | .anComplete p gig fullDuplex => Sys2Proof.Machine.execAnComplete p gig fullDuplex s
  | .anPartnerRestart p => Sys2Proof.Machine.execAnPartnerRestart p s
  | .anRestart p => Sys2Proof.Machine.execAnRestart p s
  | .rfaultReceive p => Sys2Proof.Machine.execRfaultReceive p s
  | .rfaultEnd p => Sys2Proof.Machine.execRfaultEnd p s
  | .rxFrame p bytes fcsOk codeErr => Sys2Proof.Machine.execRxFrame p bytes fcsOk codeErr s
  | .rxFifoDequeue p => Sys2Proof.Machine.execRxFifoDequeue p s
  | .pauseRepeat p => Sys2Proof.Machine.execPauseRepeat p s
  | .rxPauseFrame p quanta => Sys2Proof.Machine.execRxPauseFrame p quanta s
  | .pauseQuantaExpire p => Sys2Proof.Machine.execPauseQuantaExpire p s
  | .txFrameStart p => Sys2Proof.Machine.execTxFrameStart p s
  | .tsqPop who p => Sys2Proof.Machine.execTsqPop who p s
  | .tsqFlush p => Sys2Proof.Machine.execTsqFlush p s
  | .pcxCntClr p => Sys2Proof.Machine.execPcxCntClr p s
  | .portReset p => Sys2Proof.Machine.execPortReset p s
  | .gclEntryEnd p => Sys2Proof.Machine.execGclEntryEnd p s
  | .gclCycleStart p e => Sys2Proof.Machine.execGclCycleStart p e s
  | .gclFlip p => Sys2Proof.Machine.execGclFlip p s
  | .gclEnableWrite p en flip => Sys2Proof.Machine.execGclEnableWrite p en flip s
  | .gclEpochWrite p e w => Sys2Proof.Machine.execGclEpochWrite p e w s
  | .swcPipelineEnter i => Sys2Proof.Machine.execSwcPipelineEnter i s
  | .swcLookupDone i seq parityErr => Sys2Proof.Machine.execSwcLookupDone i seq parityErr s
  | .reseqTimeout e c i => Sys2Proof.Machine.execReseqTimeout e c i s
  | .downDrop e c => Sys2Proof.Machine.execDownDrop e c s
  | .ageDrop e c => Sys2Proof.Machine.execAgeDrop e c s
  | .lenDrop e c => Sys2Proof.Machine.execLenDrop e c s
  | .internalEgress host => Sys2Proof.Machine.execInternalEgress host s
  | .fdbFlip => Sys2Proof.Machine.execFdbFlip s
  | .clsFlip => Sys2Proof.Machine.execClsFlip s
  | .swcTableWrite e w => Sys2Proof.Machine.execSwcTableWrite e w s
  | .fdbRead e index => Sys2Proof.Machine.execFdbRead e index s
  | .fdbWrite e index => Sys2Proof.Machine.execFdbWrite e index s
  | .fdbInsert e => Sys2Proof.Machine.execFdbInsert e s
  | .fdbDelete e => Sys2Proof.Machine.execFdbDelete e s
  | .fdbSearch e => Sys2Proof.Machine.execFdbSearch e s
  | .swcThrWrite e c value => Sys2Proof.Machine.execSwcThrWrite e c value s
  | .rdeCfgWrite value => Sys2Proof.Machine.execRdeCfgWrite value s
  | .ringForward p => Sys2Proof.Machine.execRingForward p s
  | .sourceAgeOut entry => Sys2Proof.Machine.execSourceAgeOut entry s
  | .ddFlush => Sys2Proof.Machine.execDdFlush s
  | .proxyFlip => Sys2Proof.Machine.execProxyFlip s
  | .proxyEntryWrite e m value => Sys2Proof.Machine.execProxyEntryWrite e m value s
  | .rdeCntClr => Sys2Proof.Machine.execRdeCntClr s
  | .heartbeatSend => Sys2Proof.Machine.execHeartbeatSend s
  | .heartbeatReceive seq state leads serial tick => Sys2Proof.Machine.execHeartbeatReceive seq state leads serial tick s
  | .heartbeatMiss => Sys2Proof.Machine.execHeartbeatMiss s
  | .pairSeekTimeout => Sys2Proof.Machine.execPairSeekTimeout s
  | .halyardTickReceive seq tick sec ns fw base blk => Sys2Proof.Machine.execHalyardTickReceive seq tick sec ns fw base blk s
  | .digestReceive seq tick items => Sys2Proof.Machine.execDigestReceive seq tick items s
  | .pagelistReceive seq t crcs => Sys2Proof.Machine.execPagelistReceive seq t crcs s
  | .xferCopy t => Sys2Proof.Machine.execXferCopy t s
  | .pageReceive seq t target index quarter data => Sys2Proof.Machine.execPageReceive seq t target index quarter data s
  | .pubstateReceive seq t target pubs => Sys2Proof.Machine.execPubstateReceive seq t target pubs s
  | .xferEndReceive seq t target frames reply => Sys2Proof.Machine.execXferEndReceive seq t target frames reply s
  | .rdeResume t => Sys2Proof.Machine.execRdeResume t s
  | .rdeSilence t => Sys2Proof.Machine.execRdeSilence t s
  | .rdeRetransfer t => Sys2Proof.Machine.execRdeRetransfer t s
  | .svFrameIngest => Sys2Proof.Machine.execSvFrameIngest s
  | .fillDeadline st tick => Sys2Proof.Machine.execFillDeadline st tick s
  | .horizonFreeze st tick => Sys2Proof.Machine.execHorizonFreeze st tick s
  | .resampleOutput st => Sys2Proof.Machine.execResampleOutput st s
  | .resampleRewrite st => Sys2Proof.Machine.execResampleRewrite st s
  | .tickReady t tick => Sys2Proof.Machine.execTickReady t tick s
  | .subFlip => Sys2Proof.Machine.execSubFlip s
  | .subEntryWrite e n w value => Sys2Proof.Machine.execSubEntryWrite e n w value s
  | .streamEnable st value => Sys2Proof.Machine.execStreamEnable st value s
  | .streamDisable st value => Sys2Proof.Machine.execStreamDisable st value s
  | .streamCfgWrite w => Sys2Proof.Machine.execStreamCfgWrite w s
  | .svcCntClr => Sys2Proof.Machine.execSvcCntClr s
  | .gridEnable g value => Sys2Proof.Machine.execGridEnable g value s
  | .gridDisable g value => Sys2Proof.Machine.execGridDisable g value s
  | .coefDataAccess who value => Sys2Proof.Machine.execCoefDataAccess who value s
  | .resampleCfgWrite w => Sys2Proof.Machine.execResampleCfgWrite w s
  | .tcmdStart t => Sys2Proof.Machine.execTcmdStart t s
  | .tcmdStop t => Sys2Proof.Machine.execTcmdStop t s
  | .tcmdReset t restart => Sys2Proof.Machine.execTcmdReset t restart s
  | .tnrComplete t => Sys2Proof.Machine.execTnrComplete t s
  | .tcmdMove t core => Sys2Proof.Machine.execTcmdMove t core s
  | .moveComplete t => Sys2Proof.Machine.execMoveComplete t s
  | .tcmdFclear t => Sys2Proof.Machine.execTcmdFclear t s
  | .tenantBind t core => Sys2Proof.Machine.execTenantBind t core s
  | .tenantUnbind t core => Sys2Proof.Machine.execTenantUnbind t core s
  | .winRead t w => Sys2Proof.Machine.execWinRead t w s
  | .winWrite t w => Sys2Proof.Machine.execWinWrite t w s
  | .eventPost who t => Sys2Proof.Machine.execEventPost who t s
  | .guardHoldExpire g => Sys2Proof.Machine.execGuardHoldExpire g s
  | .guardCfgWrite w => Sys2Proof.Machine.execGuardCfgWrite w s
  | .sublWrite n value => Sys2Proof.Machine.execSublWrite n value s
  | .tenantSubWrite t value => Sys2Proof.Machine.execTenantSubWrite t value s
  | .tenantCfgWrite w => Sys2Proof.Machine.execTenantCfgWrite w s
  | .osqPop who t => Sys2Proof.Machine.execOsqPop who t s
  | .dispatchSelect c restoreErr => Sys2Proof.Machine.execDispatchSelect c restoreErr s
  | .budgetExhausted c => Sys2Proof.Machine.execBudgetExhausted c s
  | .cycEnWrite en => Sys2Proof.Machine.execCycEnWrite en s
  | .cwdStart => Sys2Proof.Machine.execCwdStart s
  | .cwdKick value => Sys2Proof.Machine.execCwdKick value s
  | .cwdKickExpire => Sys2Proof.Machine.execCwdKickExpire s
  | .cwdStall c => Sys2Proof.Machine.execCwdStall c s
  | .frcRead i => Sys2Proof.Machine.execFrcRead i s
  | .frcWrite i => Sys2Proof.Machine.execFrcWrite i s
  | .frcDelete i => Sys2Proof.Machine.execFrcDelete i s
  | .frcFind => Sys2Proof.Machine.execFrcFind s
  | .frcClearall => Sys2Proof.Machine.execFrcClearall s
  | .xchgArm t => Sys2Proof.Machine.execXchgArm t s
  | .xchgDisarm t => Sys2Proof.Machine.execXchgDisarm t s
  | .xchgCarryOver t => Sys2Proof.Machine.execXchgCarryOver t s
  | .phxCoefWrite value => Sys2Proof.Machine.execPhxCoefWrite value s
  | .alu i rd ra rb fn => Sys2Proof.Machine.execAlu i rd ra rb fn s
  | .aluw i rd ra rb fn => Sys2Proof.Machine.execAluw i rd ra rb fn s
  | .addi i rd ra imm => Sys2Proof.Machine.execAddi i rd ra imm s
  | .addiw i rd ra imm => Sys2Proof.Machine.execAddiw i rd ra imm s
  | .andi i rd ra imm => Sys2Proof.Machine.execAndi i rd ra imm s
  | .ori i rd ra imm => Sys2Proof.Machine.execOri i rd ra imm s
  | .xori i rd ra imm => Sys2Proof.Machine.execXori i rd ra imm s
  | .shi i rd ra imm => Sys2Proof.Machine.execShi i rd ra imm s
  | .muldiv i rd ra rb fn => Sys2Proof.Machine.execMuldiv i rd ra rb fn s
  | .cmp i cm pd ra rb fn => Sys2Proof.Machine.execCmp i cm pd ra rb fn s
  | .cmpi i cm pd ra cond imm => Sys2Proof.Machine.execCmpi i cm pd ra cond imm s
  | .pred i rd ra rb fn => Sys2Proof.Machine.execPred i rd ra rb fn s
  | .sel i rd ra rb fn => Sys2Proof.Machine.execSel i rd ra rb fn s
  | .lih i h rd z imm => Sys2Proof.Machine.execLih i h rd z imm s
  | .orh i h rd z imm => Sys2Proof.Machine.execOrh i h rd z imm s
  | .b i off => Sys2Proof.Machine.execB i off s
  | .bl i off => Sys2Proof.Machine.execBl i off s
  | .jr i rd ra rb => Sys2Proof.Machine.execJr i rd ra rb s
  | .jlr i rd ra rb => Sys2Proof.Machine.execJlr i rd ra rb s
  | .load i kind rd ra imm => Sys2Proof.Machine.execLoad i kind rd ra imm s
  | .store i kind rd ra imm => Sys2Proof.Machine.execStore i kind rd ra imm s
  | .vld i rd ra imm => Sys2Proof.Machine.execVld i rd ra imm s
  | .vst i rd ra imm => Sys2Proof.Machine.execVst i rd ra imm s
  | .ldx i rd ra rb fn => Sys2Proof.Machine.execLdx i rd ra rb fn s
  | .stx i rd ra rb fn => Sys2Proof.Machine.execStx i rd ra rb fn s
  | .atom i rd ra rb fn => Sys2Proof.Machine.execAtom i rd ra rb fn s
  | .gacq i rd ra imm => Sys2Proof.Machine.execGacq i rd ra imm s
  | .grel i rd ra imm => Sys2Proof.Machine.execGrel i rd ra imm s
  | .evpop i rd ra rb => Sys2Proof.Machine.execEvpop i rd ra rb s
  | .evpeek i rd ra rb => Sys2Proof.Machine.execEvpeek i rd ra rb s
  | .evcnt i rd ra rb => Sys2Proof.Machine.execEvcnt i rd ra rb s
  | .osqpost i rd ra rb => Sys2Proof.Machine.execOsqpost i rd ra rb s
  | .mfsr i rd ra imm => Sys2Proof.Machine.execMfsr i rd ra imm s
  | .nop i rd ra rb => Sys2Proof.Machine.execNop i rd ra rb s
  | .fence i rd ra rb => Sys2Proof.Machine.execFence i rd ra rb s
  | .brk i rd ra rb => Sys2Proof.Machine.execBrk i rd ra rb s
  | .vint i rd ra rb fn => Sys2Proof.Machine.execVint i rd ra rb fn s
  | .vflt i rd ra rb fn => Sys2Proof.Machine.execVflt i rd ra rb fn s
  | .vcpx i rd ra rb fn => Sys2Proof.Machine.execVcpx i rd ra rb fn s
  | .vmov i rd ra rb fn => Sys2Proof.Machine.execVmov i rd ra rb fn s
  | .pdft i rd ra rb => Sys2Proof.Machine.execPdft i rd ra rb s
  | .pswf i rd ra rb => Sys2Proof.Machine.execPswf i rd ra rb s
  | .pswq i rd ra rb => Sys2Proof.Machine.execPswq i rd ra rb s
  | .pmag i rd ra rb => Sys2Proof.Machine.execPmag i rd ra rb s
  | .pang i rd ra rb => Sys2Proof.Machine.execPang i rd ra rb s
  | .pseq01 i rd ra rb => Sys2Proof.Machine.execPseq01 i rd ra rb s
  | .pseq2 i rd ra rb => Sys2Proof.Machine.execPseq2 i rd ra rb s
  | .pubv i rd ra rb => Sys2Proof.Machine.execPubv i rd ra rb s
  | .trip i rd ra rb => Sys2Proof.Machine.execTrip i rd ra rb s
  | .arm i rd ra rb => Sys2Proof.Machine.execArm i rd ra rb s
  | .stdn i rd ra rb => Sys2Proof.Machine.execStdn i rd ra rb s
  | .yield i rd ra rb => Sys2Proof.Machine.execYield i rd ra rb s
  | .bq i rd ra rb => Sys2Proof.Machine.execBq i rd ra rb s
  | .upcall i rd ra rb => Sys2Proof.Machine.execUpcall i rd ra rb s
  | .tret i rd ra rb => Sys2Proof.Machine.execTret i rd ra rb s
  | .idle i rd ra rb => Sys2Proof.Machine.execIdle i rd ra rb s
  | .isync i rd ra rb => Sys2Proof.Machine.execIsync i rd ra rb s
  | .xlfAll i rd ra rb => Sys2Proof.Machine.execXlfAll i rd ra rb s
  | .xlfTag i rd ra rb => Sys2Proof.Machine.execXlfTag i rd ra rb s
  | .xlfVa i rd ra rb => Sys2Proof.Machine.execXlfVa i rd ra rb s
  | .xlfVax i rd ra rb => Sys2Proof.Machine.execXlfVax i rd ra rb s
  | .dcwb i rd ra rb => Sys2Proof.Machine.execDcwb i rd ra rb s
  | .dcdrop i rd ra rb => Sys2Proof.Machine.execDcdrop i rd ra rb s
  | .dcwbd i rd ra rb => Sys2Proof.Machine.execDcwbd i rd ra rb s
  | .mtsr i rd ra imm => Sys2Proof.Machine.execMtsr i rd ra imm s
  | .interruptTake c => Sys2Proof.Machine.execInterruptTake c s
  | .insvcEnd c plat p => Sys2Proof.Machine.execInsvcEnd c plat p s
  | .swiSet n => Sys2Proof.Machine.execSwiSet n s
  | .swiClr n => Sys2Proof.Machine.execSwiClr n s
  | .gooseRepeat n => Sys2Proof.Machine.execGooseRepeat n s
  | .clogPop who => Sys2Proof.Machine.execClogPop who s
  | .pubFlip => Sys2Proof.Machine.execPubFlip s
  | .pubEntryWrite e n w value => Sys2Proof.Machine.execPubEntryWrite e n w value s
  | .pubCntClr => Sys2Proof.Machine.execPubCntClr s
  | .pubScmdStdn n => Sys2Proof.Machine.execPubScmdStdn n s
  | .gooseReceive => Sys2Proof.Machine.execGooseReceive s
  | .gooseTalExpire m => Sys2Proof.Machine.execGooseTalExpire m s
  | .aliveToggle => Sys2Proof.Machine.execAliveToggle s
  | .capSwTrig u => Sys2Proof.Machine.execCapSwTrig u s
  | .capArm u => Sys2Proof.Machine.execCapArm u s
  | .capDisarm u => Sys2Proof.Machine.execCapDisarm u s
  | .capEnable u value => Sys2Proof.Machine.execCapEnable u value s
  | .capDisable u value => Sys2Proof.Machine.execCapDisable u value s
  | .capRecordClose u => Sys2Proof.Machine.execCapRecordClose u s
  | .capRearm u => Sys2Proof.Machine.execCapRearm u s
  | .capRdptrWrite u value => Sys2Proof.Machine.execCapRdptrWrite u value s
  | .capRidxWrite u value => Sys2Proof.Machine.execCapRidxWrite u value s
  | .memRequest bursts => Sys2Proof.Machine.execMemRequest bursts s
  | .scrubRead addr => Sys2Proof.Machine.execScrubRead addr s
  | .dramRefresh rate => Sys2Proof.Machine.execDramRefresh rate s
  | .memInjArm => Sys2Proof.Machine.execMemInjArm s
  | .memLogClr => Sys2Proof.Machine.execMemLogClr s
  | .memCntClr => Sys2Proof.Machine.execMemCntClr s
  | .sramZeroDone => Sys2Proof.Machine.execSramZeroDone s
  | .dramTrainFail => Sys2Proof.Machine.execDramTrainFail s
  | .dramZeroDone => Sys2Proof.Machine.execDramZeroDone s
  | .dmvTailWrite m value => Sys2Proof.Machine.execDmvTailWrite m value s
  | .dmvCopy m => Sys2Proof.Machine.execDmvCopy m s
  | .dmvDescComplete m => Sys2Proof.Machine.execDmvDescComplete m s
  | .dmvResume m => Sys2Proof.Machine.execDmvResume m s
  | .dmvDisable m => Sys2Proof.Machine.execDmvDisable m s
  | .dmvRxFrame m => Sys2Proof.Machine.execDmvRxFrame m s
  | .dmvTxFrame m => Sys2Proof.Machine.execDmvTxFrame m s
  | .dmvCntClr => Sys2Proof.Machine.execDmvCntClr s
  | .keyWrite who slot => Sys2Proof.Machine.execKeyWrite who slot s
  | .keyRead who slot => Sys2Proof.Machine.execKeyRead who slot s
  | .keyErase who slot => Sys2Proof.Machine.execKeyErase who slot s
  | .keyLink who slot => Sys2Proof.Machine.execKeyLink who slot s
  | .keyCommit good => Sys2Proof.Machine.execKeyCommit good s
  | .keyExpire => Sys2Proof.Machine.execKeyExpire s
  | .engHmacInit who slot => Sys2Proof.Machine.execEngHmacInit who slot s
  | .engDin who value => Sys2Proof.Machine.execEngDin who value s
  | .engHmacFinal who tailb => Sys2Proof.Machine.execEngHmacFinal who tailb s
  | .engSign256 who slot => Sys2Proof.Machine.execEngSign256 who slot s
  | .engVerify256 who => Sys2Proof.Machine.execEngVerify256 who s
  | .engVerify384 who => Sys2Proof.Machine.execEngVerify384 who s
  | .engComplete => Sys2Proof.Machine.execEngComplete s
  | .lcProvision who key => Sys2Proof.Machine.execLcProvision who key s
  | .lcOwnerRoot who key => Sys2Proof.Machine.execLcOwnerRoot who key s
  | .lcField who key => Sys2Proof.Machine.execLcField who key s
  | .lcRma who key => Sys2Proof.Machine.execLcRma who key s
  | .lcScrap who key => Sys2Proof.Machine.execLcScrap who key s
  | .lcRelock who key => Sys2Proof.Machine.execLcRelock who key s
  | .lcChallenge who key => Sys2Proof.Machine.execLcChallenge who key s
  | .lcComplete good => Sys2Proof.Machine.execLcComplete good s
  | .secZeroise who => Sys2Proof.Machine.execSecZeroise who s
  | .zeroiseDone => Sys2Proof.Machine.execZeroiseDone s
  | .secCntClr who => Sys2Proof.Machine.execSecCntClr who s
  | .mrExtend who i => Sys2Proof.Machine.execMrExtend who i s
  | .tdigWrite who t slot => Sys2Proof.Machine.execTdigWrite who t slot s
  | .tdigRead who t slot => Sys2Proof.Machine.execTdigRead who t slot s
  | .ensignGo who => Sys2Proof.Machine.execEnsignGo who s
  | .ensignDone good => Sys2Proof.Machine.execEnsignDone good s
  | .por damaged => Sys2Proof.Machine.execPor damaged s
  | .pin => Sys2Proof.Machine.execPin s
  | .ssr who key => Sys2Proof.Machine.execSsr who key s
  | .resetClr who key => Sys2Proof.Machine.execResetClr who key s
  | .resetRelease => Sys2Proof.Machine.execResetRelease s
  | .bootRom => Sys2Proof.Machine.execBootRom s
  | .pwrLull who key => Sys2Proof.Machine.execPwrLull who key s
  | .pwrRun who key => Sys2Proof.Machine.execPwrRun who key s
  | .pwrCalm who key => Sys2Proof.Machine.execPwrCalm who key s
  | .calmEnter => Sys2Proof.Machine.execCalmEnter s
  | .wakeTimer => Sys2Proof.Machine.execWakeTimer s
  | .wakeGpio rising => Sys2Proof.Machine.execWakeGpio rising s
  | .wdtEnable who value => Sys2Proof.Machine.execWdtEnable who value s
  | .wdtKick who value => Sys2Proof.Machine.execWdtKick who value s
  | .wdtHalf => Sys2Proof.Machine.execWdtHalf s
  | .wdtExpire => Sys2Proof.Machine.execWdtExpire s
  | .coreRelease who value => Sys2Proof.Machine.execCoreRelease who value s
  | .unmapLogClear => Sys2Proof.Machine.execUnmapLogClear s
  | .nvsWrite who => Sys2Proof.Machine.execNvsWrite who s
  | .nvsErase who => Sys2Proof.Machine.execNvsErase who s
  | .nvsBkd who index => Sys2Proof.Machine.execNvsBkd who index s
  | .nvsCmdDone good => Sys2Proof.Machine.execNvsCmdDone good s
  | .nvsRefresh => Sys2Proof.Machine.execNvsRefresh s
  | .tapReset => Sys2Proof.Machine.execTapReset s
  | .tapIdcode => Sys2Proof.Machine.execTapIdcode s
  | .tapSamplePreload op => Sys2Proof.Machine.execTapSamplePreload op s
  | .tapExtest op => Sys2Proof.Machine.execTapExtest op s
  | .tapClamp => Sys2Proof.Machine.execTapClamp s
  | .tapHighz => Sys2Proof.Machine.execTapHighz s
  | .tapBypass => Sys2Proof.Machine.execTapBypass s
  | .dbgRead32 addr => Sys2Proof.Machine.execDbgRead32 addr s
  | .dbgWrite32 addr value => Sys2Proof.Machine.execDbgWrite32 addr value s
  | .dbgRead64 addr => Sys2Proof.Machine.execDbgRead64 addr s
  | .dbgWrite64 addr value => Sys2Proof.Machine.execDbgWrite64 addr value s
  | .dbgChallenge => Sys2Proof.Machine.execDbgChallenge s
  | .dbgResponse response => Sys2Proof.Machine.execDbgResponse response s
  | .dbgChalHoldoffEnd => Sys2Proof.Machine.execDbgChalHoldoffEnd s
  | .dbgHalt n => Sys2Proof.Machine.execDbgHalt n s
  | .dbgResume n => Sys2Proof.Machine.execDbgResume n s
  | .dbgStep n => Sys2Proof.Machine.execDbgStep n s
  | .breakpointHit n => Sys2Proof.Machine.execBreakpointHit n s
  | .cregAccess who n value => Sys2Proof.Machine.execCregAccess who n value s
  | .debugReset key => Sys2Proof.Machine.execDebugReset key s
  | .dbgAuthWrite who value => Sys2Proof.Machine.execDbgAuthWrite who value s
  | .selfRefreshEntry => Sys2Proof.Machine.execSelfRefreshEntry s
  | .railOutOfRange aon => Sys2Proof.Machine.execRailOutOfRange aon s

end Sys2Proof.Machine
end

