-- ==== Sys2Proof/Safety.lean ====
section
/-!
DEFINITION. Safety.lean: what claims are stated in: that a command completes, what a command leaves alone, the canonical form of
the register file and of memory, runs that never stop, and what one instruction of a core runs under.
-/

namespace Sys2Proof

open Machine

/-- The command completes at a state, and leaves a state of which `P` holds. -/
def Completes (s : State) (c : Instr) (P : State → Prop) : Prop := ∃ t, exec c s = .next t ∧ P t

/-- The parts of the module's state. -/
inductive Part where
  | pending | regs | mem | ports64 | tab | pcx | swc | rde | svc | cyc | pub | cap | dmv | sup | sec | sys | mc | dbg | out | free
  deriving DecidableEq, Repr

/-- One part is the same in two states. -/
def Part.same (s t : State) : Part → Prop
  | .pending => t.pending = s.pending
  | .regs => t.regs = s.regs
  | .mem => t.mem = s.mem
  | .ports64 => t.ports64 = s.ports64
  | .tab => t.tab = s.tab
  | .pcx => t.pcx = s.pcx
  | .swc => t.swc = s.swc
  | .rde => t.rde = s.rde
  | .svc => t.svc = s.svc
  | .cyc => t.cyc = s.cyc
  | .pub => t.pub = s.pub
  | .cap => t.cap = s.cap
  | .dmv => t.dmv = s.dmv
  | .sup => t.sup = s.sup
  | .sec => t.sec = s.sec
  | .sys => t.sys = s.sys
  | .mc => t.mc = s.mc
  | .dbg => t.dbg = s.dbg
  | .out => t.out = s.out
  | .free => t.free = s.free

/-- Every part but the named ones is unchanged. -/
def Only (ps : List Part) (s t : State) : Prop := ∀ p, p ∉ ps → p.same s t

/-- Every register but those of which `q` holds is unchanged. -/
def RegsBut (q : Nat → Prop) (s t : State) : Prop := ∀ a, ¬ q a → t.rdW a = s.rdW a

/-- An address lies in a slot of the register space (R52). -/
def inSlot (n a : Nat) : Prop := regSpace + n * 0x100000 ≤ a ∧ a < regSpace + (n + 1) * 0x100000

/-- An address lies among the registers of a lane (R184). -/
def inLane (p a : Nat) : Prop := 0x3000200000 + p * 0x10000 ≤ a ∧ a < 0x3000200000 + (p + 1) * 0x10000

/-- A command takes a lane to a link state, touches no other lane and no register but the lane's and RDE_STATUS, and leaves a
state of which `Q` holds. -/
def LinkGoes (s : State) (p : Nat) (c : Instr) (st : LinkState) (Q : State → Prop) : Prop :=
  Completes s c fun t => (t.port p).link = st ∧ (∀ q, q ≠ p → t.port q = s.port q) ∧
    RegsBut (fun a => inLane p a ∨ a = RDE.STATUS) s t ∧ Only [.regs, .pcx] s t ∧ Q t

/-- A command changes one lane, its registers and nothing else, and leaves a state of which `Q` holds. -/
def LaneChanges (s : State) (p : Nat) (c : Instr) (Q : State → Prop) : Prop :=
  Completes s c fun t => (∀ q, q ≠ p → t.port q = s.port q) ∧ RegsBut (inLane p) s t ∧ Only [.regs, .pcx] s t ∧ Q t

/-- A numbered message of the partner is heard on its lane and new to this module (R135, R274): not a duplicate in its window. -/
def HalNew (s : State) (h : HalHead) : Prop := s.halHears h.lane.val = true ∧ (halClass s.rde.halRx h.num.toNat).2 = false

/-- A message on a Halyard lane leaves alone what is not its lane's counter, not of RDE and not among `ps` or `q` (R135). -/
def HalOnly (ps : List Part) (q : Nat → Prop) (h : HalHead) (s t : State) : Prop :=
  RegsBut (fun a => inLane (8 + h.lane.val) a ∨ q a) s t ∧ Only (.regs :: .rde :: ps) s t

/-- The register file and memory hold their canonical form: equal contents are equal data. -/
def Canonical (s : State) : Prop := smapWf regDefault s.regs = true ∧ smapWf memDefault s.mem = true

/-- A step stops. -/
def stops (s : State) : Prop := match step s with
  | .next _ => False
  | _ => True

/-- One more command arrives: it waits behind those that came before it. -/
def submit (s : State) (c : Instr) : State := { s with pending := s.pending ++ [c] }

/-- Every tenant but one keeps what it holds beside its registers. -/
def OtherTenants (n : Nat) (s t : State) : Prop := ∀ u, u ≠ n → t.tenant u = s.tenant u

/-- Nothing falls due by itself in the present CK_PTP cycle or the next `n`. -/
def NoneDue (s : State) (n : Nat) : Prop := s.upcoming.filter (fun x => decide (x.1 ≤ n)) = []

/-- One thing alone falls due in them, at the end of the `n`. -/
def OnlyDue (s : State) (n : Nat) (e : TimeEvent) : Prop := s.upcoming.filter (fun x => decide (x.1 ≤ n)) = [(n, e)]

/-- `n` CK_PTP cycles have passed. -/
def after (s : State) (n : Nat) : State := if n = 0 then s else s.advance n

/-- A tenant restarts by itself after a fault (R388). -/
def tenantRestarts (s : State) (n : Nat) : Bool :=
  s.flag (CYC.TCFG_FPOL n) && decide (s.getF (CYC.TFAULT_RSTCNT n) < s.getF (CYC.TCFG_AUTORST n))

/-- A tenant faulted with a cause (R388, R409, R425): its fault record, its state, and its dispatch given up. While it moves, its
state stays MOVING, and the completion of the move makes of it what the fault asks (R388, R421). -/
def TenantFaulted (s : State) (n cause : Nat) (t : State) : Prop :=
  t.getF (CYC.TFAULT_LAST n) = cause ∧
  t.getF (CYC.TFAULT_FIRST n) = (if s.getF (CYC.TFAULT_FIRST n) = 0 then cause else s.getF (CYC.TFAULT_FIRST n)) ∧
  t.getF (CYC.TFAULT_COUNT n) = min (s.getF (CYC.TFAULT_COUNT n) + 1) 255 ∧
  t.flag ⟨CYC.TFLT (n / 32), n % 32, 1⟩ = true ∧
  t.tenSt n = (if s.tenSt n = .moving then .moving else if tenantRestarts s n then .resetting else .faulted) ∧
  (s.tenSt n = .moving → (t.tenant n).move = (s.tenant n).move.map fun m => (m.1, if tenantRestarts s n then 4 else 3)) ∧
  (t.tenant n).disp = none ∧ (t.tenant n).tickAt = none ∧ (t.tenant n).eventAt = none ∧ (t.tenant n).dig.fault = true

/-- The issue of an instruction; none: the command is no instruction of a core. -/
def issueOf : Instr → Option Issue
  | .alu i _ _ _ _ => some i
  | .aluw i _ _ _ _ => some i
  | .addi i _ _ _ => some i
  | .addiw i _ _ _ => some i
  | .andi i _ _ _ => some i
  | .ori i _ _ _ => some i
  | .xori i _ _ _ => some i
  | .shi i _ _ _ => some i
  | .muldiv i _ _ _ _ => some i
  | .cmp i _ _ _ _ _ => some i
  | .cmpi i _ _ _ _ _ => some i
  | .pred i _ _ _ _ => some i
  | .sel i _ _ _ _ => some i
  | .lih i _ _ _ _ => some i
  | .orh i _ _ _ _ => some i
  | .b i _ => some i
  | .bl i _ => some i
  | .jr i _ _ _ => some i
  | .jlr i _ _ _ => some i
  | .load i _ _ _ _ => some i
  | .store i _ _ _ _ => some i
  | .vld i _ _ _ => some i
  | .vst i _ _ _ => some i
  | .ldx i _ _ _ _ => some i
  | .stx i _ _ _ _ => some i
  | .atom i _ _ _ _ => some i
  | .gacq i _ _ _ => some i
  | .grel i _ _ _ => some i
  | .evpop i _ _ _ => some i
  | .evpeek i _ _ _ => some i
  | .evcnt i _ _ _ => some i
  | .osqpost i _ _ _ => some i
  | .mfsr i _ _ _ => some i
  | .nop i _ _ _ => some i
  | .fence i _ _ _ => some i
  | .brk i _ _ _ => some i
  | .vint i _ _ _ _ => some i
  | .vflt i _ _ _ _ => some i
  | .vcpx i _ _ _ _ => some i
  | .vmov i _ _ _ _ => some i
  | .pdft i _ _ _ => some i
  | .pswf i _ _ _ => some i
  | .pswq i _ _ _ => some i
  | .pmag i _ _ _ => some i
  | .pang i _ _ _ => some i
  | .pseq01 i _ _ _ => some i
  | .pseq2 i _ _ _ => some i
  | .pubv i _ _ _ => some i
  | .trip i _ _ _ => some i
  | .arm i _ _ _ => some i
  | .stdn i _ _ _ => some i
  | .yield i _ _ _ => some i
  | .bq i _ _ _ => some i
  | .upcall i _ _ _ => some i
  | .tret i _ _ _ => some i
  | .idle i _ _ _ => some i
  | .isync i _ _ _ => some i
  | .xlfAll i _ _ _ => some i
  | .xlfTag i _ _ _ => some i
  | .xlfVa i _ _ _ => some i
  | .xlfVax i _ _ _ => some i
  | .dcwb i _ _ _ => some i
  | .dcdrop i _ _ _ => some i
  | .dcwbd i _ _ _ => some i
  | .mtsr i _ _ _ => some i
  | _ => none

/-- Core `i.core` takes the instruction now and executes it (R445, R485, R498, R768, R771): the module and the core run, nothing
halts it, budget is left, no error stands out, and the fetch leaves `f`. -/
def Issues (s : State) (i : Issue) (f : State) : Prop :=
  s.awake = true ∧ (i.core.val < 64 → s.sys.power = .run) ∧ s.ready i.core.val = true ∧ s.haltDue i.core.val = false ∧
  s.halted i.core.val = false ∧ s.atBreakpoint i.core.val = false ∧ s.spent i.core.val = false ∧
  s.takeLate i.core.val = none ∧ ∃ b, s.coreFetch i.core.val = .ok f b

/-- From `u` to `t` core `n` got the registers `r`, and nothing else happened but that a passed breakpoint counts again. -/
def CoreLeft (n : Nat) (r : Regs) (u t : State) : Prop :=
  t.regsOf n = r ∧ t.dbg = { u.dbg with pass := u.dbg.pass.filter (· ≠ n) } ∧ Only [.cyc, .sup, .dbg] u t ∧
  (n < 64 → t.sup = u.sup ∧ t.cyc = { u.cyc with tenants := t.cyc.tenants } ∧ OtherTenants (u.runs n) u t ∧
    t.tenant (u.runs n) = { u.tenant (u.runs n) with
      disp := (u.tenant (u.runs n)).disp.map fun d => { d with regs := r } }) ∧
  (64 ≤ n → t.cyc = u.cyc ∧ t.sup = { u.sup with cores := t.sup.cores } ∧ (∀ c, c ≠ n - 64 → t.supc c = u.supc c) ∧
    t.supc (n - 64) = { u.supc (n - 64) with regs := r })

/-- Registers whose program counter stands behind the instruction (R473). -/
def past (n : Nat) (r : Regs) : Regs := r.goTo n (r.pc.toNat + 4)

/-- An instruction leaves its core with registers made from those before it, touches nothing else, and acts as NOP where its guard
does not hold (R485). -/
def Moves (s : State) (i : Issue) (c : Instr) (g : Regs → Regs) : Prop :=
  ∀ f, Issues s i f →
    (executes i (s.regsOf i.core.val) = true → Completes s c fun t =>
      CoreLeft i.core.val (g (s.regsOf i.core.val)) (f.burn i.core.val) t) ∧
    (executes i (s.regsOf i.core.val) = false → Completes s c fun t =>
      CoreLeft i.core.val (past i.core.val (s.regsOf i.core.val)) (f.burn i.core.val) t)

/-- As `Moves`, and the core goes on behind the instruction. -/
def RegisterOnly (s : State) (i : Issue) (c : Instr) (g : Regs → Regs) : Prop := Moves s i c fun r => past i.core.val (g r)

/-- Supervisory core `c` entered a trap (R547). -/
def Trapped (s : State) (c : Nat) (l : Level) (rpc why wher vec : Nat) (t : State) : Prop :=
  (t.supc c).lvl = l ∧ (t.supc c).bank l = { (s.supc c).bank l with
    rpc := BitVec.ofNat 64 rpc, why := BitVec.ofNat 64 why, wher := BitVec.ofNat 64 wher,
    prior := BitVec.ofNat 64 (s.supc c).mode } ∧
  (t.supc c).regs = { (s.supc c).regs with pc := BitVec.ofNat 64 (((s.supc c).bank l).vtab.toNat + 64 * vec) } ∧
  (l = .platform → (t.supc c).gateP = false ∧ (t.supc c).bankK = (s.supc c).bankK ∧ (t.supc c).gateK = (s.supc c).gateK) ∧
  (l = .kernel → (t.supc c).gateK = false ∧ (t.supc c).bankP = (s.supc c).bankP ∧ (t.supc c).gateP = (s.supc c).gateP) ∧
  (t.supc c).xroot = (s.supc c).xroot ∧ (t.supc c).xen = (s.supc c).xen ∧ (t.supc c).idle = false ∧
  ∀ d, d ≠ c → t.supc d = s.supc d

/-- The level that takes a synchronous trap but UPCALL (R546). -/
def trapsTo (l : Level) : Level := if l = .platform then .platform else .kernel

/-- A cause ends an instruction at `f` (R408, R409, R547, R549): the tenant that runs on a cycle core faults, a supervisory core
traps. -/
def CoreFaults (s : State) (i : Issue) (c : Instr) (f : State) (cause addr vec : Nat) : Prop :=
  Completes s c fun t =>
    (i.core.val < 64 → f.runs i.core.val < 1024 → TenantFaulted f (f.runs i.core.val) cause t) ∧
    (64 ≤ i.core.val → Trapped f (i.core.val - 64) (trapsTo (f.supc (i.core.val - 64)).lvl)
      (f.regsOf i.core.val).pc.toNat cause addr vec t ∧ Only [.sup, .dbg] f t)

/-- A word whose fields no table lists, or that the core's profile lacks, is a fault of decode (R486). -/
def Undecoded (s : State) (i : Issue) (c : Instr) (cause : Nat) : Prop := ∀ f, Issues s i f → CoreFaults s i c f cause 0 1

/-- An instruction that executes at `u` acts on its tenant or core beside its registers, and leaves a state of which `Q` holds; where
its guard does not hold it acts as NOP (R485). -/
def Acts (s : State) (i : Issue) (c : Instr) (Q : State → Regs → State → Prop) : Prop :=
  ∀ f, Issues s i f →
    (executes i (s.regsOf i.core.val) = true → Completes s c (Q (f.burn i.core.val) (s.regsOf i.core.val))) ∧
    (executes i (s.regsOf i.core.val) = false → Completes s c fun t =>
      CoreLeft i.core.val (past i.core.val (s.regsOf i.core.val)) (f.burn i.core.val) t)

/-- An instruction makes one access to memory at an address, and its registers from the bytes that come back; where the access
fails, the core faults with its cause; where a watchpoint matches, the core halts behind it (R499, R508, R509, R640, R771). -/
def Accesses (s : State) (i : Issue) (c : Instr) (a : Nat) (dirs : List Bool) (m : State → MemRes)
    (g : Regs → List Byte → Regs) : Prop :=
  ∀ f, Issues s i f →
    (executes i (s.regsOf i.core.val) = true →
      (∀ v b, m (f.burn i.core.val) = .ok v b → v.awake = true → (∀ d ∈ dirs, v.wpMatch i.core.val a d = false) →
        Completes s c fun t => CoreLeft i.core.val (past i.core.val (g (s.regsOf i.core.val) b)) v t) ∧
      (∀ v b d, m (f.burn i.core.val) = .ok v b → v.awake = true → d ∈ dirs → v.wpMatch i.core.val a d = true →
        Completes s c fun t => t.halted i.core.val = true ∧ t.getF (DBG.NSTATE_CAUSE i.core.val) = 4 ∧
          t.regsOf i.core.val = past i.core.val (g (s.regsOf i.core.val) b) ∧ t.mem = v.mem) ∧
      (∀ v x y, m (f.burn i.core.val) = .fault v x y → x < 0x30 ∨ 0x33 ≤ x → x < 256 →
        CoreFaults s i c v x y (causeVector x)) ∧
      (m (f.burn i.core.val) = .wait → Completes s c fun t => t = f.burn i.core.val)) ∧
    (executes i (s.regsOf i.core.val) = false → Completes s c fun t =>
      CoreLeft i.core.val (past i.core.val (s.regsOf i.core.val)) (f.burn i.core.val) t)

/-- A bit of SYS_RST_CAUSE sets, and the others stay (R734, R756). -/
def CauseSet (s : State) (i : Nat) (t : State) : Prop :=
  t.flag ⟨SYS.RST_CAUSE, i, 1⟩ = true ∧ ∀ j, j < 7 → j ≠ i → t.flag ⟨SYS.RST_CAUSE, j, 1⟩ = s.flag ⟨SYS.RST_CAUSE, j, 1⟩

/-- Every field of some reset classes, outside the addresses `but`, holds its reset value (R30). -/
def FieldsAtReset (cs : List RClass) (but : Nat → Prop) (t : State) : Prop :=
  ∀ a r is, ¬ but a → regAt a = some (r, is) → ∀ f ∈ r.fields, classIn cs f = true →
    bits (t.rd a) f.hi f.lo = bits (resetOf r is) f.hi f.lo

/-- Every field of the other reset classes, outside the addresses `but`, holds what it held (R732). -/
def FieldsKept (cs : List RClass) (but : Nat → Prop) (s t : State) : Prop :=
  ∀ a r is, ¬ but a → regAt a = some (r, is) → ∀ f ∈ r.fields, classIn cs f = false →
    bits (t.rd a) f.hi f.lo = bits (s.rd a) f.hi f.lo

/-- A reset of the rank of PIN holds the module (R728, R730, R732, R734): `i` is its bit in SYS_RST_CAUSE. -/
def HeldBy (s : State) (i : Nat) (t : State) : Prop :=
  t.sys.power = .held ∧ t.sys.porHeld = false ∧ CauseSet s i t ∧
  FieldsAtReset [.s, .c, .t, .l] (fun _ => False) t ∧
  FieldsKept [.s, .c, .t, .l] (fun a => a = SYS.RST_CAUSE ∨ a = TAB.HO_ELAPSED) s t ∧
  t.mem = s.mem ∧ t.pending = s.pending ∧ t.out = s.out ∧ t.sec.slots = s.sec.slots ∧ t.sec.ownerRoot = s.sec.ownerRoot ∧
  t.sec.fieldRoot = s.sec.fieldRoot ∧ t.swc = SwcState.reset ∧ t.rde = RdeState.reset ∧ t.svc = SvcState.reset ∧
  t.cyc = CycState.reset ∧ t.pub = PubBlock.reset ∧ t.cap = CapState.reset ∧ t.dmv = DmvState.reset ∧ t.sup = SupState.reset ∧
  t.tab.todValid = s.tab.todValid ∧ (s.sys.power ≠ .calm → t.tab.tod = s.tab.tod ∧ t.free = s.free) ∧
  t.pcx.pllLock = s.pcx.pllLock ∧ t.sys.nvsWritten = s.sys.nvsWritten

/-- The module woke from Calm and starts as after a reset (R743, R744). -/
def Awoken (s t : State) : Prop :=
  t.sys.power = .run ∧ t.sys.entering = false ∧ CauseSet s 6 t ∧ t.sup = SupState.reset ∧ t.cyc = CycState.reset ∧
  t.rde = RdeState.reset ∧ t.sec.slots = s.sec.slots ∧ t.sec.ownerRoot = s.sec.ownerRoot ∧ t.sec.fieldRoot = s.sec.fieldRoot ∧
  t.flag SYS.WDT_CFG_EN = false ∧ t.flag CYC.CTL_EN = false ∧ t.getF SYS.PWR_STATE_STATE = 0

/-- Core `n` halted with a cause (R768): its state and status bits; the watchdogs may stop (R770). -/
def CoreHalted (s : State) (n cause : Nat) (t : State) : Prop :=
  t.halted n = true ∧ t.getF (DBG.NSTATE_CAUSE n) = cause ∧ t.flag DBG.STATUS_HALT = true ∧
  (n < 64 → t.flag (CYC.CSTATUS_HALTED n) = true) ∧ n ∉ t.dbg.want ∧ n ∉ t.dbg.step ∧ n ∉ t.dbg.pass ∧
  (∀ m, m < 68 → m ≠ n → t.halted m = s.halted m) ∧ t.cyc.tenants = s.cyc.tenants ∧ t.cyc.cores = s.cyc.cores ∧
  RegsBut (fun a => a = DBG.NSTATE n ∨ a = DBG.STATUS ∨ a = CYC.CSTATUS n) s t ∧ Only [.regs, .cyc, .sup, .sys, .dbg] s t

end Sys2Proof
end

