-- ==== Sys2Proof/Certificates/Slice0/Obligations.lean ====
section
/-!
DEFINITION. Certificates/Slice0/Obligations.lean: the statements for the provers, by block: the machine as a whole, then the commands in
the order of the manual's chapters.
-/

section

open Sys2Proof Sys2Proof.Machine

/-- R30, R544, R746: the module right after reset: every register holds what its field table gives, S0 stands at the first
instruction of the boot ROM at Platform level and S1 to S3 do not run, no tenant is bound, and nothing waits. That memory
reads as zero before it is zeroed, and that reset is the release from POR, are the model's (log entries 10 and 11). -/
def Obligations.ResetLeavesWhatTheFieldTablesGive : Prop :=
  Canonical State.reset ∧ State.reset.pending = [] ∧ State.reset.sys.power = .run ∧
  (∀ a r is, regAt a = some (r, is) → State.reset.rd a = resetOf r is % 2 ^ 64) ∧
  (∀ c : Fin 4, (State.reset.supc c.val).running = decide (c.val = 0)) ∧ (State.reset.supc 0).regs.pc = 0x3FFFF00000 ∧
  (State.reset.supc 0).lvl = .platform ∧ (∀ n : Fin 1024, State.reset.tenSt n.val = .empty) ∧ State.reset.validTenants = [] ∧
  (∀ a, isDram a = true ∨ isSram a = true → State.reset.readByte a = 0)

/-- The machine takes its commands first in, first out: a step carries out the front command on the rest of the queue, and with none
waiting one clock cycle passes: TOD advances by one CK_PTP cycle while the module runs, a tick that is due is raised at once, and
nothing moves under POR (R65, R72; that a tick of the clock is what an empty queue does is the model's choice, log entry 1). -/
def Obligations.AStepCarriesOutTheFrontCommand : Prop :=
  (∀ (c : Instr) (rest : List Instr) (s : State), step { s with pending := c :: rest } = exec c { s with pending := rest }) ∧
  (∀ s : State, s.pending = [] → step s = .next s.clock ∧ s.clock.pending = [] ∧
    (s.awake = true → s.tab.tickDue = false → 0 < s.rd TAB.WS_FW →
      s.clock.tab.tod = (s.tab.tod + todStep s.srvRate) % todModulus) ∧
    (s.awake = true → s.tab.tickDue = true → s.clock = s.angleTick) ∧
    (s.sys.power = .held → s.sys.porHeld = true → s.clock = s))

/-- Every step that goes on keeps the register file and memory in their canonical form, and takes exactly the front command from the
queue. It holds of every state, reachable or not. -/
def Obligations.EveryStepKeepsTheCanonicalForm : Prop :=
  ∀ s t : State, step s = .next t → (Canonical s → Canonical t) ∧ t.pending = s.pending.tail

/-- R67, R68, R69, R120, R85: snapshots, loads and steps of TOD and the event queue, each with what it leaves alone. -/
def Obligations.SnapshotsLoadsAndStepsOfTod : Prop :=
  ∀ s : State, s.awake = true →
    (∀ who, s.regReach who = true → Completes s (.tabSnap who) fun t =>
      t.snap who = ⟨s.tab.sec, s.tab.nsPart, s.tab.au⟩ ∧ (∀ w, reqPort w ≠ reqPort who → t.snap w = s.snap w) ∧
      t.tab.tod = s.tab.tod ∧ t.tab.angle = s.tab.angle ∧ (t.port64 who).hold = none ∧
      (∀ w, reqPort w ≠ reqPort who → t.port64 w = s.port64 w) ∧ Only [.tab, .ports64] s t) ∧
    (Completes s .todLoad fun t =>
      t.tab.tod = (s.rd TAB.TODSET_SEC * 1000000000 + s.rd TAB.TODSET_NS) * 2 ^ 48 % todModulus ∧ t.tab.todValid = true ∧
      t.flag TAB.STATUS_TS_STEP = true ∧ t.tab.angle = s.tab.angle ∧
      RegsBut (fun a => a = TAB.STATUS ∨ inSlot 5 a) s t ∧ Only [.regs, .tab, .pcx, .svc] s t) ∧
    (∀ v : DWord, Completes s (.todStep v) fun t =>
      t.tab.tod = (((s.tab.tod : Int) + v.toInt * 2 ^ 48) % (todModulus : Int)).toNat ∧ t.tab.todValid = s.tab.todValid ∧
      t.rd TAB.STEP = v.toNat ∧ t.flag TAB.STATUS_TS_STEP = true ∧ t.tab.angle = s.tab.angle ∧
      RegsBut (fun a => a = TAB.STATUS ∨ a = TAB.STEP ∨ inSlot 5 a) s t ∧ Only [.regs, .tab, .pcx, .svc] s t) ∧
    (Completes s .evqFlush fun t => t.tab.evq = [] ∧ t.tab.evqLost = 0 ∧ t.tab.tod = s.tab.tod ∧ Only [.tab] s t) ∧
    (∀ who r rs, s.regReach who = true → s.tab.evq = r :: rs → Completes s (.evqPop who) fun t =>
      t.tab.evq = rs ∧ t.tab.evqLost = s.tab.evqLost ∧ (t.port64 who).resp = .data r.ns ∧ Only [.tab, .ports64] s t)

/-- R73, R74, R75, R76: what one offset sample, in units of 2^-16 ns, does to TOD, the rate and the sync state. -/
def Obligations.OffsetSampleDrivesServoAndSyncState : Prop :=
  ∀ (s : State) (o : DWord), s.awake = true →
    (s.getF TAB.CTL_SRC ≠ 1 → Completes s (.servoOffsetSample o) fun t =>
      t.rd TAB.SRV_OFFSET = o.toNat ∧ RegsBut (fun a => a = TAB.SRV_OFFSET) s t ∧ Only [.regs] s t) ∧
    (s.getF TAB.CTL_SRC = 1 → s.flag TAB.CTL_SERVO_EN = true → s.rd TAB.SRV_STEPTHR * 65536 < o.toInt.natAbs →
      Completes s (.servoOffsetSample o) fun t =>
        t.tab.sync = .acquire ∧ t.tab.tod = (((s.tab.tod : Int) - o.toInt * 2 ^ 32) % (todModulus : Int)).toNat ∧
        t.flag TAB.STATUS_TS_STEP = true ∧ t.rd TAB.SRV_RATE = s.rd TAB.SRV_RATE ∧ t.tab.angle = s.tab.angle ∧
        Only [.regs, .tab, .pcx, .svc] s t) ∧
    (s.getF TAB.CTL_SRC = 1 → s.flag TAB.CTL_SERVO_EN = true → o.toInt.natAbs ≤ s.rd TAB.SRV_STEPTHR * 65536 →
      Completes s (.servoOffsetSample o) fun t =>
        t.tab.tod = s.tab.tod ∧ t.srvRate.natAbs ≤ 25000 * 65536 ∧
        t.tab.integ = (if s.tab.sync = .free ∨ s.tab.sync = .holdover then -((s.srvRate : Rat) / 65536) else s.tab.integ) +
          (o.toInt : Rat) / 65536 / 2 ^ s.getF TAB.SRV_GAIN_KI_SH ∧
        (s.tab.sync = .free ∨ s.tab.sync = .holdover → t.tab.sync = .acquire ∧ t.tab.lockCnt = 0) ∧
        (s.tab.sync = .acquire → s.getF TAB.SRV_LOCK_LOCKTHR * 65536 < o.toInt.natAbs →
          t.tab.sync = .acquire ∧ t.tab.lockCnt = 0) ∧
        (s.tab.sync = .acquire → o.toInt.natAbs ≤ s.getF TAB.SRV_LOCK_LOCKTHR * 65536 →
          s.tab.lockCnt + 1 < s.getF TAB.SRV_LOCK_LOCKCNT → t.tab.sync = .acquire ∧ t.tab.lockCnt = s.tab.lockCnt + 1) ∧
        (s.tab.sync = .acquire → o.toInt.natAbs ≤ s.getF TAB.SRV_LOCK_LOCKTHR * 65536 →
          s.getF TAB.SRV_LOCK_LOCKCNT ≤ s.tab.lockCnt + 1 →
          t.tab.sync = .locked ∧ t.tab.todValid = true ∧ t.flag TAB.STATUS_LOCK = true) ∧
        Only [.regs, .tab] s t) ∧
    (s.getF TAB.CTL_SRC = 1 → s.flag TAB.CTL_SERVO_EN = false → Completes s (.servoOffsetSample o) fun t =>
      t.tab.tod = s.tab.tod ∧ t.rd TAB.SRV_RATE = s.rd TAB.SRV_RATE ∧ t.flag TAB.STATUS_TS_STEP = s.flag TAB.STATUS_TS_STEP ∧
      (s.rd TAB.SRV_STEPTHR * 65536 < o.toInt.natAbs → t.tab.sync = .acquire) ∧
      RegsBut (fun a => a = TAB.SRV_OFFSET ∨ a = TAB.STATUS) s t ∧ Only [.regs, .tab] s t)

/-- R76, R77, R78: losing the samples, the end of a holdover's limit, and the writes that change source or servo. What of it is the
model's own reading or choice: log entries 17 and 24. -/
def Obligations.HoldoverEntryExpiryAndSourceWrites : Prop :=
  ∀ s : State, s.awake = true →
    (s.tab.sync = .locked ∨ s.tab.sync = .acquire ∧ s.tab.todValid = true → Completes s .syncSampleTimeout fun t =>
      t.tab.sync = .holdover ∧ t.flag TAB.STATUS_HO_ENTER = true ∧ t.rd TAB.HO_ELAPSED = 0 ∧ t.tab.tod = s.tab.tod ∧
      (¬ (s.flag TAB.CTL_SERVO_EN = true ∧ s.tab.heldRates ≠ []) → t.rd TAB.SRV_RATE = s.rd TAB.SRV_RATE) ∧
      RegsBut (fun a => a = TAB.STATUS ∨ a = TAB.HO_ELAPSED ∨ a = TAB.SRV_RATE) s t ∧ Only [.regs, .tab] s t) ∧
    (s.tab.sync = .acquire → s.tab.todValid = false → Completes s .syncSampleTimeout fun t =>
      t.tab.sync = .free ∧ t.tab.tod = s.tab.tod ∧ Only [.tab] s t) ∧
    (s.tab.sync = .free ∨ s.tab.sync = .holdover → Completes s .syncSampleTimeout fun t => t = s) ∧
    (s.tab.sync = .holdover → s.tab.hoCounting = true → s.tab.hoRaised = false → s.rd TAB.HO_LIMIT * 1000 + 1 < 2 ^ 32 →
      Completes s .hoExpired fun t => s.rd TAB.HO_LIMIT * 1000 < t.rd TAB.HO_ELAPSED ∧
      t.flag TAB.STATUS_HO_EXPIRED = true ∧ t.tab.sync = .holdover ∧ t.tab.hoRaised = true ∧
      RegsBut (fun a => a = TAB.STATUS ∨ a = TAB.HO_ELAPSED) s t ∧ Only [.regs, .tab] s t) ∧
    (s.rd TAB.HO_ELAPSED ≤ s.rd TAB.HO_LIMIT * 1000 → 2 ^ 32 ≤ s.rd TAB.HO_LIMIT * 1000 + 1 → Completes s .hoExpired fun t =>
      t.flag TAB.STATUS_HO_EXPIRED = s.flag TAB.STATUS_HO_EXPIRED ∧ RegsBut (fun a => a = TAB.HO_ELAPSED) s t ∧ Only [.regs] s t) ∧
    (s.tab.hoRaised = true → Completes s .hoExpired fun t => t = s) ∧
    (∀ src : BitVec 2, src.toNat ≠ 3 → Completes s (.srcWrite src) fun t =>
      t.getF TAB.CTL_SRC = src.toNat ∧
      (src.toNat = 0 → s.getF TAB.CTL_SRC ≠ 0 → t.tab.sync = .free) ∧ (src.toNat ≠ 0 → t.tab = s.tab) ∧
      t.tab.tod = s.tab.tod ∧ RegsBut (fun a => a = TAB.CTL) s t ∧ Only [.regs, .tab] s t) ∧
    (∀ en : Bool, Completes s (.servoEnWrite en) fun t =>
      t.flag TAB.CTL_SERVO_EN = en ∧
      (en = true → s.flag TAB.CTL_SERVO_EN = false → t.tab.integ = -((s.srvRate : Rat) / 65536)) ∧
      (en = true → t.tab.heldRates = s.tab.heldRates) ∧ (en = false → t.tab.heldRates = []) ∧ t.tab.tod = s.tab.tod ∧
      RegsBut (fun a => a = TAB.CTL) s t ∧ Only [.regs, .tab] s t)

/-- R77, R78, R80, R81, R82: the second of REFCLK, PPS_IN, SYNC10M_IN and PPS_OUT. What of it is the model's own reading or choice:
log entries 17 and 130. -/
def Obligations.RateSecondsAndTheTimingPins : Prop :=
  ∀ s : State, s.awake = true →
    (s.flag TAB.CTL_SERVO_EN = true → Completes s .rateSecond fun t =>
      t.tab.heldRates = (s.srvRate :: s.tab.heldRates).take 16 ∧ t.tab.lastRate = s.srvRate ∧ t.tab.tod = s.tab.tod ∧
      (s.tab.sync = .locked → t.rd TAB.HO_DRIFT =
        ofSigned 32 (driftNext (toSigned 32 (s.rd TAB.HO_DRIFT)) (s.srvRate - s.tab.lastRate))) ∧
      (s.tab.sync ≠ .locked → t.rd TAB.HO_DRIFT = s.rd TAB.HO_DRIFT) ∧
      (s.tab.sync ≠ .holdover → t.rd TAB.SRV_RATE = s.rd TAB.SRV_RATE) ∧
      (s.tab.sync = .holdover → t.srvRate =
        clampTo (-25000 * 65536) (25000 * 65536) (s.srvRate + toSigned 32 (s.rd TAB.HO_DRIFT))) ∧
      RegsBut (fun a => a = TAB.HO_DRIFT ∨ a = TAB.SRV_RATE) s t ∧ Only [.regs, .tab] s t) ∧
    (s.flag TAB.CTL_SERVO_EN = false → Completes s .rateSecond fun t =>
      t.tab.lastRate = s.srvRate ∧ t.tab.heldRates = s.tab.heldRates ∧ t.tab.tod = s.tab.tod ∧ Only [.tab] s t) ∧
    (s.getF TAB.CTL_SRC ≠ 2 → Completes s .ppsInEdge fun t =>
      t.rd TAB.PPSIN_TS = stampWord s.tab.ns ∧ t.tab.ppsMissRaised = false ∧ t.tab.tod = s.tab.tod ∧
      RegsBut (fun a => a = TAB.PPSIN_TS) s t ∧ Only [.regs, .tab] s t) ∧
    (s.getF TAB.CTL_SRC = 2 → s.flag TAB.CTL_SERVO_EN = false → Completes s .ppsInEdge fun t =>
      t.rd TAB.PPSIN_TS = stampWord s.tab.ns ∧ t.tab.sync ≠ .free ∧ t.tab.tod = s.tab.tod ∧
      RegsBut (fun a => a = TAB.PPSIN_TS ∨ a = TAB.STATUS) s t ∧ Only [.regs, .tab] s t) ∧
    (s.getF TAB.CTL_SRC = 2 → s.tab.ppsMissRaised = false → Completes s .ppsinMiss fun t =>
      t.flag TAB.STATUS_PPSIN_MISS = true ∧ t.tab.ppsMissRaised = true ∧ RegsBut (fun a => a = TAB.STATUS) s t ∧
      Only [.regs, .tab] s t) ∧
    (s.getF TAB.CTL_SRC ≠ 2 ∨ s.tab.ppsMissRaised = true → Completes s .ppsinMiss fun t => t = s) ∧
    (∀ on : Bool, Completes s (.ref10mWrite on) fun t =>
      t.flag TAB.CTL_REF10M = on ∧ (on = true → s.flag TAB.CTL_REF10M = false → t.tab.ref10m = .watching) ∧
      (on = true → s.flag TAB.CTL_REF10M = true → t.tab.ref10m = s.tab.ref10m) ∧
      (on = false → t.tab.ref10m = .idle) ∧ t.tab.tod = s.tab.tod ∧ RegsBut (fun a => a = TAB.CTL) s t ∧ Only [.regs, .tab] s t) ∧
    (Completes s .ref10mAcquire fun t =>
      t.tab.ref10m = (if s.tab.ref10m = .watching then .taken else s.tab.ref10m) ∧ Only [.tab] s t) ∧
    (s.tab.ref10m = .watching ∨ s.tab.ref10m = .taken → Completes s .ref10mLoss fun t =>
      t.flag TAB.STATUS_REF10M_LOSS = true ∧ t.tab.ref10m = .lost ∧ t.tab.tod = s.tab.tod ∧
      RegsBut (fun a => a = TAB.STATUS) s t ∧ Only [.regs, .tab] s t) ∧
    (s.tab.ref10m = .idle ∨ s.tab.ref10m = .lost → Completes s .ref10mLoss fun t => t = s) ∧
    (∀ n, s.ppsIn = some n → n < s.boundaryIn → OnlyDue s n .ppsOut → 0 < s.rd TAB.PPSOUT_WIDTH → 0 < s.rd TAB.WS_FW →
      Completes s .ppsOutEdge fun t => t.ppsLevel = true ∧
        t.tab.tod = (s.tab.tod + n * todStep s.srvRate) % todModulus ∧
        (s.getF TAB.CTL_PPSOUT_MODE = 1 → t.tab.tod % secondUnit < todStep s.srvRate) ∧
        (s.getF TAB.CTL_PPSOUT_MODE = 2 → t.tab.angle % 2 ^ 48 < s.rd TAB.WS_FW) ∧
        RegsBut (fun a => a = TAB.STATUS ∨ a = TAB.HO_ELAPSED) s t ∧ Only [.regs, .tab] s t) ∧
    (∀ n, s.ppsIn = some n → n = s.boundaryIn → Completes s .ppsOutEdge fun t => t = s.angleTick) ∧
    (∀ n, s.ppsIn = some n → s.boundaryIn < n → Completes s .ppsOutEdge fun t => t = s) ∧
    (s.getF TAB.CTL_PPSOUT_MODE = 0 → Completes s .ppsOutEdge fun t => t = s ∧ t.ppsLevel = false)

/-- R65, R70, R99, R101, R103, R290: what raising a tick does: time runs to the boundary, and what falls due on the way happens;
TICKTOD takes TOD there, the tick's number follows the last one, and every block then acts on the tick, each once and in a fixed
order. What of it is the model's own reading or choice: log entry 18. -/
def Obligations.AngleTickRaisesOneTickWithItsTod : Prop :=
  ∀ s : State, s.awake = true →
    (Completes s .angleTick fun t => ∃ w : State,
      (t = (let u := (w.windsock.cycBoundary.rdeBoundary.pubBoundary).keyExpire
        (if u.sys.power = .run then u.capTickRaised else u).fireDue)) ∧
      w.rd TAB.TICKTOD = stampWord (s.runFor s.boundaryIn).tab.ns ∧ w.tab.tod = (s.runFor s.boundaryIn).tab.tod ∧
      w.tab.angle = (s.runFor s.boundaryIn).tab.angle ∧
      ((s.runFor s.boundaryIn).getF TAB.CTL_TICKDIV + 2 = (s.runFor s.boundaryIn).tab.divEff →
        w.tab.raised = ((s.runFor s.boundaryIn).tab.raised + 1) % 2 ^ (32 + (s.runFor s.boundaryIn).tab.divEff) ∧
        ((w.tab.ticks.head?).map fun r => (r.idx, r.ns)) = some (w.tab.raised, (s.runFor s.boundaryIn).tab.ns) ∧
        w.svc = (s.runFor s.boundaryIn).svc) ∧
      RegsBut (fun a => a = TAB.TICKTOD) (s.runFor s.boundaryIn) w ∧ Only [.regs, .tab, .svc] (s.runFor s.boundaryIn) w) ∧
    (∀ n, 0 < n → NoneDue s n → s.runFor n = s.advance n) ∧
    (∀ n, (s.advance n).tab.tod = (s.tab.tod + n * todStep s.srvRate) % todModulus ∧
      (s.advance n).tab.angle = (s.tab.angle + n * s.rd TAB.WS_FW) % 2 ^ 80 ∧ (s.advance n).tab.raised = s.tab.raised ∧
      RegsBut (fun a => a = TAB.STATUS ∨ a = TAB.HO_ELAPSED) s (s.advance n) ∧ Only [.regs, .tab] s (s.advance n)) ∧
    (s.tab.tickDue = false → 0 < s.rd TAB.WS_FW → 0 < s.boundaryIn ∧ (s.advance s.boundaryIn).tab.tickDue = true)

/-- R105, R106, R107, R108, R109, R110: a comparator that reaches its target, time running to it where it lies ahead, records the
moment, is spent, and delivers; one that has no target ahead does nothing; of several due in one cycle the lower-numbered stands
first; a write arms it anew. What of it is the model's own reading or choice: log entry 19. -/
def Obligations.ComparatorsFireOnceAndAreArmedByWrites : Prop :=
  ∀ (s : State) (c : Fin 256), s.awake = true →
    (∀ d n, s.cmpAhead c.val = some d → cyclesFor d (s.rd TAB.WS_FW) = n → OnlyDue s n (.comparator c.val) →
      Completes s (.comparatorFire c) fun t =>
        ∃ u : State, t = u.cmpDeliver c.val ∧ u.rd (TAB.EVTS c.val) = stampWord (after s n).tab.ns ∧
          u.flag ⟨TAB.CMPST (c.val / 32), c.val % 32, 1⟩ = true ∧
          (s.getF (TAB.CCFG_MODE c.val) = 1 → u.flag (TAB.CCFG_ARMED c.val) = false) ∧
          (s.getF (TAB.CCFG_MODE c.val) = 2 → u.cmpMark c.val = (after s n).tab.angle / 2 ^ 48 + 1) ∧
          (s.getF (TAB.CCFG_MODE c.val) = 3 → u.cmpMark c.val = (after s n).tab.tickIndex + 1) ∧
          RegsBut (fun a => a = TAB.EVTS c.val ∨ a = TAB.CMPST (c.val / 32) ∨ a = TAB.CCFG c.val) (after s n) u ∧
          Only [.regs, .tab] s u) ∧
    (s.cmpAhead c.val = none → Completes s (.comparatorFire c) fun t => t = s) ∧
    (s.getF (TAB.CCFG_DEST c.val) = 0 → s.cmpDeliver c.val = s) ∧
    (Canonical s → (s.upcoming.filterMap fun x => match x.2 with
      | .comparator k => some k
      | _ => none).Pairwise (· < ·)) ∧
    (∀ v : DWord, s.getF (TAB.CCFG_MODE c.val) = 1 → (s.plainWrite (TAB.TARGET c.val) v.toNat).targetPast c.val = false →
      Completes s (.comparatorWrite c (.target v)) fun t =>
        t.getF ⟨TAB.TARGET c.val, 0, 48⟩ = v.toNat % 2 ^ 48 ∧ t.flag (TAB.CCFG_ARMED c.val) = true ∧ t.flag (TAB.CCFG_LATE c.val) = false ∧
        RegsBut (fun a => a = TAB.TARGET c.val ∨ a = TAB.CCFG c.val) s t ∧ Only [.regs, .tab] s t) ∧
    (∀ v : DWord, s.getF (TAB.CCFG_MODE c.val) = 1 → (s.plainWrite (TAB.TARGET c.val) v.toNat).targetPast c.val = true →
      Completes s (.comparatorWrite c (.target v)) fun t =>
        ∃ u : State, t = u.cmpFires c.val ∧ u.flag (TAB.CCFG_LATE c.val) = true ∧ u.flag TAB.STATUS_CMP_LATE = true ∧
          u.getF ⟨TAB.TARGET c.val, 0, 48⟩ = v.toNat % 2 ^ 48 ∧ Only [.regs, .tab] s u)

/-- R17, R26, R53: a write of a whole register reaches it or is turned away, and is answered; a misaligned one stops, since the
manual leaves it undefined (R32). What of it is the model's own reading or choice: log entries 6 and 7. -/
def Obligations.RegisterWritesAreMadeOrTurnedAway : Prop :=
  ∀ (s : State) (who : Requester) (a : Nat) (wide : Bool) (v : DWord), s.awake = true →
    (s.busReach who a = true → wide = false → a % 4 = 0 → regWidth a = 32 →
      Completes s (.registerWrite who a wide v) fun t =>
        t = (((s.setPort64 who fun p => { p with hold := none }).regWrite who a (v.toNat % 2 ^ 32)).respond who .done)) ∧
    (s.busReach who a = true → wide = true → a % 8 = 0 → regWidth a = 64 → regWidth (a + 4) = 0 →
      Completes s (.registerWrite who a wide v) fun t =>
        t = (((s.setPort64 who fun p => { p with hold := none }).regWrite who a v.toNat).respond who .done)) ∧
    (s.busReach who a = false → Completes s (.registerWrite who a wide v) fun t =>
      ((t.port64 who).resp = .denied ∨ (t.port64 who).resp = .accessFault) ∧ Only [.ports64] s t) ∧
    (s.busReach who a = true → a % 4 ≠ 0 → exec (.registerWrite who a wide v) s = .fault (.brokenMust 17)) ∧
    (∀ b : Nat, b ∈ [TAB.TODSET_SEC, TAB.TODSET_NS, TAB.HO_LIMIT, TAB.SRV_STEPTHR, TAB.PPSOUT_WIDTH] →
      s.regWrite who b v.toNat = s.plainWrite b v.toNat)

/-- R24, R26, R27: of every register of the map, what each field holds after a write that only its access code governs. -/
def Obligations.EveryFieldFollowsItsAccessCode : Prop :=
  ∀ (s : State) (a v : Nat) (r : RegDesc) (is : List Nat) (f : FieldDesc), regAt a = some (r, is) → f ∈ r.fields →
    let old := bits (s.rd a) f.hi f.lo
    let new := bits v f.hi f.lo
    let now := bits ((s.plainWrite a v).rd a) f.hi f.lo
    (f.acc = .rw ∨ f.acc = .rwl → f.legal = [] ∨ (∃ p ∈ f.legal, p.1 ≤ new ∧ new ≤ p.2) → now = new) ∧
    (f.acc = .rw ∨ f.acc = .rwl → f.legal ≠ [] → (∀ p ∈ f.legal, ¬ (p.1 ≤ new ∧ new ≤ p.2)) → now = old) ∧
    (f.acc = .ro → now = old) ∧
    (f.acc = .w1c → now = old - (old &&& new)) ∧
    (f.acc = .w1s → now = old ||| new) ∧
    (∀ b, b ≠ a → (s.plainWrite a v).rd b = s.rd b)

/-- R18, R19, R20, R22, R25, R46: the halves of 64-bit registers, and addresses no register holds. What of it is the model's own reading
or choice: log entry 9. -/
def Obligations.HalfWordAccessesAndUnmappedAddresses : Prop :=
  ∀ (s : State) (who : Requester) (a : Nat), s.awake = true → s.busReach who a = true →
    (regWidth a = 64 → Completes s (.lowWordReadLatch who a) fun t =>
      (t.port64 who).latch = some (a, (s.regRead who a).2 / 2 ^ 32) ∧
      (t.port64 who).resp = .data ((s.regRead who a).2 % 2 ^ 32) ∧ Only [.ports64] (s.regRead who a).1 t) ∧
    (isHighWord (a + 4) = true → s.busReach who (a + 4) = true → ∀ h, (s.port64 who).latch = some (a, h) →
      Completes s (.highWordRead who (a + 4)) fun t => (t.port64 who).resp = .data h ∧ Only [.ports64] s t) ∧
    (isHighWord (a + 4) = true → s.busReach who (a + 4) = true → (∀ h, (s.port64 who).latch ≠ some (a, h)) →
      Completes s (.highWordRead who (a + 4)) fun t =>
        (t.port64 who).resp = .data ((s.regRead who a).2 / 2 ^ 32) ∧ Only [.ports64] (s.regRead who a).1 t) ∧
    (∀ v : Word, regWidth a = 64 → Completes s (.lowWordWriteHold who a v) fun t =>
      (t.port64 who).hold = some (a, v.toNat) ∧ (t.port64 who).latch = (s.port64 who).latch ∧
      (t.port64 who).resp = .done ∧ Only [.ports64] s t) ∧
    (∀ (v : Word) (lo : Nat), isHighWord (a + 4) = true → s.busReach who (a + 4) = true → (s.port64 who).hold = some (a, lo) →
      Completes s (.highWordWriteCommit who (a + 4) v) fun t =>
        t = ((s.setPort64 who fun p => { p with hold := none }).regWrite who a (v.toNat * 2 ^ 32 + lo)).respond who .done) ∧
    (∀ v : Word, isHighWord (a + 4) = true → s.busReach who (a + 4) = true → (∀ lo, (s.port64 who).hold ≠ some (a, lo)) →
      s.sys.power = .run ∨ (¬ inSlot 5 a ∧ ¬ inSlot 8 a) → Completes s (.highWordWriteCommit who (a + 4) v) fun t =>
        t = ((s.setPort64 who fun p => { p with hold := none }).regWrite who a (v.toNat * 2 ^ 32 + s.lowHalf a)).respond who .done) ∧
    (∀ v : Word, isHighWord (a + 4) = true → s.busReach who (a + 4) = true → (∀ lo, (s.port64 who).hold ≠ some (a, lo)) →
      s.sys.power ≠ .run → inSlot 5 a ∨ inSlot 8 a → Completes s (.highWordWriteCommit who (a + 4) v) fun t =>
        t.sys = { s.sys with gated := s.sys.gated ++ [(a + 4, v.toNat)] } ∧ (t.port64 who).hold = none ∧
        (t.port64 who).resp = .done ∧ Only [.sys, .ports64] s t) ∧
    (∀ w : Bool, inRegSpace a = true → unmapped a = true → s.flag SYS.UNMAP_INFO_VALID = false →
      Completes s (.unmappedAccess who a w) fun t =>
        t.rd SYS.UNMAP_ADDR = a ∧ t.flag SYS.UNMAP_INFO_VALID = true ∧ t.rd SYS.UNMAP_INFO % 2 ^ 8 = reqPort who ∧
        t.flag SYS.STATUS_UNMAP = true ∧ (t.port64 who).resp = (if w then .done else .data 0) ∧
        RegsBut (fun b => b = SYS.UNMAP_ADDR ∨ b = SYS.UNMAP_INFO ∨ b = SYS.STATUS) s t ∧ Only [.regs, .ports64] s t) ∧
    (∀ w : Bool, inRegSpace a = true → unmapped a = true → s.flag SYS.UNMAP_INFO_VALID = true →
      Completes s (.unmappedAccess who a w) fun t =>
        (t.port64 who).resp = (if w then .done else .data 0) ∧ Only [.ports64] s t)

/-- R127, R129, R132, R134: enabling, disabling and configuring a lane. -/
def Obligations.LaneEnableDisableAndConfiguration : Prop :=
  ∀ (s : State) (p : Fin 10), s.awake = true →
    (∀ mode : BitVec 2, s.laneEn p.val = false → mode.toNat ≠ 0 → p.val < 8 ∨ mode.toNat < 2 →
      LinkGoes s p.val (.laneEnable p mode) .noSignal fun t =>
        (t.port p.val).txOn = s.pcx.pllLock ∧ t.laneEn p.val = true ∧ t.getF (PCX.CFG_MODE p.val) = mode.toNat) ∧
    (s.laneEn p.val = true → LinkGoes s p.val (.laneDisable p) .disabled fun t =>
      (t.port p.val).txOn = false ∧ (t.port p.val).signal = false ∧ (t.port p.val).sync = false ∧ t.laneEn p.val = false ∧
      t.getF (PCX.CFG_MODE p.val) = s.getF (PCX.CFG_MODE p.val)) ∧
    (∀ v : Word, s.laneEn p.val = true → bit v.toNat 0 = true → Completes s (.pcxCfgWrite p v) fun t =>
      t.laneEn p.val = true ∧ t.getF (PCX.CFG_MODE p.val) = s.getF (PCX.CFG_MODE p.val) ∧
      t.getF (PCX.CFG_FEC p.val) = s.getF (PCX.CFG_FEC p.val) ∧ t.getF (PCX.CFG_AN_EN p.val) = s.getF (PCX.CFG_AN_EN p.val) ∧
      (64 ≤ bits v.toNat 27 14 → bits v.toNat 27 14 ≤ 9216 → t.getF (PCX.CFG_MAXLEN p.val) = bits v.toNat 27 14) ∧
      (9216 < bits v.toNat 27 14 → t.getF (PCX.CFG_MAXLEN p.val) = s.getF (PCX.CFG_MAXLEN p.val)) ∧
      RegsBut (inLane p.val) s t ∧ (∀ q, q ≠ p.val → t.port q = s.port q) ∧ Only [.regs, .pcx] s t)

/-- R128, R130, R132: the link state machine, the SerDes PLL, and autonegotiation. What of it is the model's own reading or choice:
log entries 26, 128, 131 and 132. -/
def Obligations.LinkStateMachineFollowsItsTable : Prop :=
  ∀ (s : State) (p : Fin 10), s.awake = true →
    ((s.port p.val).link = .noSignal → s.pcx.pllLock = true → LinkGoes s p.val (.linkSignalDetect p) .syncWait fun _ => True) ∧
    ((s.port p.val).link ≠ .noSignal → Completes s (.linkSignalDetect p) fun t => t = s) ∧
    ((s.port p.val).link = .syncWait → s.negotiates p.val = true → LinkGoes s p.val (.linkSyncLock p) .an fun _ => True) ∧
    ((s.port p.val).link = .syncWait → s.negotiates p.val = false → LinkGoes s p.val (.linkSyncLock p) .up fun t =>
      t.flag (PCX.STATUS_LINK_UP p.val) = true) ∧
    ((s.port p.val).link ≠ .syncWait → (s.port p.val).signal = false → Completes s (.linkSyncLock p) fun t => t = s) ∧
    ((s.port p.val).link ≠ .syncWait → (s.port p.val).signal = true →
      LinkGoes s p.val (.linkSyncLock p) (s.port p.val).link fun t => (t.port p.val).sync = true ∧ t.regs = s.regs) ∧
    ((s.port p.val).link = .up ∨ (s.port p.val).link = .rfault → LinkGoes s p.val (.linkSyncLoss p) .syncWait fun t =>
      t.flag (PCX.STATUS_LINK_DOWN p.val) = true) ∧
    ((s.port p.val).link ≠ .disabled → (s.port p.val).link ≠ .noSignal →
      LinkGoes s p.val (.linkSignalLoss p) .noSignal fun t =>
        (t.port p.val).signal = false ∧
        ((s.port p.val).link = .up ∨ (s.port p.val).link = .rfault → t.flag (PCX.STATUS_LINK_DOWN p.val) = true)) ∧
    (∀ gig fd : Bool, (s.port p.val).link = .an → fd = true → gig = true ∨ s.getF (PCX.CFG_MODE p.val) ≠ 3 →
      LinkGoes s p.val (.anComplete p gig fd) .up fun t => t.flag (PCX.STATUS_LINK_UP p.val) = true) ∧
    (∀ gig : Bool, (s.port p.val).link = .an →
      LinkGoes s p.val (.anComplete p gig false) .refused fun t => t.flag (PCX.STATUS_SPEED_REFUSED p.val) = true) ∧
    ((s.port p.val).link = .refused → LinkGoes s p.val (.anPartnerRestart p) .an fun _ => True) ∧
    ((s.port p.val).link = .refused → LinkGoes s p.val (.anRestart p) .an fun _ => True) ∧
    ((s.port p.val).link ≠ .refused → Completes s (.anRestart p) fun t => t = s) ∧
    ((s.port p.val).link = .up → LinkGoes s p.val (.rfaultReceive p) .rfault fun t => t.flag (PCX.STATUS_RFAULT p.val) = true) ∧
    ((s.port p.val).link = .rfault →
      (s.port p.val).pauseDue = none ∨ (s.port p.val).txOn = false ∨ s.sys.entering = true →
      LinkGoes s p.val (.rfaultEnd p) .up fun t => (t.port p.val).rfRx = false) ∧
    (∀ n, (s.port p.val).link = .rfault → (s.port p.val).pauseDue = some n → (s.port p.val).txOn = true →
      s.sys.entering = false → s.scanning = false → Completes s (.rfaultEnd p) fun t =>
        (t.port p.val).link = .up ∧ (t.port p.val).pauseDue = none ∧ t.out = s.out ++ [.pause p.val n] ∧
        (∀ q, q ≠ p.val → t.port q = s.port q) ∧ RegsBut (fun a => inLane p.val a ∨ a = RDE.STATUS) s t ∧
        Only [.regs, .pcx, .out] s t) ∧
    (Completes s .sdsPllLoss fun t =>
      t.pcx.pllLock = false ∧ t.flag PCX.BSTATUS_SDS_PLL_LOSS = true ∧
      ((s.port p.val).link = .disabled → t.port p.val = s.port p.val) ∧
      ((s.port p.val).link ≠ .disabled → (t.port p.val).link = .noSignal ∧ (t.port p.val).txOn = false) ∧
      RegsBut (fun a => inSlot 2 a ∨ a = RDE.STATUS) s t ∧ Only [.regs, .pcx] s t) ∧
    (Completes s .sdsPllRelock fun t =>
      t.pcx.pllLock = true ∧ (t.port p.val).link = (s.port p.val).link ∧
      (s.laneEn p.val = true → s.getF (PCX.CFG_MODE p.val) ≠ 0 → (t.port p.val).txOn = true) ∧ Only [.pcx] s t)

/-- R133, R137, R140, R147, R160, R161, R182, R252: a received frame is ignored, counted as an error, dropped or admitted; admitted frames leave
the receive FIFO in the order of their arrival. What of it is the model's own reading or choice: log entry 25. -/
def Obligations.ReceivedFramesAreCountedDroppedOrAdmitted : Prop :=
  ∀ (s : State) (p : Fin 10) (b : List Byte), s.awake = true →
    (∀ ok ce : Bool, (s.port p.val).admits = false → Completes s (.rxFrame p b ok ce) fun t => t = s) ∧
    (∀ ok : Bool, (s.port p.val).admits = true → s.ringOf p.val = none → s.fifoShort p.val = false →
      LaneChanges s p.val (.rxFrame p b ok true) fun t =>
        t.rd (PCX.RX_CODE_ERR p.val) = (s.rd (PCX.RX_CODE_ERR p.val) + 1) % 2 ^ 32 ∧ t.port p.val = s.port p.val) ∧
    ((s.port p.val).admits = true → s.ringOf p.val = none → s.fifoShort p.val = false → 64 ≤ frameLen b →
      frameLen b ≤ s.getF (PCX.CFG_MAXLEN p.val) + 6 → LaneChanges s p.val (.rxFrame p b false false) fun t =>
        t.rd (PCX.RX_FCS_ERR p.val) = (s.rd (PCX.RX_FCS_ERR p.val) + 1) % 2 ^ 32 ∧ t.port p.val = s.port p.val) ∧
    ((s.port p.val).admits = true → s.isHalyard p.val = false → s.fifoShort p.val = true → pauseQuanta b = none →
      64 ≤ frameLen b → frameLen b ≤ s.getF (PCX.CFG_MAXLEN p.val) + 6 → LaneChanges s p.val (.rxFrame p b true false) fun t =>
        t.rd (PCX.RX_FIFO_DROP p.val) = (s.rd (PCX.RX_FIFO_DROP p.val) + 1) % 2 ^ 32 ∧
        t.flag (PCX.STATUS_FIFO_DROP p.val) = true ∧ t.port p.val = s.port p.val) ∧
    ((s.port p.val).admits = true → s.isHalyard p.val = false → s.fifoShort p.val = false → pauseQuanta b = none → ptpAt b = none →
      64 ≤ frameLen b → frameLen b ≤ s.getF (PCX.CFG_MAXLEN p.val) + 6 → s.flag (PCX.RXCTL_CSUM_EN p.val) = false →
      s.getF (PCX.RXCTL_ACCEPT p.val) = 0 → s.flag (PCX.CFG_PAUSE_EN p.val) = false →
      LaneChanges s p.val (.rxFrame p b true false) fun t =>
        (∃ f : Frame, (t.port p.val).rxFifo = (s.port p.val).rxFifo ++ [(frameLen b, f)] ∧ f.bytes = b ∧ f.info.inPort = p.val) ∧
        t.rd (PCX.RX_FRAMES p.val) = (s.rd (PCX.RX_FRAMES p.val) + 1) % 2 ^ 32) ∧
    (∀ n f rest, (s.port p.val).rxFifo = (n, f) :: rest → s.flag (PCX.CFG_PAUSE_EN p.val) = false →
      s.ringOf p.val = none → s.lanOf p.val = none → Completes s (.rxFifoDequeue p) fun t =>
        (t.port p.val).rxFifo = rest ∧ t.swc.toSwitch = s.swc.toSwitch ++ [f] ∧ (∀ q, q ≠ p.val → t.port q = s.port q) ∧
        Only [.pcx, .swc] s t) ∧
    (∀ n f rest isB seq lan, (s.port p.val).rxFifo = (n, f) :: rest → s.flag (PCX.CFG_PAUSE_EN p.val) = false →
      s.ringOf p.val = none → s.lanOf p.val = some isB → prpTrailer f.bytes = some (seq, lan) →
      Completes s (.rxFifoDequeue p) fun t =>
        (t.port p.val).rxFifo = rest ∧ (∃ g : Frame, t.swc.toSwitch = s.swc.toSwitch ++ [g] ∧
          g.bytes = f.bytes.take (f.bytes.length - 6) ∧ g.info.red = some ⟨frameSa f.bytes, seq, isB⟩) ∧
        t.rd (rxRed isB) = (s.rd (rxRed isB) + 1) % 2 ^ 32 ∧
        RegsBut (fun a => a = rxRed isB ∨ a = RDE.WRONGLAN ∨ a = RDE.STATUS) s t ∧ Only [.regs, .pcx, .swc] s t) ∧
    (∀ n f rest isB, (s.port p.val).rxFifo = (n, f) :: rest → s.flag (PCX.CFG_PAUSE_EN p.val) = false →
      s.ringOf p.val = some isB → hsrAt f.bytes = none → frameDa f.bytes ≠ 0x0180C200000E →
      Completes s (.rxFifoDequeue p) fun t =>
        (t.port p.val).rxFifo = rest ∧ t.swc = s.swc ∧ t.rd RDE.UNTAG = (s.rd RDE.UNTAG + 1) % 2 ^ 32 ∧
        RegsBut (fun a => a = RDE.UNTAG) s t ∧ Only [.regs, .pcx] s t) ∧
    ((s.port p.val).rxFifo = [] → Completes s (.rxFifoDequeue p) fun t => t = s)

/-- R133, R157, R159, R162, R163, R164, R181, R220: PAUSE in both directions, the transmit timestamp queue, and what clears a port. What of it
is the model's own reading or choice: log entries 121 and 135. -/
def Obligations.PauseTimestampQueueAndPortResets : Prop :=
  ∀ (s : State) (p : Fin 10), s.awake = true →
    (s.flag (PCX.CFG_PAUSE_EN p.val) = true → (s.port p.val).pausing = true → s.scanning = false → s.mayTransmit p.val = true →
      256 * s.getF (PCX.PAUSE_LOWM p.val) < (s.port p.val).level → Completes s (.pauseRepeat p) fun t =>
        t.out = s.out ++ [.pause p.val (s.getF (PCX.PAUSE_QUANTA p.val))] ∧
        t.rd (PCX.TX_PAUSE p.val) = (s.rd (PCX.TX_PAUSE p.val) + 1) % 2 ^ 32 ∧ RegsBut (inLane p.val) s t ∧
        Only [.regs, .out] s t) ∧
    (s.flag (PCX.CFG_PAUSE_EN p.val) = true → (s.port p.val).pausing = true → (s.port p.val).link = .rfault →
      256 * s.getF (PCX.PAUSE_LOWM p.val) < (s.port p.val).level → LaneChanges s p.val (.pauseRepeat p) fun t =>
        (t.port p.val).pauseDue = some (s.getF (PCX.PAUSE_QUANTA p.val)) ∧ t.regs = s.regs) ∧
    (s.mayTransmit p.val = false → (s.port p.val).link ≠ .rfault → Completes s (.pauseRepeat p) fun t => t = s) ∧
    ((s.port p.val).pausing = false ∨ s.flag (PCX.CFG_PAUSE_EN p.val) = false ∨
      (s.port p.val).level ≤ 256 * s.getF (PCX.PAUSE_LOWM p.val) → Completes s (.pauseRepeat p) fun t => t = s) ∧
    (∀ q : BitVec 16, (s.port p.val).admits = false → Completes s (.rxPauseFrame p q) fun t => t = s) ∧
    (∀ q : BitVec 16, (s.port p.val).admits = true → s.isHalyard p.val = false → s.flag (PCX.CFG_RXPAUSE_EN p.val) = true →
      LaneChanges s p.val (.rxPauseFrame p q) fun t =>
        (t.port p.val).paused = decide (q.toNat ≠ 0) ∧ t.rd (PCX.RX_PAUSE p.val) = (s.rd (PCX.RX_PAUSE p.val) + 1) % 2 ^ 32) ∧
    (∀ q : BitVec 16, (s.port p.val).admits = true → s.isHalyard p.val = false → s.flag (PCX.CFG_RXPAUSE_EN p.val) = false →
      LaneChanges s p.val (.rxPauseFrame p q) fun t =>
        t.port p.val = s.port p.val ∧
        t.rd (PCX.RX_PAUSE_DISC p.val) = (s.rd (PCX.RX_PAUSE_DISC p.val) + 1) % 2 ^ 32) ∧
    (LaneChanges s p.val (.pauseQuantaExpire p) fun t => (t.port p.val).paused = false ∧ t.regs = s.regs) ∧
    (∀ who e es, s.regReach who = true → (s.port p.val).tsq = e :: es → Completes s (.tsqPop who p) fun t =>
      (t.port p.val).tsq = es ∧ (t.port64 who).resp = .data (e.ns % 1000000000) ∧ (∀ q, q ≠ p.val → t.port q = s.port q) ∧
      Only [.pcx, .ports64] s t) ∧
    (∀ who, s.regReach who = true → (s.port p.val).tsq = [] → Completes s (.tsqPop who p) fun t =>
      (t.port64 who).resp = .data 0 ∧ Only [.ports64] s t) ∧
    (LaneChanges s p.val (.tsqFlush p) fun t => (t.port p.val).tsq = [] ∧ (t.port p.val).tsqLost = 0 ∧ t.regs = s.regs) ∧
    (LaneChanges s p.val (.pcxCntClr p) fun t =>
      (∀ n, n < 25 → t.rd (0x3000200400 + p.val * 0x10000 + 4 * n) = 0) ∧
      (∀ n, n < 16 → t.rd (0x3000200480 + p.val * 0x10000 + 4 * n) = 0) ∧
      t.rd (PCX.CNTHALF0 p.val) = 0 ∧ t.rd (PCX.CNTHALF1 p.val) = 0 ∧ t.port p.val = s.port p.val) ∧
    (Canonical s → Completes s (.portReset p) fun t =>
      t.port p.val = {} ∧ t.laneEn p.val = false ∧ (∀ c, c < 8 → t.queue p.val c = [] ∧ t.ringQueue p.val c = []) ∧
      (∀ q, q ≠ p.val → t.port q = s.port q) ∧ (∀ q c, q ≠ p.val → c < 8 → t.queue q c = s.queue q c) ∧
      Only [.regs, .pcx, .swc, .rde] s t)

/-- R133, R139, R168, R182, R222, R224, R227, R229: transmission selection takes the highest class whose head may start; a frame in
transmission ends first; a stored frame that fits leaves its queue and goes out whole, one with a parity error in its buffer goes
out as an error and is discarded elsewhere. What of it is the model's own reading or choice: log entries 27 and 135. -/
def Obligations.TransmissionSelectionSendsTheHighestReadyClass : Prop :=
  ∀ (s : State) (p : TxRead), s.awake = true →
    ((s.port p.port.val).sending = none → s.mayTransmit p.port.val = false ∨ (s.port p.port.val).paused = true ∨
      s.isHalyard p.port.val = true ∨ s.selected p.port.val = none → Completes s (.txFrameStart p) fun t => t = s) ∧
    (∀ x, (s.port p.port.val).sending = none → s.mayTransmit p.port.val = true → (s.port p.port.val).paused = false →
      s.isHalyard p.port.val = false → s.selected p.port.val = some x →
      Completes s (.txFrameStart p) fun t => t = s.startSelected p.port.val p.parityErr x) ∧
    (∀ c ring, c ≤ 7 → (∀ d ∈ [0, 1, 2, 3, 4, 5, 6, 7], (∀ e ∈ s.queue p.port.val d, e.begun = false) ∧
        ∀ e ∈ s.ringQueue p.port.val d, e.bad = false) →
      s.headStarts p.port.val c = some ring → (∀ d, c < d → d ≤ 7 → s.headStarts p.port.val d = none) →
      s.selected p.port.val = some (c, ring)) ∧
    (∀ c e es, s.queue p.port.val c = e :: es → (∀ x ∈ e :: es, x.begun = false) → e.ct = false → e.bad = false →
      e.reqTag = none → e.mirror = false → s.tooLong p.port.val (s.asSent p.port.val e) = false →
      ptpAt (s.asSent p.port.val e) = none → e.frame.info.csumIns = false → s.scanning = false → ∀ u,
      u = s.startSelected p.port.val false (c, false) →
        u.queue p.port.val c = es ∧ u.out = s.out ++ [.frame p.port.val (padTo 60 (s.asSent p.port.val e)) false s.tab.ns] ∧
        (∃ x, (u.port p.port.val).sending = some x ∧ x.cls = c ∧ x.bytes = padTo 60 (s.asSent p.port.val e) ∧ x.bad = false) ∧
        (∀ q, q ≠ p.port.val → u.port q = s.port q) ∧ Only [.pcx, .swc, .out] s u) ∧
    (∀ c e es, s.queue p.port.val c = e :: es → (∀ x ∈ e :: es, x.begun = false) → e.ct = false → e.reqTag = none →
      e.mirror = false → s.tooLong p.port.val (s.asSent p.port.val e) = false → ptpAt (s.asSent p.port.val e) = none →
      e.frame.info.csumIns = false → s.scanning = false → ∀ u, u = s.startSelected p.port.val true (c, false) →
        u.out = s.out ++ [.frame p.port.val (padTo 60 (s.asSent p.port.val e)) true s.tab.ns] ∧
        u.rd (SWC.PSTOMP p.port.val) = (s.rd (SWC.PSTOMP p.port.val) + 1) % 2 ^ 32 ∧ u.flag SWC.STATUS_STOMP = true ∧
        (∀ q d x, x ∈ u.queue q d → x.fid = e.fid → x.begun = true) ∧
        RegsBut (fun a => a = SWC.PSTOMP p.port.val ∨ a = SWC.STATUS) s u ∧ Only [.regs, .pcx, .swc, .out] s u) ∧
    (∀ n, s.txEndIn p.port.val = some n → s.boundaryIn < n → Completes s (.txFrameStart p) fun t => t = s) ∧
    (∀ n x, (s.port p.port.val).sending = some x → s.txEndIn p.port.val = some n → n < s.boundaryIn →
      OnlyDue s n (.txEnd p.port.val) → Completes s (.txFrameStart p) fun t =>
        ∃ u : State, t = u.txStart p.port.val p.parityErr ∧ (u.port p.port.val).sending = none ∧
          u.rd (PCX.TX_FRAMES p.port.val) = (s.rd (PCX.TX_FRAMES p.port.val) + 1) % 2 ^ 32 ∧
          (x.bad = true → u.rd (PCX.TX_STOMP p.port.val) = (s.rd (PCX.TX_STOMP p.port.val) + 1) % 2 ^ 32) ∧
          (∀ q, q ≠ p.port.val → u.port q = s.port q) ∧
          RegsBut (fun a => inLane p.port.val a ∨ a = TAB.STATUS ∨ a = TAB.HO_ELAPSED) s u ∧ Only [.regs, .pcx, .tab] s u)

/-- R170, R171, R172, R177, R178, R179: how a gate control list runs, flips and is written. What of it is the model's own reading or
choice: log entry 27. -/
def Obligations.GateListsRunFlipAndAreWrittenWhenDrained : Prop :=
  ∀ (s : State) (p : Fin 10), s.awake = true →
    (∀ i n, s.entryEndIn p.val = some n → n < s.boundaryIn → OnlyDue s n (.entryEnd p.val) →
      s.tab.tod + n * todStep s.srvRate < todModulus → (s.port p.val).gcl.cur = some i →
      Completes s (.gclEntryEnd p) fun t =>
        (i + 1 < s.gclLen p.val (s.port p.val).gcl.act → (t.port p.val).gcl.cur = some (i + 1) ∧
          (t.port p.val).gcl.since = (s.port p.val).gcl.since + s.getF (PCX.GCL_ENT_TIME p.val (s.port p.val).gcl.act i)) ∧
        (s.gclLen p.val (s.port p.val).gcl.act ≤ i + 1 → (t.port p.val).gcl.cur = some i ∧ (t.port p.val).gcl.ended = true) ∧
        (∀ q, q ≠ p.val → t.port q = s.port q) ∧
        RegsBut (fun a => inLane p.val a ∨ a = TAB.STATUS ∨ a = TAB.HO_ELAPSED) s t ∧ Only [.regs, .pcx, .tab] s t) ∧
    (s.entryEndIn p.val = none ∨ (∃ n, s.entryEndIn p.val = some n ∧ s.boundaryIn < n) →
      Completes s (.gclEntryEnd p) fun t => t = s) ∧
    (∀ n, s.entryEndIn p.val = some n → n = s.boundaryIn → Completes s (.gclEntryEnd p) fun t => t = s.angleTick) ∧
    (∀ (e : Fin 2) n, s.cycleIn p.val e.val = some n → n < s.boundaryIn → OnlyDue s n (.cycleStart p.val e.val) →
      s.tab.tod + n * todStep s.srvRate < todModulus → (s.port p.val).gcl.act < 2 →
      Completes s (.gclCycleStart p e) fun t =>
        (t.port p.val).gcl.act = e.val ∧ (t.port p.val).gcl.cur = some 0 ∧ (t.port p.val).gcl.hold = false ∧
        (((t.port p.val).gcl.since : Int) - s.gclBase p.val e.val) % (s.gclCycle p.val e.val : Int) = 0 ∧
        (t.port p.val).gcl.since ≤ t.tab.ns ∧
        ((s.port p.val).gcl.act ≠ e.val → (t.port p.val).gcl.pending = false ∧ t.flag (PCX.STATUS_GCL_FLIPPED p.val) = true) ∧
        (∀ q, q ≠ p.val → t.port q = s.port q) ∧
        RegsBut (fun a => inLane p.val a ∨ a = TAB.STATUS ∨ a = TAB.HO_ELAPSED) s t ∧ Only [.regs, .pcx, .tab] s t) ∧
    (∀ e : Fin 2, s.cycleIn p.val e.val = none ∨ (∃ n, s.cycleIn p.val e.val = some n ∧ s.boundaryIn < n) →
      Completes s (.gclCycleStart p e) fun t => t = s) ∧
    (∀ (e : Fin 2) n, s.cycleIn p.val e.val = some n → n = s.boundaryIn →
      Completes s (.gclCycleStart p e) fun t => t = s.angleTick) ∧
    (s.gclFlipRefused p.val = true → LaneChanges s p.val (.gclFlip p) fun t =>
      t.flag (PCX.STATUS_GCL_REFUSED p.val) = true ∧ t.port p.val = s.port p.val) ∧
    (s.gclFlipRefused p.val = false → s.flag (PCX.GCL_CTL_EN p.val) = true → LaneChanges s p.val (.gclFlip p) fun t =>
      (t.port p.val).gcl.pending = true ∧ (t.port p.val).gcl.act = (s.port p.val).gcl.act ∧ t.regs = s.regs) ∧
    (s.gclFlipRefused p.val = false → s.flag (PCX.GCL_CTL_EN p.val) = false → LaneChanges s p.val (.gclFlip p) fun t =>
      (t.port p.val).gcl.act = 1 - (s.port p.val).gcl.act ∧ t.flag (PCX.STATUS_GCL_FLIPPED p.val) = true) ∧
    (s.flag (PCX.GCL_CTL_EN p.val) = false → LaneChanges s p.val (.gclEnableWrite p true false) fun t =>
      t.flag (PCX.GCL_CTL_EN p.val) = true ∧ (t.port p.val).gcl.cur = none ∧
      (t.port p.val).gcl.act = (s.port p.val).gcl.act) ∧
    ((s.port p.val).gcl.pending = true → LaneChanges s p.val (.gclEnableWrite p false false) fun t =>
      t.flag (PCX.GCL_CTL_EN p.val) = false ∧ (t.port p.val).gcl.pending = false ∧
      (t.port p.val).gcl.act = 1 - (s.port p.val).gcl.act ∧ t.flag (PCX.STATUS_GCL_FLIPPED p.val) = true) ∧
    (∀ (e : Fin 2) (w : GclWrite), (s.port p.val).gcl.drain e.val = 1 → LaneChanges s p.val (.gclEpochWrite p e w) fun t =>
      t.regs = (s.raise (PCX.STATUS_GCL_REFUSED p.val)).regs ∧ t.port p.val = s.port p.val) ∧
    (∀ (e : Fin 2) (v : DWord), (s.port p.val).gcl.drain e.val = 0 → LaneChanges s p.val (.gclEpochWrite p e (.base v)) fun t =>
      t.rd (PCX.GCL_BASE p.val e.val) = v.toNat ∧ t.port p.val = s.port p.val) ∧
    (∀ (e : Fin 2) (i : Fin 256) (v : DWord), (s.port p.val).gcl.drain e.val = 0 →
      LaneChanges s p.val (.gclEpochWrite p e (.entry i v)) fun t =>
        t.getF (PCX.GCL_ENT_GATES p.val e.val i.val) = bits v.toNat 7 0 ∧
        (16 ≤ bits v.toNat 39 8 → bits v.toNat 39 8 ≤ 1000000000 →
          t.getF (PCX.GCL_ENT_TIME p.val e.val i.val) = bits v.toNat 39 8) ∧
        (bits v.toNat 39 8 < 16 → t.getF (PCX.GCL_ENT_TIME p.val e.val i.val) = s.getF (PCX.GCL_ENT_TIME p.val e.val i.val)))

/-- R197, R201, R203, R207, R209, R234: frames enter the pipelines with a number and the active epochs, a lookup never sends a frame
back to where it came from, and results leave in order or are counted. What of it is the model's own reading or choice: log entry
30. -/
def Obligations.LookupPipelineAndResequencers : Prop :=
  ∀ (s : State) (i : Fin 12), s.awake = true →
    (∀ f, s.swc.toSwitch.find? (fun f => f.info.inPort = i.val) = some f →
      (s.swc.looking.filter fun l => l.frame.info.inPort = i.val).length < 128 → Completes s (.swcPipelineEnter i) fun t =>
        t.swc.toSwitch = s.swc.toSwitch.erase f ∧ t.swc.queues = s.swc.queues ∧
        (∃ l : Lookup, t.swc.looking = s.swc.looking ++ [l] ∧ l.frame = f ∧ l.seq = smapGet (fun _ => 0) s.swc.seqNext i.val ∧
          l.fdbEp = s.swc.fdbAct ∧ l.clsEp = s.swc.clsAct ∧ l.proxyEp = s.rde.proxyAct) ∧
        smapGet (fun _ => 0) t.swc.seqNext i.val = (smapGet (fun _ => 0) s.swc.seqNext i.val + 1) % 256 ∧ Only [.swc] s t) ∧
    (128 ≤ (s.swc.looking.filter fun l => l.frame.info.inPort = i.val).length →
      Completes s (.swcPipelineEnter i) fun t => t = s) ∧
    (∀ (n : Fin 256) l, s.swc.looking.find? (fun l => l.frame.info.inPort = i.val ∧ l.seq = n.val) = some l →
      (Completes s (.swcLookupDone i n true) fun t =>
        t.swc.looking = s.swc.looking.erase l ∧ t.swc.queues = s.swc.queues ∧
        t.rd SWC.LOOKUP_ERR = (s.rd SWC.LOOKUP_ERR + 1) % 2 ^ 32 ∧ t.flag SWC.STATUS_LOOKUP_ERR = true ∧
        RegsBut (fun a => a = SWC.LOOKUP_ERR ∨ a = SWC.STATUS) s t ∧ Only [.regs, .swc] s t) ∧
      (Completes s (.swcLookupDone i n false) fun t =>
        t.swc.looking = s.swc.looking.erase l ∧
        t.rd (SWC.PNODEST i.val) = (if (s.lookup l).1 = 0 then (s.rd (SWC.PNODEST i.val) + 1) % 2 ^ 32 else s.rd (SWC.PNODEST i.val)) ∧
        RegsBut (fun a => inSlot 3 a ∨ inSlot 4 a) s t ∧ Only [.regs, .pcx, .swc, .rde] s t)) ∧
    (∀ l : Lookup, (s.lookup l).1.testBit l.frame.info.inPort = false) ∧
    (∀ (e : Fin 12) (c : Fin 8),
      (s.reseq i.val).held.any (fun r => !seqPassed r.look.seq ((s.reseq i.val).exps.getD (e.val * 8 + c.val) 0)) = true →
      (s.reseq i.val).held.any (fun r => r.look.seq = (s.reseq i.val).exps.getD (e.val * 8 + c.val) 0) = false →
      Completes s (.reseqTimeout e c i) fun t =>
        t.rd (SWC.PRESEQ_TMO e.val) = (s.rd (SWC.PRESEQ_TMO e.val) + 1) % 2 ^ 32 ∧ t.flag SWC.STATUS_RESEQ = true ∧
        t.swc.looking = s.swc.looking ∧ Only [.regs, .pcx, .swc, .rde] s t) ∧
    (∀ (e : Fin 12) (c : Fin 8), (s.reseq i.val).held = [] → Completes s (.reseqTimeout e c i) fun t => t = s)

/-- R196, R220, R221, R222, R227, R228, R229, R305: what is discarded at the head of a queue, and what an internal egress hands over. -/
def Obligations.QueueHeadsAreDiscardedOrHandedOver : Prop :=
  ∀ (s : State) (e : Fin 12) (c : Fin 8) (x : QEntry) (xs : List QEntry), s.awake = true → s.queue e.val c.val = x :: xs →
    (e.val < 10 → (s.port e.val).link ≠ .up → (s.port e.val).link ≠ .rfault → Completes s (.downDrop e c) fun t =>
      t.queue e.val c.val = xs ∧ (∀ q d, d < 8 → ¬ (q = e.val ∧ d = c.val) → t.queue q d = s.queue q d) ∧
      t.rd (SWC.PDOWN_DROP e.val) = (s.rd (SWC.PDOWN_DROP e.val) + 1) % 2 ^ 32 ∧
      RegsBut (fun a => a = SWC.PDOWN_DROP e.val) s t ∧ Only [.regs, .swc] s t) ∧
    (e.val < 10 → (s.port e.val).link = .up → Completes s (.downDrop e c) fun t => t = s) ∧
    (s.getF SWC.CFG_AGELIM ≠ 0 → Completes s (.ageDrop e c) fun t =>
      t.queue e.val c.val = xs ∧ t.rd (SWC.PAGE_DROP e.val) = (s.rd (SWC.PAGE_DROP e.val) + 1) % 2 ^ 32 ∧
      t.flag SWC.STATUS_AGE_DROP = true ∧ RegsBut (fun a => a = SWC.PAGE_DROP e.val ∨ a = SWC.STATUS) s t ∧ Only [.regs, .swc] s t) ∧
    (s.getF SWC.CFG_AGELIM = 0 → Completes s (.ageDrop e c) fun t => t = s) ∧
    (e.val < 10 → s.ringQueue e.val c.val = [] → x.ct = false → s.tooLong e.val (s.asSent e.val x) = true →
      Completes s (.lenDrop e c) fun t =>
        t.queue e.val c.val = xs ∧ t.rd (SWC.PLEN_DROP e.val) = (s.rd (SWC.PLEN_DROP e.val) + 1) % 2 ^ 32 ∧
        t.flag SWC.STATUS_LEN_DROP = true ∧ RegsBut (fun a => a = SWC.PLEN_DROP e.val ∨ a = SWC.STATUS) s t ∧
        Only [.regs, .swc] s t) ∧
    (s.ringQueue e.val c.val = [] → s.tooLong e.val (s.asSent e.val x) = false → Completes s (.lenDrop e c) fun t => t = s) ∧
    (∀ r rs, e.val < 10 → s.ringQueue e.val c.val = r :: rs → s.flag RDE.CFG_RING_CT = false → r.bad = false →
      s.tooLong e.val (s.ringSent e.val r) = true → Completes s (.lenDrop e c) fun t =>
        t.ringQueue e.val c.val = rs ∧ t.rd (SWC.PLEN_DROP e.val) = (s.rd (SWC.PLEN_DROP e.val) + 1) % 2 ^ 32 ∧
        t.flag SWC.STATUS_LEN_DROP = true ∧ Only [.regs, .rde] s t) ∧
    (e.val = 10 → s.sys.power = .run → x.bad = false → (∀ d, c.val < d → d ≤ 7 → s.queue 10 d = []) →
      (∀ d y, d ≤ 7 → y ∈ s.queue 10 d → y.begun = false) → s.internalFree 10 c.val = true →
      Completes s (.internalEgress ⟨false, false⟩) fun t =>
        t.swc.ingest = s.swc.ingest ++ [x.frame] ∧ t.queue 10 c.val = xs ∧ Only [.swc] s t) ∧
    (∀ parity, e.val = 10 → s.sys.power = .run → x.bad = true ∨ parity = true → (∀ d, c.val < d → d ≤ 7 → s.queue 10 d = []) →
      (∀ d y, d ≤ 7 → y ∈ s.queue 10 d → y.begun = false) → s.internalFree 10 c.val = true →
      Completes s (.internalEgress ⟨false, parity⟩) fun t =>
        t.swc.ingest = s.swc.ingest ∧ (parity = false → t.queue 10 c.val = xs) ∧
        (parity = true → ∀ q d y, y ∈ t.queue q d → y.fid = x.fid → y.begun = true) ∧
        t.rd (SWC.PSTOMP 10) = (s.rd (SWC.PSTOMP 10) + 1) % 2 ^ 32 ∧ t.flag SWC.STATUS_STOMP = true ∧ Only [.regs, .swc] s t) ∧
    (∀ parity, e.val = 10 → s.sys.power = .run → (∀ d, c.val < d → d ≤ 7 → s.queue 10 d = []) →
      (∀ d y, d ≤ 7 → y ∈ s.queue 10 d → y.begun = false) → s.internalFree 10 c.val = false →
      Completes s (.internalEgress ⟨false, parity⟩) fun t => t = s) ∧
    (∀ parity, s.sys.power ≠ .run → Completes s (.internalEgress ⟨false, parity⟩) fun t => t = s) ∧
    (e.val = 11 → x.bad = false → (∀ d, c.val < d → d ≤ 7 → s.queue 11 d = []) →
      (∀ d y, d ≤ 7 → y ∈ s.queue 11 d → y.begun = false) → etherType x.frame.bytes = gooseType →
      Completes s (.internalEgress ⟨true, false⟩) fun t =>
        t.queue 11 c.val = xs ∧ t.pub.inbox = s.pub.inbox ++ [x.frame])

/-- R217, R235, R236, R242: epochs flip at once; entries of an epoch in use are not written; the address table commands do what
their names say and report a code. What of it is the model's own reading or choice: log entry 126. -/
def Obligations.SwitchTablesAreWrittenOnlyInDrainedEpochs : Prop :=
  ∀ (s : State) (e : Fin 2), s.awake = true →
    (Completes s .fdbFlip fun t => t.swc = { s.swc with fdbAct := 1 - s.swc.fdbAct } ∧ Only [.swc] s t) ∧
    (Completes s .clsFlip fun t => t.swc = { s.swc with clsAct := 1 - s.swc.clsAct } ∧ Only [.swc] s t) ∧
    (∀ (v : Fin 4096) (x : DWord), s.fdbOpen e.val = true → Completes s (.swcTableWrite e (.vlan v x)) fun t =>
      t.rd (SWC.VLAN e.val v.val) = x.toNat &&& 0xFFF0FFF0FFF ∧ RegsBut (fun a => a = SWC.VLAN e.val v.val) s t ∧ Only [.regs] s t) ∧
    (∀ (v : Fin 4096) (x : DWord), s.fdbOpen e.val = false → Completes s (.swcTableWrite e (.vlan v x)) fun t =>
      t.regs = (s.raise SWC.STATUS_EPOCH_REFUSED).regs ∧ Only [.regs] s t) ∧
    (∀ (n : Fin 256) (w : Fin 6) (x : Word), s.clsOpen e.val = false → Completes s (.swcTableWrite e (.cls n w x)) fun t =>
      t.regs = (s.raise SWC.STATUS_EPOCH_REFUSED).regs ∧ Only [.regs] s t) ∧
    (∀ (n : Fin 256) (x : Word), s.clsOpen e.val = true → Completes s (.swcTableWrite e (.cls n 0 x)) fun t =>
      t.rd (SWC.CLS_W0 e.val n.val) = x.toNat ∧ RegsBut (fun a => a = SWC.CLS_W0 e.val n.val) s t ∧ Only [.regs] s t) ∧
    (∀ i : Fin 65536, Completes s (.fdbRead e i) fun t =>
      t.rd SWC.FDB_D0 = (s.fdbEntry e.val i.val).1 % 2 ^ 64 ∧ t.rd SWC.FDB_D1 = (s.fdbEntry e.val i.val).2.1 % 2 ^ 64 ∧
      t.rd SWC.FDB_D2 = (s.fdbEntry e.val i.val).2.2 % 2 ^ 64 ∧ t.getF SWC.FDB_RES_INDEX = s.getF SWC.FDB_RES_INDEX ∧ t.getF SWC.FDB_RES_CODE = 0 ∧
      t.getF SWC.FDB_CMD_OP = 1 ∧ t.getF SWC.FDB_CMD_EPOCH = e.val ∧ t.getF SWC.FDB_CMD_INDEX = i.val ∧
      RegsBut (fun a => a ∈ [SWC.FDB_CMD, SWC.FDB_RES, SWC.FDB_D0, SWC.FDB_D1, SWC.FDB_D2]) s t ∧ Only [.regs] s t) ∧
    (∀ i : Fin 65536, s.fdbOpen e.val = true → Completes s (.fdbWrite e i) fun t =>
      t.fdbEntry e.val i.val = (s.rd SWC.FDB_D0, s.rd SWC.FDB_D1, s.rd SWC.FDB_D2) ∧
      (∀ j : Fin 65536, ∀ f : Fin 2, ¬ (f = e ∧ j = i) → t.fdbEntry f.val j.val = s.fdbEntry f.val j.val) ∧
      t.getF SWC.FDB_RES_CODE = 0 ∧ t.getF SWC.FDB_CMD_OP = 2 ∧ RegsBut (fun a => a = SWC.FDB_RES ∨ a = SWC.FDB_CMD) s t ∧ Only [.regs, .swc] s t) ∧
    (∀ i : Fin 65536, s.fdbOpen e.val = false → Completes s (.fdbWrite e i) fun t =>
      t.getF SWC.FDB_RES_CODE = 3 ∧ t.flag SWC.STATUS_EPOCH_REFUSED = true ∧ Only [.regs] s t) ∧
    (s.fdbOpen e.val = true → (s.fdbFind e.val s.fdbCmdKey.1 s.fdbCmdKey.2).isSome = true ∨
        (s.fdbFreeWay e.val s.fdbCmdKey.1 s.fdbCmdKey.2).isSome = true →
      Completes s (.fdbInsert e) fun t =>
        (∃ i, t.fdbFind e.val s.fdbCmdKey.1 s.fdbCmdKey.2 = some i ∧ t.getF SWC.FDB_RES_INDEX = i ∧
          t.fdbEntry e.val i = (s.rd SWC.FDB_D0, putBits (s.rd SWC.FDB_D1) 31 31 1, s.rd SWC.FDB_D2)) ∧
        t.getF SWC.FDB_RES_CODE = 0 ∧ Only [.regs, .swc] s t) ∧
    (s.fdbOpen e.val = true → s.fdbFind e.val s.fdbCmdKey.1 s.fdbCmdKey.2 = none →
      s.fdbFreeWay e.val s.fdbCmdKey.1 s.fdbCmdKey.2 = none → Completes s (.fdbInsert e) fun t =>
        t.getF SWC.FDB_RES_CODE = 2 ∧ Only [.regs] s t) ∧
    (∀ i, s.fdbOpen e.val = true → s.fdbFind e.val s.fdbCmdKey.1 s.fdbCmdKey.2 = some i → Completes s (.fdbDelete e) fun t =>
      t.fdbEntry e.val i = (0, 0, 0) ∧ t.getF SWC.FDB_RES_CODE = 0 ∧ t.getF SWC.FDB_RES_INDEX = i ∧ Only [.regs, .swc] s t) ∧
    (s.fdbOpen e.val = true → s.fdbFind e.val s.fdbCmdKey.1 s.fdbCmdKey.2 = none → Completes s (.fdbDelete e) fun t =>
      t.getF SWC.FDB_RES_CODE = 1 ∧ Only [.regs] s t) ∧
    (∀ i, s.fdbFind e.val s.fdbCmdKey.1 s.fdbCmdKey.2 = some i → Completes s (.fdbSearch e) fun t =>
      t.getF SWC.FDB_RES_CODE = 0 ∧ t.getF SWC.FDB_RES_INDEX = i ∧ t.getF SWC.FDB_CMD_OP = 5 ∧ RegsBut (fun a => a = SWC.FDB_RES ∨ a = SWC.FDB_CMD) s t ∧ Only [.regs] s t) ∧
    (s.fdbFind e.val s.fdbCmdKey.1 s.fdbCmdKey.2 = none → Completes s (.fdbSearch e) fun t =>
      t.getF SWC.FDB_RES_CODE = 1 ∧ t.getF SWC.FDB_CMD_OP = 5 ∧ RegsBut (fun a => a = SWC.FDB_RES ∨ a = SWC.FDB_CMD) s t ∧ Only [.regs] s t) ∧
    (∀ (p : Fin 12) (c : Fin 8) (v : Word), 1 ≤ bits v.toNat 12 0 → bits v.toNat 12 0 ≤ 4096 →
      (((List.range 96).filter fun q => q ≠ p.val * 8 + c.val).map fun q => s.qMin q).sum + bits v.toNat 12 0 ≤ 32768 →
      Completes s (.swcThrWrite p c v) fun t =>
        t.getF (SWC.QTHR_MIN p.val c.val) = bits v.toNat 12 0 ∧ RegsBut (fun a => a = SWC.QTHR p.val c.val) s t ∧ Only [.regs] s t) ∧
    (∀ (p : Fin 12) (c : Fin 8) (v : Word), 1 ≤ bits v.toNat 12 0 → bits v.toNat 12 0 ≤ 4096 →
      32768 < (((List.range 96).filter fun q => q ≠ p.val * 8 + c.val).map fun q => s.qMin q).sum + bits v.toNat 12 0 →
      Completes s (.swcThrWrite p c v) fun t =>
        t.getF (SWC.QTHR_MIN p.val c.val) = s.getF (SWC.QTHR_MIN p.val c.val) ∧ t.flag SWC.STATUS_CFG_REFUSED = true ∧
        RegsBut (fun a => a = SWC.QTHR p.val c.val ∨ a = SWC.STATUS) s t ∧ Only [.regs] s t)

/-- R168, R246, R258, R260, R263, R269, R275, R300: the redundancy engine's configuration, its source table, its proxies, its counters and the
ring's forward queues. What of it is the model's own reading or choice: log entries 39 and 135. -/
def Obligations.RedundancyConfigurationSourcesAndRing : Prop :=
  ∀ s : State, s.awake = true →
    (∀ v : Word, cfgGuarded (s.plain RDE.CFG v.toNat) ≠ cfgGuarded (s.rd RDE.CFG) →
      (cfgPorts (s.rd RDE.CFG) ++ cfgPorts (s.plain RDE.CFG v.toNat)).any (fun p => s.flag (PCX.CFG_EN p)) = true →
      Completes s (.rdeCfgWrite v) fun t =>
        t.rdeMode = s.rdeMode ∧ t.getF RDE.CFG_PORTA = s.getF RDE.CFG_PORTA ∧ t.getF RDE.CFG_PORTB = s.getF RDE.CFG_PORTB ∧
        t.flag RDE.STATUS_CFG_REFUSED = true ∧ RegsBut (fun a => a = RDE.CFG ∨ a = RDE.STATUS) s t ∧ Only [.regs] s t) ∧
    (∀ v : Word, cfgGuarded (s.plain RDE.CFG v.toNat) ≠ cfgGuarded (s.rd RDE.CFG) →
      (cfgPorts (s.rd RDE.CFG) ++ cfgPorts (s.plain RDE.CFG v.toNat)).any (fun p => s.flag (PCX.CFG_EN p)) = false →
      Completes s (.rdeCfgWrite v) fun t =>
        t.rd RDE.CFG = s.plain RDE.CFG v.toNat ∧ (t.pairMode = true → s.rde.pair = .off → t.rde.pair = .seek) ∧
        (t.pairMode = true → s.rde.pair = .off → (s.port 8).link ≠ .up ∨ (s.port 9).link ≠ .up →
          t.flag RDE.STATUS_LANE_DOWN = true) ∧
        (t.pairMode = false → t.rde.pair = .off) ∧ RegsBut (fun a => a = RDE.CFG ∨ a = RDE.STATUS) s t ∧ Only [.regs, .rde] s t) ∧
    (∀ i : Fin 8192, Completes s (.sourceAgeOut i) fun t =>
      t.source i.val = none ∧ (∀ j, j ≠ i.val → t.source j = s.source j) ∧ Only [.rde] s t) ∧
    (Completes s .ddFlush fun t => (∀ j, t.source j = none) ∧ t.rde.pair = s.rde.pair ∧ t.rde.tens = s.rde.tens ∧ Only [.rde] s t) ∧
    (Completes s .proxyFlip fun t => t.rde = { s.rde with proxyAct := 1 - s.rde.proxyAct } ∧ Only [.rde] s t) ∧
    (∀ (e : Fin 2) (m : Fin 512) (v : DWord), e.val = s.rde.proxyAct ∨ s.proxyDrain e.val ≠ 0 →
      Completes s (.proxyEntryWrite e m v) fun t => t.regs = (s.raise RDE.STATUS_EPOCH_REFUSED).regs ∧ Only [.regs] s t) ∧
    (∀ (e : Fin 2) (m : Fin 512) (v : DWord), e.val ≠ s.rde.proxyAct → s.proxyDrain e.val = 0 →
      Completes s (.proxyEntryWrite e m v) fun t =>
        t.regs = (s.plainWrite (RDE.PROXY e.val m.val) v.toNat).regs ∧ Only [.regs] s t) ∧
    (Completes s .rdeCntClr fun t =>
      (∀ a ∈ [RDE.RXA, RDE.RXB, RDE.DUP, RDE.WRONGLAN, RDE.NOSLOT, RDE.OOW, RDE.OWN, RDE.RFWD_DUP, RDE.RFWD_DROPA,
        RDE.RFWD_DROPB, RDE.UNTAG, RDE.HB_MISS, RDE.DIV, RDE.DIG_LATE, RDE.XFER_RETRY, RDE.SLOT_DEFER], t.rd a = 0) ∧
      t.rd RDE.CFG = s.rd RDE.CFG ∧ t.rd RDE.STATUS = s.rd RDE.STATUS ∧ Only [.regs] s t) ∧
    (∀ (p : Fin 10) c e es, (s.port p.val).sending = none → s.mayTransmit p.val = true → (s.port p.val).paused = false →
      s.isHalyard p.val = false → s.selected p.val = some (c, true) → s.ringQueue p.val c = e :: es →
      Completes s (.ringForward p) fun t =>
        t.ringQueue p.val c = es ∧ (∀ q, q ≠ p.val → t.port q = s.port q) ∧ t.swc = s.swc) ∧
    (∀ p : Fin 10, (s.port p.val).sending = none → s.mayTransmit p.val = false ∨ s.selected p.val = none ∨
      (∃ c, s.selected p.val = some (c, false)) → Completes s (.ringForward p) fun t => t = s)

/-- R135, R273, R274, R275, R277, R278, R282: heartbeats, partner loss and the pair state machine. What of it is the model's own reading
or choice: log entries 35, 40 and 138. -/
def Obligations.HeartbeatsDriveThePairStateMachine : Prop :=
  ∀ s : State, s.awake = true →
    (s.rde.pair ≠ .off → s.scanning = false → (s.laneUp 0 || s.laneUp 1) = true → Completes s .heartbeatSend fun t =>
      t.out = s.out ++ [.halyard (s.laneUp 0) (s.laneUp 1) s.rde.halTx
        (.heartbeat s.rde.pair s.rde.leader (s.rd SYS.SERIAL) s.tab.tickNum)] ∧
      t.rde.halTx = (s.rde.halTx + 1) % 65536 ∧ t.rde.pair = s.rde.pair ∧
      (s.laneUp 0 = true → t.rd (PCX.TX_FRAMES 8) = (s.rd (PCX.TX_FRAMES 8) + 1) % 2 ^ 32) ∧
      RegsBut (fun a => inLane 8 a ∨ inLane 9 a) s t ∧ Only [.regs, .rde, .out] s t) ∧
    (s.rde.pair = .off → Completes s .heartbeatSend fun t => t = s) ∧
    (∀ (seq : HalHead) (st : PairCode) (leads : Bool) (serial : DWord) (tick : Word),
      let c := Instr.heartbeatReceive seq st leads serial tick
      (s.halHears seq.lane.val = false → Completes s c fun t => t = s) ∧
      (HalNew s seq → serial.toNat = s.rd RDE.PARTNER_ID → st ≠ .off → st ≠ .seek → Completes s c fun t =>
        t.rde.partner = pairOf st ∧ t.rde.seen = true ∧ t.rd RDE.PARTNER_ID = serial.toNat ∧
        t.rd (PCX.RX_FRAMES (8 + seq.lane.val)) = (s.rd (PCX.RX_FRAMES (8 + seq.lane.val)) + 1) % 2 ^ 32 ∧
        (s.rde.pair = .seek → s.tab.ws ≠ .partner → st = .alone ∨ st = .paired →
          t.rde.pair = .transfer ∧ t.rde.leader = false ∧ t.flag RDE.STATUS_PARTNER_FOUND = true) ∧
        (s.rde.pair = .alone → st = .alone → s.leadsOver serial.toNat = true → t.rde.pair = .alone) ∧
        (s.rde.pair = .alone → st = .alone → s.leadsOver serial.toNat = false → s.tab.ws ≠ .partner → t.rde.pair = .transfer) ∧
        (s.rde.pair = .alone → st = .paired → t.rde.pair = .paired ∧ t.flag RDE.STATUS_PAIRED = true) ∧
        (s.rde.pair = .alone → st = .transfer ∨ st = .shadow → t.rde.pair = .alone)) ∧
      (s.halHears seq.lane.val = true → s.rde.pair = .seek → s.rde.halRx = none → st = .seek → Completes s c fun t =>
        t.rde.partner = .seek ∧ (s.leadsOver serial.toNat = true → t.rde.pair = .alone ∧ t.rde.leader = true) ∧
        (s.leadsOver serial.toNat = false → t.rde.pair = .seek)) ∧
      (s.halHears seq.lane.val = true → st = .off ∨ st = .seek → (pairOf st).num < s.rde.partner.num → Completes s c fun t =>
        t.rde.partner = pairOf st ∧ t.rde.seen = true ∧ t.rd RDE.PARTNER_ID = serial.toNat) ∧
      (s.halHears seq.lane.val = true → (halClass s.rde.halRx seq.num.toNat).2 = true → serial.toNat = s.rd RDE.PARTNER_ID →
        st ≠ .off → st ≠ .seek → Completes s c fun t =>
          t.rde.partner = s.rde.partner ∧ t.rde.pair = s.rde.pair ∧ HalOnly [] (fun _ => False) seq s t)) ∧
    (s.rde.pair ≠ .off → s.rde.missed + 1 < 4 ∨ s.rde.seen = false → Completes s .heartbeatMiss fun t =>
      t.rd RDE.HB_MISS = (s.rd RDE.HB_MISS + 1) % 2 ^ 32 ∧ t.rde = { s.rde with missed := s.rde.missed + 1 } ∧
      RegsBut (fun a => a = RDE.HB_MISS) s t ∧ Only [.regs, .rde] s t) ∧
    (s.rde.pair = .transfer ∨ s.rde.pair = .shadow ∨ s.rde.pair = .paired → 4 ≤ s.rde.missed + 1 → s.rde.seen = true →
      Completes s .heartbeatMiss fun t =>
        t.rde.pair = .alone ∧ t.rde.leader = true ∧ t.rde.seen = false ∧ t.flag RDE.STATUS_PARTNER_LOST = true ∧
        t.tab.ws ≠ .partner) ∧
    (s.rde.pair = .seek → s.rde.seen = false → Completes s .pairSeekTimeout fun t =>
      t.rde.pair = .alone ∧ t.rde.leader = true ∧ (∀ x, x < 1024 → s.pairTenant x = true → (t.tenRde x).st = .active)) ∧
    (s.rde.pair ≠ .seek → Completes s .pairSeekTimeout fun t => t = s) ∧
    (∀ (seq : HalHead) (tick : Word) (sec : BitVec 48) (ns : BitVec 30) (fw : Word) (base : BitVec 16) (blk : BitVec 13),
      HalNew s seq → s.rde.leader = false → Completes s (.halyardTickReceive seq tick sec ns fw base blk) fun t =>
        t.tab.partnerTick = some ⟨tick.toNat, sec.toNat * 1000000000 + ns.toNat, fw.toNat⟩ ∧
        t.pairBase tick.toNat = some base.toNat ∧
        (∀ b, s.pairBase tick.toNat = some b → b ≠ base.toNat → t.flag RDE.STATUS_GRANT_MISMATCH = true)) ∧
    (∀ (seq : HalHead) (tick : Word) (sec : BitVec 48) (ns : BitVec 30) (fw : Word) (base : BitVec 16) (blk : BitVec 13),
      s.rde.leader = true → Completes s (.halyardTickReceive seq tick sec ns fw base blk) fun t =>
        t.rde.ref = s.rde.ref ∧ t.rde.pair = s.rde.pair ∧ HalOnly [] (fun _ => False) seq s t)

/-- R286, R287, R289, R290, R291, R292, R294: digests are compared once, and the messages of a state transfer are taken by the tenant
they name. What of it is the model's own reading or choice: log entries 37, 38 and 134. -/
def Obligations.DigestsAndStateTransfer : Prop :=
  ∀ (s : State) (x : Fin 1024) (seq : HalHead) (target : Word), s.awake = true → s.pairTenant x.val = true →
    (∀ (d : DWord) (f : Bool), HalNew s seq → (s.tenRde x.val).mine = [] →
      Completes s (.digestReceive seq target [⟨x, d, f⟩]) fun t =>
        (t.tenRde x.val).theirs = ((s.tenRde x.val).theirs ++ [(target.toNat, d.toNat, f)]).drop ((s.tenRde x.val).theirs.length - 15) ∧
        (t.tenRde x.val).st = (s.tenRde x.val).st ∧ (∀ y, y ≠ x.val → t.tenRde y = s.tenRde y) ∧
        HalOnly [] (fun _ => False) seq s t) ∧
    (∀ d d' : DWord, HalNew s seq → (s.tenRde x.val).mine = [(target.toNat, d'.toNat, false)] → (s.tenRde x.val).theirs = [] →
      d ≠ d' → Completes s (.digestReceive seq target [⟨x, d, false⟩]) fun t =>
        t.rd RDE.DIV = (s.rd RDE.DIV + 1) % 2 ^ 32 ∧ t.flag RDE.STATUS_DIVERGE = true ∧
        t.flag ⟨RDE.DIVF (x.val / 32), x.val % 32, 1⟩ = true ∧ (t.tenRde x.val).matches_ = 0 ∧ (t.tenRde x.val).mine = [] ∧
        (t.tenRde x.val).theirs = [] ∧ (t.tenRde x.val).st = (s.tenRde x.val).st) ∧
    (∀ d : DWord, HalNew s seq → (s.tenRde x.val).mine = [(target.toNat, d.toNat, false)] → (s.tenRde x.val).theirs = [] →
      (s.tenRde x.val).lastTick ≠ some target.toNat → (s.tenRde x.val).st = .shadow →
      Completes s (.digestReceive seq target [⟨x, d, false⟩]) fun t =>
        (t.tenRde x.val).mine = [] ∧ t.rd RDE.DIV = s.rd RDE.DIV ∧
        (s.rde.pair ≠ .alone → 15 ≤ (s.tenRde x.val).matches_ → (t.tenRde x.val).st = .active ∧ (t.tenRde x.val).hold = true) ∧
        (s.rde.pair ≠ .alone → (s.tenRde x.val).matches_ < 15 →
          (t.tenRde x.val).st = .shadow ∧ (t.tenRde x.val).matches_ = (s.tenRde x.val).matches_ + 1) ∧
        (s.rde.pair = .alone → (t.tenRde x.val).st = .shadow ∧ (t.tenRde x.val).matches_ = 0)) ∧
    (∀ d : DWord, HalNew s seq → (s.tenRde x.val).mine = [(target.toNat, d.toNat, false)] → (s.tenRde x.val).theirs = [] →
      (s.tenRde x.val).lastTick = some target.toNat → Completes s (.digestReceive seq target [⟨x, d, false⟩]) fun t =>
        (t.tenRde x.val).mine = [] ∧ (t.tenRde x.val).st = (s.tenRde x.val).st ∧
        (t.tenRde x.val).matches_ = (s.tenRde x.val).matches_) ∧
    (∀ crcs : PageCrcs, HalNew s seq → s.rde.pair = .alone ∨ s.rde.pair = .paired →
      crcs.count ≤ (s.tenRde x.val).listPart.length + crcs.crcs.length → Completes s (.pagelistReceive seq x crcs) fun t =>
        (t.tenRde x.val).target = some (tickAdd s.tab.tickNum (s.getF RDE.PAIR_CFG_LEAD)) ∧
        (t.tenRde x.val).joinList = some ((s.tenRde x.val).listPart ++ crcs.crcs.map BitVec.toNat) ∧ (t.tenRde x.val).listPart = [] ∧
        (∀ y, y ≠ x.val → t.tenRde y = s.tenRde y) ∧ HalOnly [] (fun _ => False) seq s t) ∧
    (∀ crcs : PageCrcs, HalNew s seq → s.rde.pair = .alone ∨ s.rde.pair = .paired →
      (s.tenRde x.val).listPart.length + crcs.crcs.length < crcs.count → Completes s (.pagelistReceive seq x crcs) fun t =>
        (t.tenRde x.val).target = (s.tenRde x.val).target ∧ (t.tenRde x.val).joinList = (s.tenRde x.val).joinList ∧
        (t.tenRde x.val).listPart = (s.tenRde x.val).listPart ++ crcs.crcs.map BitVec.toNat ∧
        (∀ y, y ≠ x.val → t.tenRde y = s.tenRde y) ∧ HalOnly [] (fun _ => False) seq s t) ∧
    (∀ tick crcs, (s.tenRde x.val).target = some tick → (s.tenRde x.val).joinList = some crcs → s.beforeTick x.val tick = true →
      Completes s (.xferCopy x) fun t => (t.tenRde x.val).target = none ∧ (t.tenRde x.val).joinList = none ∧
        (t.tenRde x.val).st = (s.tenRde x.val).st ∧ t.tab = s.tab ∧ t.svc = s.svc) ∧
    ((s.tenRde x.val).target = none → Completes s (.xferCopy x) fun t => t = s) ∧
    (∀ index (q : Fin 4) data, HalNew s seq → (s.tenRde x.val).st = .wait →
      Completes s (.pageReceive seq x target index q data) fun t =>
        (t.tenRde x.val).target = some target.toNat ∧
        (t.tenRde x.val).pages =
          (if (s.tenRde x.val).target = some target.toNat then (s.tenRde x.val).pages else []) ++ [(index, q.val, data)] ∧
        (t.tenRde x.val).got = (if (s.tenRde x.val).target = some target.toNat then (s.tenRde x.val).got else 0) + 1 ∧
        (∀ y, y ≠ x.val → t.tenRde y = s.tenRde y) ∧ HalOnly [] (fun _ => False) seq s t) ∧
    (∀ pubs : List PubState, HalNew s seq → (s.tenRde x.val).st = .wait →
      Completes s (.pubstateReceive seq x target pubs) fun t =>
        (t.tenRde x.val).target = some target.toNat ∧
        (t.tenRde x.val).got = (if (s.tenRde x.val).target = some target.toNat then (s.tenRde x.val).got else 0) + 1 ∧
        (t.tenRde x.val).pubs.length =
          (if (s.tenRde x.val).target = some target.toNat then (s.tenRde x.val).pubs.length else 0) + pubs.length ∧
        (∀ y, y ≠ x.val → t.tenRde y = s.tenRde y) ∧ HalOnly [] (fun _ => False) seq s t) ∧
    (∀ frames, HalNew s seq → (s.tenRde x.val).st = .wait → (s.tenRde x.val).target = some target.toNat →
      (s.tenRde x.val).got = frames → s.tickCame x.val target.toNat = false → s.rde.pair ≠ .transfer ∨ s.rde.angleRefused = false →
      Completes s (.xferEndReceive seq x target frames none) fun t => (t.tenRde x.val).st = .shadow ∧
        (t.tenRde x.val).pages = [] ∧ (t.tenRde x.val).matches_ = 0) ∧
    (∀ frames, HalNew s seq → (s.tenRde x.val).st = .wait →
      (if (s.tenRde x.val).target = some target.toNat then (s.tenRde x.val).got else 0) ≠ frames ∨
        s.tickCame x.val target.toNat = true ∨ s.rde.pair = .transfer ∧ s.rde.angleRefused = true →
      Completes s (.xferEndReceive seq x target frames none) fun t =>
        (t.tenRde x.val).st = .wait ∧ t.rd RDE.XFER_RETRY = (s.rd RDE.XFER_RETRY + 1) % 2 ^ 32 ∧
        t.flag RDE.STATUS_XFER_RETRY = true ∧ t.mem = s.mem ∧ t.tab = s.tab) ∧
    (∀ frames b, HalNew s seq → Completes s (.xferEndReceive seq x target frames (some b)) fun t =>
      (∀ y, t.tenRde y = s.tenRde y) ∧ HalOnly [] (fun _ => False) seq s t) ∧
    (s.rde.pair = .alone → (s.tenRde x.val).st ≠ .active → Completes s (.rdeResume x) fun t =>
      (t.tenRde x.val).st = .active ∧ (t.tenRde x.val).matches_ = 0 ∧ (t.tenRde x.val).hold = true ∧
      (∀ y, y ≠ x.val → t.tenRde y = s.tenRde y) ∧ Only [.rde] s t) ∧
    (s.rde.pair ≠ .alone → (s.tenRde x.val).st = .silent → Completes s (.rdeResume x) fun t =>
      (t.tenRde x.val).st = .shadow ∧ (t.tenRde x.val).matches_ = 0 ∧ (∀ y, y ≠ x.val → t.tenRde y = s.tenRde y) ∧ Only [.rde] s t) ∧
    (Completes s (.rdeSilence x) fun t =>
      (t.tenRde x.val).st = .silent ∧ (∀ y, y ≠ x.val → t.tenRde y = s.tenRde y) ∧ Only [.rde, .regs] s t) ∧
    (s.rde.seen = true → s.rde.partner = .alone ∨ s.rde.partner = .paired → Completes s (.rdeRetransfer x) fun t =>
      (t.tenRde x.val).st = .wait ∧ (t.tenRde x.val).pages = [] ∧ (∀ y, y ≠ x.val → t.tenRde y = s.tenRde y) ∧
      RegsBut (fun a => inLane 8 a ∨ inLane 9 a) s t ∧ Only [.regs, .rde, .out] s t) ∧
    (s.rde.seen = false → Completes s (.rdeRetransfer x) fun t => t = s)

/-- R303, R306, R316, R322, R324: a frame of sampled values is counted where it fails, and an ASDU of a stream in IDLE starts it.
What of it is the model's own reading or choice: log entries 42, 50, 122 and 129. -/
def Obligations.SampledFramesAreCountedRejectedOrStored : Prop :=
  ∀ (s : State) (f : Frame) (fs : List Frame) (m : Nat) (a : Asdu) (st : Nat) (appid : Nat) (sim : Bool), s.sys.power = .run →
    (s.swc.ingest = [] → Completes s .svFrameIngest fun t => t = s) ∧
    (s.swc.ingest = f :: fs →
      (readSvFrame f.bytes = none → Completes s .svFrameIngest fun t => t.swc.ingest = fs ∧ t.svc = s.svc ∧
        t.rd SVC.FMTERR = (s.rd SVC.FMTERR + 1) % 2 ^ 32 ∧ t.flag SVC.STATUS_FMT_ERR = true ∧
        RegsBut (fun r => r = SVC.FMTERR ∨ r = SVC.STATUS) s t ∧ Only [.regs, .swc] s t) ∧
      (readSvFrame f.bytes = some (appid, sim, m, [a]) → a.bad = false → a.hasSvid = true →
        s.subFind s.svc.subAct f appid a.svid = none → Completes s .svFrameIngest fun t => t.swc.ingest = fs ∧ t.svc = s.svc ∧
          t.rd SVC.NOMATCH = (s.rd SVC.NOMATCH + 1) % 2 ^ 32 ∧ t.flag SVC.STATUS_NOMATCH = true ∧
          RegsBut (fun r => r = SVC.NOMATCH ∨ r = SVC.STATUS) s t ∧ Only [.regs, .swc] s t) ∧
      (readSvFrame f.bytes = some (appid, sim, m, [a]) → a.hasSvid = true → st < 2048 →
        s.subFind s.svc.subAct f appid a.svid = some st →
        (s.streamOpen st = false → a.bad = false → (s.readChannels st f.bytes (a.data.getD (0, 0)) false).isSome = true →
          Completes s .svFrameIngest fun t => t.swc.ingest = fs ∧ t.svc = s.svc ∧
            t.rd SVC.NOMATCH = (s.rd SVC.NOMATCH + 1) % 2 ^ 32 ∧ Only [.regs, .swc] s t) ∧
        (s.flag (SVC.KEY_AUTH_EN st) = false →
          a.bad = true ∨ s.streamOpen st = false ∧ s.readChannels st f.bytes (a.data.getD (0, 0)) false = none →
          Completes s .svFrameIngest fun t =>
          t.swc.ingest = fs ∧ t.svc = s.svc ∧ t.rd (SVC.SFMTERR st) = (s.rd (SVC.SFMTERR st) + 1) % 2 ^ 32 ∧
          t.rd SVC.NOMATCH = s.rd SVC.NOMATCH ∧ t.flag SVC.STATUS_FMT_ERR = true ∧ Only [.regs, .swc] s t) ∧
        (∀ cs n, s.streamOpen st = true → s.flag (SVC.KEY_AUTH_EN st) = false → a.bad = false → a.smpCnt = some n →
          s.readChannels st f.bytes (a.data.getD (0, 0)) (!s.timedByCount st (a.synch.getD 0)) = some cs →
          (a.confRev.getD 0 ≠ s.rd (SVC.CONFREV st) ∨ sim ≠ s.flag (SVC.STRCFG_SIM st) → Completes s .svFrameIngest fun t =>
            t.swc.ingest = fs ∧ t.svc = s.svc ∧ t.rd (SVC.REJECT st) = (s.rd (SVC.REJECT st) + 1) % 2 ^ 32 ∧
            t.flag SVC.STATUS_REJECT = true ∧ RegsBut (fun r => r = SVC.REJECT st ∨ r = SVC.STATUS) s t ∧ Only [.regs, .swc] s t) ∧
          (a.confRev.getD 0 = s.rd (SVC.CONFREV st) → sim = s.flag (SVC.STRCFG_SIM st) → n < 2 ^ 16 →
            s.streamSt st = .idle → (s.stream st).inp = [] → Completes s .svFrameIngest fun t =>
              t.swc.ingest = fs ∧ t.streamSt st = .start ∧ t.getF (SVC.SSTATE_NEWEST st) = n ∧
              (t.stream st).inp.map (·.idx) = [((n % s.wrapOf st : Nat) : Int)] ∧
              (∀ x ∈ (t.stream st).inp, x.st = .received ∧ x.ch = cs.map (·.2.2)) ∧
              (∀ st', st' ≠ st → t.stream st' = s.stream st') ∧ t.svc.subAct = s.svc.subAct ∧ t.svc.coef = s.svc.coef ∧
              Only [.regs, .swc, .svc] s t) ∧
          (∀ x xs, a.confRev.getD 0 = s.rd (SVC.CONFREV st) → sim = s.flag (SVC.STRCFG_SIM st) → (s.stream st).inp = x :: xs →
            ((n : Int) - x.idx).fmod (s.wrapOf st) = 0 → Completes s .svFrameIngest fun t =>
              t.swc.ingest = fs ∧ (t.stream st).inp = (s.stream st).inp ∧ (t.stream st).out = (s.stream st).out ∧
              t.rd (SVC.DUP st) = (s.rd (SVC.DUP st) + 1) % 2 ^ 32 ∧ t.flag SVC.STATUS_DUP = true))))

/-- R324, R325, R326, R332: a fill deadline and a horizon pass; time runs to one that lies ahead before the next tick. What of it is
the model's own reading or choice: log entries 43, 44 and 141. -/
def Obligations.DeadlinesFillAndHorizonsFreeze : Prop :=
  ∀ (s : State) (st : Fin 2048) (tick : Word) (k : Nat), s.sys.power = .run → k = s.tickIdx tick.toNat →
    (s.deadlineIn st.val k = none → (Completes s (.fillDeadline st tick) fun t => t = s) ∧
      Completes s (.horizonFreeze st tick) fun t => t = s) ∧
    (∀ n, s.deadlineIn st.val k = some n → s.boundaryIn < n → (Completes s (.fillDeadline st tick) fun t => t = s) ∧
      Completes s (.horizonFreeze st tick) fun t => t = s) ∧
    (∀ n, s.deadlineIn st.val k = some n → 0 < n → n < s.boundaryIn → NoneDue s n → (s.advance n).deadlineIn st.val k = some 0 →
      (Completes s (.fillDeadline st tick) fun t => t = (s.advance n).fillDeadline st.val k) ∧
      Completes s (.horizonFreeze st tick) fun t => t = (s.advance n).horizonFreeze st.val k) ∧
    (s.deadlineIn st.val k = some 0 →
      (s.holdsReady st.val = false → Completes s (.fillDeadline st tick) fun t => t = s) ∧
      (∀ need x xs, s.needOut st.val k = some need → (s.stream st.val).inp = x :: xs →
        s.inputOf st.val need ≤ x.idx → Completes s (.fillDeadline st tick) fun t => t = s) ∧
      (∀ need x xs, s.holdsReady st.val = true → s.needOut st.val k = some need →
        (s.stream st.val).inp = x :: xs → x.idx < s.inputOf st.val need → Completes s (.fillDeadline st tick) fun t =>
          (t.streamSt st.val = .fill ∨ t.streamSt st.val = .lost) ∧
          (t.stream st.val).lateTicks.head? = some k ∧
          (t.stream st.val).inp = (s.stream st.val).inp ∧ (∀ q, q ≠ st.val → t.stream q = s.stream q) ∧
          RegsBut (fun a => a = SVC.SSTATE st.val ∨ a = SVC.PRED st.val ∨ a = SVC.STATUS) s t ∧ Only [.regs, .svc] s t) ∧
      (∀ need, (s.prevTick k).bind (s.needOut st.val) = some need → Completes s (.horizonFreeze st tick) fun t =>
        (t.stream st.val).inp.length = (s.stream st.val).inp.length ∧
        (∀ x ∈ (t.stream st.val).inp, x.idx ≤ s.inputOf st.val need → x.st = .received ∨ x.frozen = true) ∧
        (∀ x ∈ (t.stream st.val).out, x.idx ≤ need → x.st = .received ∨ x.frozen = true) ∧
        (∀ x ∈ (s.stream st.val).inp, x.st = .received ∨ s.inputOf st.val need < x.idx → x ∈ (t.stream st.val).inp) ∧
        (s.streamSt st.val = .fill → (t.stream st.val).whole = true → t.streamSt st.val = .run) ∧
        (∀ q, q ≠ st.val → t.stream q = s.stream q) ∧ RegsBut (fun a => a = SVC.SSTATE st.val) s t ∧ Only [.regs, .svc] s t) ∧
      ((s.prevTick k).bind (s.needOut st.val) = none → Completes s (.horizonFreeze st tick) fun t => t = s))

/-- R46, R309, R311, R312, R314, R343: the registers of ingest: epochs, enabled streams and their structural fields, counters. What
of it is the model's own reading or choice: log entry 8. -/
def Obligations.StreamsAndSubscriptionsAreConfigured : Prop :=
  ∀ (s : State) (st : Fin 2048), s.sys.power = .run →
    (Completes s .subFlip fun t => t.svc.subAct = 1 - s.svc.subAct ∧ t.svc.streams = s.svc.streams ∧ Only [.svc] s t) ∧
    (∀ (e : Fin 2) (n : Fin 2048) (w : Fin 20) (v : Word),
      (s.svc.subAct = e.val → Completes s (.subEntryWrite e n w v) fun t => t.flag SVC.STATUS_EPOCH_REFUSED = true ∧
        RegsBut (fun a => a = SVC.STATUS) s t ∧ Only [.regs] s t) ∧
      (s.svc.subAct ≠ e.val → Completes s (.subEntryWrite e n w v) fun t =>
        t.rdW (SVC.SUB_W0 e.val n.val + 4 * w.val) = BitVec.ofNat 64 (s.plain (SVC.SUB_W0 e.val n.val + 4 * w.val) v.toNat) ∧
        RegsBut (fun a => a = SVC.SUB_W0 e.val n.val + 4 * w.val) s t ∧ Only [.regs] s t)) ∧
    (∀ (v : Word) (u : State), u = s.plainWrite (SVC.STRCFG st.val) (putBits v.toNat 31 31 1) →
      s.flag (SVC.STRCFG_EN st.val) = false →
      (u.mayEnable st.val = true → Completes s (.streamEnable st v) fun t =>
        t.streamSt st.val = .idle ∧ (t.stream st.val).inp = [] ∧ (t.stream st.val).out = [] ∧ (t.stream st.val).prev = none ∧
        t.rdW (SVC.STRCFG st.val) = u.rdW (SVC.STRCFG st.val) ∧ (∀ q, q ≠ st.val → t.stream q = s.stream q) ∧
        RegsBut (fun a => a = SVC.STRCFG st.val ∨ a = SVC.SSTATE st.val ∨ a = SVC.LOAD_ASDU ∨ a = SVC.LOAD_CHS ∨
          a = SVC.LOAD_96K) s t ∧ Only [.regs, .svc] s t) ∧
      (u.mayEnable st.val = false → Completes s (.streamEnable st v) fun t =>
        t.flag (SVC.STRCFG_EN st.val) = false ∧ t.flag SVC.STATUS_CFG_REFUSED = true ∧
        RegsBut (fun a => a = SVC.STRCFG st.val ∨ a = SVC.STATUS) s t ∧ Only [.regs] s t)) ∧
    (∀ v : Word, s.flag (SVC.STRCFG_EN st.val) = true → Completes s (.streamDisable st v) fun t =>
      t.streamSt st.val = .disabled ∧ (t.stream st.val).inp = [] ∧ (t.stream st.val).out = [] ∧
      (∀ q, q ≠ st.val → t.stream q = s.stream q) ∧
      RegsBut (fun a => a = SVC.STRCFG st.val ∨ a = SVC.SSTATE st.val ∨ a = SVC.STATUS ∨ a = SVC.LOAD_ASDU ∨ a = SVC.LOAD_CHS ∨
        a = SVC.LOAD_96K) s t ∧ Only [.regs, .svc] s t) ∧
    (∀ v : Word, s.flag (SVC.STRCFG_EN st.val) = true → bit v.toNat 31 = true →
      Completes s (.streamCfgWrite (.cfg st v)) fun t =>
        t.getF (SVC.STRCFG_RATE st.val) = s.getF (SVC.STRCFG_RATE st.val) ∧
        t.getF (SVC.STRCFG_NCH st.val) = s.getF (SVC.STRCFG_NCH st.val) ∧
        t.getF (SVC.STRCFG_SYNCMODE st.val) = s.getF (SVC.STRCFG_SYNCMODE st.val) ∧
        t.getF (SVC.STRCFG_SIM st.val) = s.getF (SVC.STRCFG_SIM st.val) ∧
        t.getF (SVC.STRCFG_FILL_EN st.val) = s.getF (SVC.STRCFG_FILL_EN st.val) ∧
        ((s.plainWrite (SVC.STRCFG st.val) v.toNat).getF (SVC.STRCFG_NCH st.val) ≠ s.getF (SVC.STRCFG_NCH st.val) →
          t.flag SVC.STATUS_CFG_REFUSED = true) ∧
        t.getF (SVC.STRCFG_GMID st.val) = (s.plainWrite (SVC.STRCFG st.val) v.toNat).getF (SVC.STRCFG_GMID st.val) ∧
        RegsBut (fun a => a = SVC.STRCFG st.val ∨ a = SVC.STATUS) s t ∧ Only [.regs] s t) ∧
    (∀ v : Word, s.flag (SVC.STRCFG_EN st.val) = true → Completes s (.streamCfgWrite (.cfg2 st v)) fun t =>
      t.getF (SVC.STRCFG2_WRAP st.val) = s.getF (SVC.STRCFG2_WRAP st.val) ∧
      t.getF (SVC.STRCFG2_CH0 st.val) = s.getF (SVC.STRCFG2_CH0 st.val) ∧
      RegsBut (fun a => a = SVC.STRCFG2 st.val ∨ a = SVC.STATUS) s t ∧ Only [.regs] s t) ∧
    (∀ v : Word, s.flag (SVC.STRCFG_EN st.val) = false → Completes s (.streamCfgWrite (.cfg2 st v)) fun t =>
      t = s.plainWrite (SVC.STRCFG2 st.val) v.toNat) ∧
    (∀ (c : Fin 16384) (v : Word), s.channelInUse c.val = true → Completes s (.streamCfgWrite (.channel c v)) fun t =>
      t.getF (SVC.CHCFG_QPRES c.val) = s.getF (SVC.CHCFG_QPRES c.val) ∧
      t.getF (SVC.CHCFG_KIND c.val) = s.getF (SVC.CHCFG_KIND c.val) ∧
      t.getF (SVC.CHCFG_VOFF c.val) = s.getF (SVC.CHCFG_VOFF c.val) ∧
      RegsBut (fun a => a = SVC.CHCFG c.val ∨ a = SVC.STATUS) s t ∧ Only [.regs] s t) ∧
    (Canonical s → Completes s .svcCntClr fun t =>
      t.rd SVC.NOMATCH = 0 ∧ t.rd SVC.FMTERR = 0 ∧ t.rd (SVC.MISSING st.val) = 0 ∧ t.rd (SVC.DUP st.val) = 0 ∧
      t.rd (SVC.LATE st.val) = 0 ∧ t.rd (SVC.PRED st.val) = 0 ∧ t.rd (SVC.CORR st.val) = 0 ∧ t.rd (SVC.REJECT st.val) = 0 ∧
      t.rd (SVC.AUTHFAIL st.val) = 0 ∧ t.rd (SVC.SFMTERR st.val) = 0 ∧
      RegsBut (fun a => a = SVC.NOMATCH ∨ a = SVC.FMTERR ∨
        SVC.MISSING 0 ≤ a ∧ a < SVC.STRCFG 2048 ∧ 0x20 ≤ (a - SVC.STRCFG 0) % 0x40) s t ∧ Only [.regs] s t) ∧
    (∀ l : State, l = { s with sys := { s.sys with power := .lull } } → ∀ v : Word,
      Completes l (.streamCfgWrite (.cfg2 st v)) fun t =>
        t.sys.gated = s.sys.gated ++ [(SVC.STRCFG2 st.val, v.toNat)] ∧ t.sys.power = .lull ∧ Only [.sys] s t)

/-- R333, R339, R357, R366, R369, R380, R381, R382, R383: grids are enabled and disabled, resampler writes are refused while in use,
output samples are written in order and written again, and coefficients are reached one after another. What of it is the model's own
reading or choice: log entries 47, 48 and 49. -/
def Obligations.GridsOutputSamplesAndCoefficients : Prop :=
  ∀ (s : State) (g : Fin 16) (st : Fin 2048), s.sys.power = .run →
    (∀ (v : Word) (u : State), u = s.plainWrite (SVC.GCFG g.val) (putBits v.toNat 31 31 1) → s.gridOn g.val = false →
      (u.rsLoad ≤ 8000000 → (u.isTimeGrid g.val = true → 8000000 ≤ s.rd (SVC.PERIOD g.val) ∧ s.rd (SVC.PERIOD g.val) ≤ 256000000) →
        Completes s (.gridEnable g v) fun t => t.gridOn g.val = true ∧
          t.rd (SVC.GD g.val) = (max (s.rd (SVC.GDMIN g.val) : Int) (u.gridNeed g.val)).toNat % 2 ^ 25 ∧
          (t.regRead .debug SVC.RS_LOAD).2 = u.rsLoad ∧
          RegsBut (fun a => a = SVC.GCFG g.val ∨ a = SVC.GD g.val) s t ∧ Only [.regs, .svc] s t) ∧
      (8000000 < u.rsLoad → Completes s (.gridEnable g v) fun t => t.gridOn g.val = false ∧
        t.flag SVC.RS_FLAGS_REFUSED = true ∧
        RegsBut (fun a => a = SVC.RS_FLAGS) s t ∧ Only [.regs] s t)) ∧
    (∀ v : Word, s.gridOn g.val = true →
      (s.gridBusy g.val = true → Completes s (.gridDisable g v) fun t => t.gridOn g.val = true ∧
        t.flag SVC.RS_FLAGS_REFUSED = true ∧ RegsBut (fun a => a = SVC.RS_FLAGS) s t ∧ Only [.regs] s t) ∧
      (s.gridBusy g.val = false → Completes s (.gridDisable g v) fun t => t.gridOn g.val = false ∧
        RegsBut (fun a => a = SVC.RS_FLAGS ∨ a = SVC.GCFG g.val) s t ∧ Only [.regs, .svc] s t)) ∧
    (∀ v : Word, s.flag (SVC.STRCFG_EN st.val) = true → Completes s (.resampleCfgWrite (.rscfg st v)) fun t =>
      t.flag SVC.RS_FLAGS_REFUSED = true ∧ RegsBut (fun a => a = SVC.RS_FLAGS) s t ∧ Only [.regs] s t) ∧
    (∀ (v : Word) (u : State), u = s.plainWrite (SVC.RSCFG st.val) v.toNat → s.flag (SVC.STRCFG_EN st.val) = false →
      u.taps st.val ≠ 0 → (u.ratio st.val = 1 ∨ u.decLen st.val ≠ 0) → u.rsLoad ≤ 8000000 ∨ u.rsLoad ≤ s.rsLoad → s.delaysHold u = true →
      Completes s (.resampleCfgWrite (.rscfg st v)) fun t =>
        t.rdW (SVC.RSCFG st.val) = u.rdW (SVC.RSCFG st.val) ∧ (t.stream st.val).outs = [] ∧
        (∀ q, q ≠ st.val → t.stream q = s.stream q) ∧
        RegsBut (fun a => a = SVC.RSCFG st.val) s t ∧ Only [.regs, .svc] s t) ∧
    (∀ (c : Fin 16384) (v : Word), s.channelInUse c.val = true → Completes s (.resampleCfgWrite (.phdly c v)) fun t =>
      t = s.raise SVC.RS_FLAGS_REFUSED) ∧
    (∀ (i : Fin 8) (v : Word), s.setInUse false i.val = true → Completes s (.resampleCfgWrite (.iset i v)) fun t =>
      t = s.raise SVC.RS_FLAGS_REFUSED) ∧
    (∀ (i : Fin 16) (v : Word), s.setInUse true i.val = false → Completes s (.resampleCfgWrite (.dset i v)) fun t =>
      t = s.plainWrite (SVC.DSET i.val) v.toNat) ∧
    (∀ v : Word, s.gridOn g.val = true → Completes s (.resampleCfgWrite (.period g v)) fun t => t = s.raise SVC.RS_FLAGS_REFUSED) ∧
    (∀ v : DWord, s.gridOn g.val = false → Completes s (.resampleCfgWrite (.base g v)) fun t =>
      t = s.plainWrite (SVC.GBASE g.val) v.toNat) ∧
    (s.mapped st.val = none → (Completes s (.resampleOutput st) fun t => t = s) ∧
      Completes s (.resampleRewrite st) fun t => t = s) ∧
    (∀ gr j x, s.mapped st.val = some gr → j = s.nextJ st.val gr → s.gridInstant gr j = some x →
      (s.tab.mono < x.mono ∨ s.outputPresent st.val gr x = false → Completes s (.resampleOutput st) fun t => t = s) ∧
      (x.mono ≤ s.tab.mono → s.outputPresent st.val gr x = true →
        (∀ n ∈ s.pubsOn, s.pubKind n ≠ 4 ∨ s.pubF PUB.W1_FIRST n ≠ gr) → Completes s (.resampleOutput st) fun t =>
          (t.stream st.val).jNext = some ((s.grid gr).after j) ∧ t.rd (SVC.JLAST gr) = j % 2 ^ 32 ∧
          t.readLe (0x1001200000 + st.val * 0x400 + j % 256 * 4) 4 = timestampWord (x.t - (s.rd (SVC.GD gr) : Int)) % 2 ^ 32 ∧
          (∀ a, a < 0x1000000000 ∨ 0x1001400000 ≤ a → t.readByte a = s.readByte a) ∧
          (∀ q, q ≠ st.val → t.stream q = s.stream q) ∧ Only [.regs, .mem, .svc, .mc] s t)) ∧
    (∀ gr, s.mapped st.val = some gr → Completes s (.resampleRewrite st) fun t => (∀ r ∈ (t.stream st.val).outs, r.dirty = false) ∧
        (t.stream st.val).outs.map (·.j) = (s.stream st.val).outs.map (·.j) ∧
        (∀ a, a < 0x1000000000 ∨ 0x1001400000 ≤ a → t.readByte a = s.readByte a) ∧
        (∀ q, q ≠ st.val → t.stream q = s.stream q) ∧ Only [.regs, .mem, .svc, .mc] s t) ∧
    (∀ who, s.regReach who = true → Completes s (.coefDataAccess who none) fun t =>
      (t.port64 who).resp = .data (smapGet (fun _ => 0) s.svc.coef (coefKey (s.rd SVC.COEF_ADDR))) ∧
      t.rdW SVC.COEF_ADDR = BitVec.ofNat 64 (s.coefNext (s.rd SVC.COEF_ADDR)) ∧
      RegsBut (fun a => a = SVC.COEF_ADDR) s t ∧ Only [.regs, .ports64] s t) ∧
    (∀ who (v : Word), s.regReach who = true → bit (s.rd SVC.COEF_ADDR) 31 = true →
      (s.setInUse true (bits (s.rd SVC.COEF_ADDR) 27 24) = false → Completes s (.coefDataAccess who (some v)) fun t =>
        smapGet (fun _ => 0) t.svc.coef (coefKey (s.rd SVC.COEF_ADDR)) = v.toNat % 2 ^ 18 ∧ (t.port64 who).hold = none ∧
        (∀ k, k ≠ coefKey (s.rd SVC.COEF_ADDR) → smapGet (fun _ => 0) t.svc.coef k = smapGet (fun _ => 0) s.svc.coef k) ∧
        t.rdW SVC.COEF_ADDR = BitVec.ofNat 64 (s.coefNext (s.rd SVC.COEF_ADDR)) ∧ Only [.regs, .svc, .ports64] s t) ∧
      (s.setInUse true (bits (s.rd SVC.COEF_ADDR) 27 24) = true → Completes s (.coefDataAccess who (some v)) fun t =>
        t.svc = s.svc ∧ t.flag SVC.RS_FLAGS_REFUSED = true)) ∧
    (∀ who (v : Option Word), s.regReach who = false → Completes s (.coefDataAccess who v) fun t =>
      (t.port64 who).resp = .denied ∧ Only [.ports64] s t)

/-- R38, R39, R102, R334, R335, R336: a tick is declared ready once, in order, with its descriptor; otherwise nothing happens. What of it is the
model's own reading or choice: log entries 45, 124 and 141. -/
def Obligations.TicksAreDeclaredReadyInOrder : Prop :=
  ∀ (s : State) (n : Fin 1024) (tick : Word) (k : Nat), s.sys.power = .run → k = s.tickIdx tick.toNat →
    (s.mayReady n.val k = false → Completes s (.tickReady n tick) fun t => t = s) ∧
    (s.tenSt n.val = .empty → Completes s (.tickReady n tick) fun t => t = s) ∧
    (s.mayReady n.val k = true → s.tenSt n.val ≠ .empty → (∀ p ∈ s.pubsOf n.val, (s.pb p).held = none) →
      Completes s (.tickReady n tick) fun t =>
        (t.readyRec n.val).map (·.tick) = some k ∧
        (t.tenant n.val).latest = s.descriptor (s.streamsFor n.val k) k
          (((s.prevTick k).map (s.verdict (s.streamsFor n.val k))).getD 0) ∧
        (∀ q, q ≠ n.val → t.tenant q = s.tenant q ∧ t.readyRec q = s.readyRec q) ∧
        t.mayReady n.val k = false ∧
        RegsBut (fun a => a = CYC.DSTAT n.val ∨ a = CYC.STATUS ∨ a = (CYC.XCHG_XSTATE n.val).addr) s t ∧
        Only [.regs, .svc, .cyc, .pub] s t ∧
        (s.tenSt n.val = .active → s.getF (CYC.TCFG_TRIG n.val) = 0 → s.pairTenant n.val = false → (s.tenant n.val).tickAt = none →
          s.getF (CYC.XCHG_XSTATE n.val) = 0 →
          (t.tenant n.val).tickAt = some (s.tab.mono, (t.tenant n.val).latest) ∧ t.regs = s.regs))

/-- R388, R389, R391, R410, R411, R420, R421: the commands and events that move a tenant between its states. What of it is the
model's own reading or choice: log entries 51, 52, 53 and 139. -/
def Obligations.TenantCommandsFollowTheStateTable : Prop :=
  ∀ (s : State) (n : Fin 1024) (c : Fin 64), s.awake = true →
    (s.tenSt n.val = .stopped → Completes s (.tcmdStart n) fun t => t.tenSt n.val = .active ∧
      (t.tenant n.val).initDue = true ∧ (t.tenant n.val).fresh = true ∧ t.getF (CYC.TFAULT_RSTCNT n.val) = 0 ∧
      t.rd CYC.TRES = 0 ∧ OtherTenants n.val s t ∧
      RegsBut (fun a => a = CYC.TSTATE n.val ∨ a = CYC.TFAULT n.val ∨ a = CYC.TRES) s t ∧ Only [.regs, .cyc] s t) ∧
    (s.tenSt n.val ≠ .stopped → Completes s (.tcmdStart n) fun t =>
      t.getF CYC.TRES_CODE = 1 ∧ RegsBut (fun a => a = CYC.TRES) s t ∧ Only [.regs] s t) ∧
    (s.tenSt n.val = .active → (s.core (s.coreOf n.val)).run = some n.val → Completes s (.tcmdStop n) fun t =>
      t.tenSt n.val = .active ∧ (t.tenant n.val).stopReq = true ∧ (t.tenant n.val).disp = (s.tenant n.val).disp ∧
      t.rd CYC.TRES = 0 ∧ OtherTenants n.val s t ∧ RegsBut (fun a => a = CYC.TRES) s t ∧ Only [.regs, .cyc] s t) ∧
    (s.tenSt n.val = .active → (s.core (s.coreOf n.val)).run ≠ some n.val → Completes s (.tcmdStop n) fun t =>
      t.tenSt n.val = .stopped ∧ (t.tenant n.val).disp = none ∧ (t.tenant n.val).tickAt = none ∧ (t.tenant n.val).initDue = false ∧
      (t.tenant n.val).eventAt = none ∧ t.rd CYC.TRES = 0 ∧ OtherTenants n.val s t) ∧
    (s.tenSt n.val ≠ .active → Completes s (.tcmdStop n) fun t =>
      t.getF CYC.TRES_CODE = 1 ∧ RegsBut (fun a => a = CYC.TRES) s t ∧ Only [.regs] s t) ∧
    (∀ again : Bool, s.tenSt n.val = .active ∨ s.tenSt n.val = .stopped ∨ s.tenSt n.val = .faulted →
      Completes s (.tcmdReset n again) fun t => t.tenSt n.val = .resetting ∧ (t.tenant n.val).restart = again ∧
        (t.tenant n.val).disp = none ∧ t.rd CYC.TRES = 0 ∧ ((s.tenant n.val).held = [] → OtherTenants n.val s t)) ∧
    (∀ again : Bool, s.tenSt n.val = .empty ∨ s.tenSt n.val = .moving ∨ s.tenSt n.val = .resetting →
      Completes s (.tcmdReset n again) fun t =>
        t.getF CYC.TRES_CODE = 1 ∧ RegsBut (fun a => a = CYC.TRES) s t ∧ Only [.regs] s t) ∧
    (s.tenSt n.val = .resetting → Completes s (.tnrComplete n) fun t =>
      t.tenSt n.val = (if (s.tenant n.val).restart then .active else .stopped) ∧
      (t.tenant n.val).initDue = ((s.tenant n.val).restart || (s.tenant n.val).initDue) ∧
      (t.tenant n.val).evq = [] ∧ (t.tenant n.val).osq = [] ∧ (t.tenant n.val).gap = false ∧ OtherTenants n.val s t ∧
      Only [.regs, .mem, .cyc, .mc, .free] s t ∧ (s.getF (CYC.XCHG_XSTATE n.val) ≠ 2 → t.free = s.free)) ∧
    (s.tenSt n.val ≠ .resetting → Completes s (.tnrComplete n) fun t => t = s) ∧
    (s.tenSt n.val = .active ∨ s.tenSt n.val = .stopped →
      (32 ≤ s.tenantsOn c.val → Completes s (.tcmdMove n c) fun t =>
        t.getF CYC.TRES_CODE = 2 ∧ RegsBut (fun a => a = CYC.TRES) s t ∧ Only [.regs] s t) ∧
      (s.tenantsOn c.val < 32 → s.scratchClash n.val c.val = true → Completes s (.tcmdMove n c) fun t =>
        t.getF CYC.TRES_CODE = 3 ∧ RegsBut (fun a => a = CYC.TRES) s t ∧ Only [.regs] s t) ∧
      (s.tenantsOn c.val < 32 → s.scratchClash n.val c.val = false → Completes s (.tcmdMove n c) fun t =>
        t.tenSt n.val = .moving ∧ (t.tenant n.val).move = some (c.val, (s.tenSt n.val).num) ∧ t.rd CYC.TRES = 0 ∧
        (s.getF (CYC.XCHG_XSTATE n.val) = 1 → t.getF (CYC.XCHG_XSTATE n.val) = 0 ∧ t.getF (CYC.XCHG_CODE n.val) = 4 ∧
          t.flag CYC.STATUS_XCHG_ERR = true) ∧ OtherTenants n.val s t ∧
        RegsBut (fun a => a = CYC.TSTATE n.val ∨ a = CYC.TRES ∨
          s.getF (CYC.XCHG_XSTATE n.val) = 1 ∧ (a = CYC.XCHG n.val ∨ a = CYC.STATUS)) s t ∧ Only [.regs, .cyc] s t)) ∧
    (s.tenSt n.val ≠ .active → s.tenSt n.val ≠ .stopped → Completes s (.tcmdMove n c) fun t =>
      t.getF CYC.TRES_CODE = 1 ∧ RegsBut (fun a => a = CYC.TRES) s t ∧ Only [.regs] s t) ∧
    (∀ old, s.tenSt n.val = .moving → (s.tenant n.val).move = some (c.val, old) → 1 ≤ old → old ≤ 4 →
      (s.core (s.coreOf n.val)).run ≠ some n.val → Completes s (.moveComplete n) fun t =>
        t.coreOf n.val = c.val ∧ (t.tenant n.val).move = none ∧
        t.tenSt n.val = (match old with
          | 1 => .stopped
          | 3 => .faulted
          | 4 => .resetting
          | _ => if (s.tenant n.val).stopReq then .stopped else .active) ∧ OtherTenants n.val s t ∧
        (old ≤ 2 → (s.tenant n.val).stopReq = false → s.getF (CYC.XCHG_XSTATE n.val) ≠ 2 →
          Only [.regs, .mem, .cyc, .mc] s t ∧
          (s.winsOf n.val .scratch = [] → (∀ x ∈ (s.core (s.coreOf n.val)).dl, x.burgee = n.val → x.dirty = false) →
            t.mem = s.mem ∧ RegsBut (fun a => a = CYC.TBIND n.val ∨ a = CYC.TSTATE n.val) s t))) ∧
    (s.tenSt n.val ≠ .moving ∨ (s.core (s.coreOf n.val)).run = some n.val → Completes s (.moveComplete n) fun t => t = s) ∧
    (Completes s (.tcmdFclear n) fun t => t.getF (CYC.TFAULT_FIRST n.val) = 0 ∧ t.getF (CYC.TFAULT_LAST n.val) = 0 ∧
      t.getF (CYC.TFAULT_COUNT n.val) = 0 ∧ t.getF (CYC.TFAULT_RSTCNT n.val) = s.getF (CYC.TFAULT_RSTCNT n.val) ∧
      t.rd (CYC.TFPC n.val) = 0 ∧ t.rd (CYC.TFADDR n.val) = 0 ∧ t.rd (CYC.TFTICK n.val) = 0 ∧ t.rd CYC.TRES = 0 ∧
      RegsBut (fun a => a = CYC.TFAULT n.val ∨ a = CYC.TFPC n.val ∨ a = CYC.TFADDR n.val ∨ a = CYC.TFTICK n.val ∨
        a = CYC.TRES) s t ∧ Only [.regs] s t) ∧
    (∀ u : State, u = s.setF (CYC.TBIND_CORE n.val) c.val → s.tenSt n.val = .empty →
      (u.tenantsOn c.val < 32 → s.winsOf n.val .code ≠ [] → u.scratchClash n.val c.val = false →
        Completes s (.tenantBind n c) fun t =>
        t.tenSt n.val = .stopped ∧ t.flag (CYC.TBIND_VALID n.val) = true ∧ t.coreOf n.val = c.val ∧
        RegsBut (fun a => a = CYC.TBIND n.val ∨ a = CYC.TSTATE n.val ∨ a = CYC.STATUS) s t ∧ Only [.regs, .cyc] s t) ∧
      (32 ≤ u.tenantsOn c.val ∨ s.winsOf n.val .code = [] ∨ u.scratchClash n.val c.val = true →
        Completes s (.tenantBind n c) fun t =>
        t.tenSt n.val = .empty ∧ t.flag (CYC.TBIND_VALID n.val) = s.flag (CYC.TBIND_VALID n.val) ∧
        RegsBut (fun a => a = CYC.TBIND n.val ∨ a = CYC.STATUS) s t ∧ Only [.regs, .cyc] s t)) ∧
    (s.tenSt n.val = .stopped ∨ s.tenSt n.val = .faulted → Completes s (.tenantUnbind n c) fun t =>
      t.tenSt n.val = .empty ∧ t.flag (CYC.TBIND_VALID n.val) = false ∧ (∀ w, w < 16 → t.win n.val w = none) ∧
      OtherTenants n.val s t ∧ (s.getF (CYC.XCHG_XSTATE n.val) ≠ 2 → Only [.regs, .cyc] s t)) ∧
    (s.tenSt n.val = .active ∨ s.tenSt n.val = .moving ∨ s.tenSt n.val = .resetting → Completes s (.tenantUnbind n c) fun t =>
      t.tenSt n.val = s.tenSt n.val ∧ RegsBut (fun a => a = CYC.STATUS) s t ∧ Only [.regs, .cyc] s t)

/-- R394, R397, R398, R399, R400, R401, R404, R405, R408, R417, R425: windows, event and supervisory queues, and configuration
writes that are refused while in use. What of it is the model's own reading or choice: log entries 54 and 56. -/
def Obligations.WindowsQueuesAndGuardedConfiguration : Prop :=
  ∀ (s : State) (n : Fin 1024) (w : Fin 16), s.awake = true →
    (Completes s (.winRead n w) fun t =>
      t.rd CYC.WIN_D0 = s.rd (CYC.WIN_W0 n.val w.val) ∧ t.rd CYC.WIN_D1 = s.rd (CYC.WIN_W1 n.val w.val) ∧
      t.rd CYC.WIN_D2 = s.rd (CYC.WIN_W2 n.val w.val) ∧ t.rd CYC.WIN_D3 = s.rd (CYC.WIN_W3 n.val w.val) ∧
      t.rd CYC.WIN_RES = 0 ∧ RegsBut (fun a => a = CYC.WIN_D0 ∨ a = CYC.WIN_D1 ∨ a = CYC.WIN_D2 ∨ a = CYC.WIN_D3 ∨
        a = CYC.WIN_RES) s t ∧ Only [.regs] s t) ∧
    (∀ x : Win, winOf (s.rd CYC.WIN_D0) (s.rd CYC.WIN_D1) (s.rd CYC.WIN_D2) (s.rd CYC.WIN_D3) = some x →
      (∀ i o, i < 16 → i ≠ w.val → s.win n.val i = some o → x.lo ≤ o.hi → o.lo ≤ x.hi → Completes s (.winWrite n w) fun t =>
        t.getF CYC.WIN_RES_CODE = 1 ∧ RegsBut (fun a => a = CYC.WIN_RES) s t ∧ Only [.regs] s t) ∧
      ((∀ i o, i < 16 → i ≠ w.val → s.win n.val i = some o → x.hi < o.lo ∨ o.hi < x.lo) →
        (x.targetOk = false → Completes s (.winWrite n w) fun t =>
          t.getF CYC.WIN_RES_CODE = 2 ∧ RegsBut (fun a => a = CYC.WIN_RES) s t ∧ Only [.regs] s t) ∧
        (∀ u o, x.targetOk = true → u ∈ s.validTenants → u ≠ n.val → o ∈ s.wins u → s.winClash n.val x u o = true →
          Completes s (.winWrite n w) fun t =>
            t.getF CYC.WIN_RES_CODE = 3 ∧ RegsBut (fun a => a = CYC.WIN_RES) s t ∧ Only [.regs] s t) ∧
        (x.targetOk = true → (∀ i o, i < 16 → i ≠ w.val → s.win n.val i = some o → codeClash x o = false) →
          (∀ u o, u ∈ s.validTenants → u ≠ n.val → o ∈ s.wins u → s.winClash n.val x u o = false) →
          (s.win n.val w.val = none ∨ s.tenSt n.val ≠ .active ∧ s.tenSt n.val ≠ .moving) → Completes s (.winWrite n w) fun t =>
            t.win n.val w.val = some x ∧ t.rd CYC.WIN_RES = 0 ∧
            RegsBut (fun a => a = CYC.WIN_RES ∨ a = CYC.WIN_W0 n.val w.val ∨ a = CYC.WIN_W1 n.val w.val ∨
              a = CYC.WIN_W2 n.val w.val ∨ a = CYC.WIN_W3 n.val w.val) s t ∧ Only [.regs] s t))) ∧
    (winOf (s.rd CYC.WIN_D0) (s.rd CYC.WIN_D1) (s.rd CYC.WIN_D2) (s.rd CYC.WIN_D3) = none →
      ((s.win n.val w.val).isSome = true → s.tenSt n.val = .active ∨ s.tenSt n.val = .moving → Completes s (.winWrite n w) fun t =>
        t.getF CYC.WIN_RES_CODE = 4 ∧ RegsBut (fun a => a = CYC.WIN_RES) s t ∧ Only [.regs] s t) ∧
      (s.tenSt n.val = .stopped → Completes s (.winWrite n w) fun t =>
        t.win n.val w.val = none ∧ t.rd CYC.WIN_RES = 0 ∧ (∀ i, i ≠ w.val → i < 16 → t.win n.val i = s.win n.val i))) ∧
    (∀ who d0 d1 d2 r, s.regReach who = true → s.postRegs who = (d0, d1, d2, r) →
      (s.tenSt n.val = .empty ∨ s.tenSt n.val = .resetting → Completes s (.eventPost who n) fun t =>
        t.postRegs who = (d0, d1, d2, 2) ∧ t.cyc.tenants = s.cyc.tenants ∧ (t.port64 who).hold = none ∧
        Only [.cyc, .ports64] s t) ∧
      (s.tenSt n.val ≠ .empty → s.tenSt n.val ≠ .resetting → (s.tenant n.val).evq.length < 64 →
        Completes s (.eventPost who n) fun t =>
        (∃ e : EvEntry, (t.tenant n.val).evq = (s.tenant n.val).evq ++ [e] ∧ bits e.w0 31 29 = 3 ∧ bits e.w0 15 0 = d0 % 65536 ∧
          bit e.w0 28 = (s.tenant n.val).gap ∧ e.w1 = d1 ∧ e.w2 = timestampWord s.tab.ns ∧ e.w3 = d2) ∧
        (t.tenant n.val).gap = false ∧ t.postRegs who = (d0, d1, d2, 0) ∧ OtherTenants n.val s t ∧
        (t.port64 who).hold = none ∧ Only [.cyc, .ports64] s t) ∧
      (s.tenSt n.val ≠ .empty → s.tenSt n.val ≠ .resetting → 64 ≤ (s.tenant n.val).evq.length →
        Completes s (.eventPost who n) fun t =>
        (t.tenant n.val).evq = (s.tenant n.val).evq ∧ (t.tenant n.val).gap = true ∧ t.postRegs who = (d0, d1, d2, 1) ∧
        t.getF (CYC.TEVQ_CNT_LOST n.val) = min (s.getF (CYC.TEVQ_CNT_LOST n.val) + 1) 65535 ∧
        t.flag CYC.STATUS_EVQ_OVF = true ∧ OtherTenants n.val s t ∧
        (t.port64 who).hold = none ∧
        RegsBut (fun a => a = CYC.TEVQ_CNT n.val ∨ a = CYC.STATUS) s t ∧ Only [.regs, .cyc, .ports64] s t)) ∧
    (∀ who, s.regReach who = true →
      (∀ e es, (s.tenant n.val).osq = e :: es → Completes s (.osqPop who n) fun t => (t.tenant n.val).osq = es ∧
        (t.port64 who).resp = .data e.tick ∧ OtherTenants n.val s t ∧ Only [.cyc, .ports64] s t) ∧
      ((s.tenant n.val).osq = [] → Completes s (.osqPop who n) fun t =>
        (t.port64 who).resp = .data 0 ∧ Only [.ports64] s t)) ∧
    (∀ (g : Fin 4096) (v : Word), s.flag (CYC.GSTATE_HELD g.val) = true → Completes s (.guardCfgWrite (.cfg g v)) fun t =>
      t = s.raise CYC.STATUS_TREFUSED) ∧
    (∀ (g : Fin 4096) (v : Word) (u : State), u = s.plainWrite (CYC.GBASE g.val) v.toNat →
      (u.guardsApart g.val = false → Completes s (.guardCfgWrite (.base g v)) fun t => t = s.raise CYC.STATUS_TREFUSED) ∧
      (s.flag (CYC.GSTATE_HELD g.val) = false → s.waiters g.val = [] → u.guardsApart g.val = true →
        (u.guardRegion g.val).2 ≤ 0x1006000000 → Completes s (.guardCfgWrite (.base g v)) fun t => t = u)) ∧
    (∀ (k : Fin 8192) (v : Word) (u : Nat), u ∈ s.validTenants → s.tenSt u = .active → inSubRange (s.subEff u) k.val = true →
      Completes s (.sublWrite k v) fun t => t = s.raise CYC.STATUS_TREFUSED) ∧
    (∀ (k : Fin 8192) (v : Word), (∀ u ∈ s.validTenants, s.tenSt u ≠ .active ∧ s.tenSt u ≠ .moving) →
      Completes s (.sublWrite k v) fun t => t = s.plainWrite (CYC.SUBL k.val) v.toNat) ∧
    (∀ v : Word, Completes s (.tenantSubWrite n v) fun t =>
      t = s.plainWrite (CYC.TSUB n.val) v.toNat ∧ t.tenantStreams = s.tenantStreams) ∧
    (∀ v : Word, s.tenSt n.val = .active ∨ s.tenSt n.val = .moving →
      Completes s (.tenantCfgWrite (.groupsLo n v)) fun t => t = s.raise CYC.STATUS_TREFUSED) ∧
    (∀ v : Word, s.tenSt n.val = .stopped →
      Completes s (.tenantCfgWrite (.cfg n v)) fun t => t = s.plainWrite (CYC.TCFG n.val) v.toNat)

/-- R58, R409, R416, R428, R432, R433, R434, R446, R448, R449, R450: selection of dispatches, faults of the executive, and the
cluster watchdog. What of it is the model's own reading or choice: log entries 57, 62 and 119. -/
def Obligations.DispatchesAreSelectedAndWatched : Prop :=
  ∀ (s : State) (c : Fin 64),
    (∀ x, bestCand (s.cands c.val) = some x → x ∈ s.cands c.val ∧ ∀ y ∈ s.cands c.val, y.before x = false) ∧
    (s.sys.power = .run →
      (s.flag CYC.CTL_EN = false ∨ s.cyc.wdHalt = true ∨ s.halted c.val = true → ∀ err,
        Completes s (.dispatchSelect c err) fun t => t.cyc = s.cyc ∧ t.mem = s.mem ∧
          ((∀ u ∈ s.boundTo c.val, (s.tenRde u).target = none) → t = s)) ∧
      (∀ x, s.flag CYC.CTL_EN = true → s.cyc.wdHalt = false → s.halted c.val = false → bestCand (s.cands c.val) = some x →
        (∀ err, x.resume = false → (s.core c.val).run = none → Completes s (.dispatchSelect c err) fun t =>
          (t.core c.val).run = some x.tenant ∧ (t.core c.val).stall = 0 ∧
          ∃ d, (t.tenant x.tenant).disp = some d ∧ d.kind = x.kind ∧ d.desc = x.desc ∧ d.left = s.budgetOf x.tenant x.kind ∧
            d.regs = { pc := BitVec.ofNat 64 (s.entryOf x.tenant x.kind / 4 * 4) } ∧ d.staged = [] ∧ d.preempted = false) ∧
        (x.resume = true → (s.core c.val).run = none → Completes s (.dispatchSelect c false) fun t =>
          (t.core c.val).run = some x.tenant ∧
          (t.tenant x.tenant).disp.map (·.regs) = (s.tenant x.tenant).disp.map (·.regs) ∧
          (t.tenant x.tenant).disp.map (·.left) = (s.tenant x.tenant).disp.map (·.left)) ∧
        (x.resume = true → (s.core c.val).run = none → Completes s (.dispatchSelect c true) fun t =>
          TenantFaulted s x.tenant 0x19 t ∧ (t.core c.val).run = none) ∧
        (∀ r d, (s.core c.val).run = some r → (s.tenant r).disp = some d → x.cls < s.classOf r → (s.tenant r).held = [] →
          x.tenant ≠ r → Completes s (.dispatchSelect c false) fun t =>
            (t.core c.val).run = some x.tenant ∧ (t.tenant r).disp = some { d with preempted := true, wait := none }) ∧
        (∀ r, (s.core c.val).run = some r → s.classOf r ≤ x.cls ∨ (s.tenant r).held ≠ [] →
          ∀ err, Completes s (.dispatchSelect c err) fun t => (t.core c.val).run = some r ∧
            (∀ u, (t.tenant u).disp = (s.tenant u).disp ∧ t.tenSt u = s.tenSt u) ∧ (∀ k, k ≠ c.val → t.core k = s.core k))) ∧
      (∀ n, n < 1024 → (s.core c.val).run = some n → s.coreOf n = c.val → s.halted c.val = false → s.cyc.wdHalt = false →
        Completes s (.budgetExhausted c) fun t => TenantFaulted s n 0x08 t ∧ (t.core c.val).run = none) ∧
      ((s.core c.val).run = none → Completes s (.budgetExhausted c) fun t => t = s)) ∧
    (s.awake = true →
      (∀ g : Fin 4096, s.flag (CYC.GSTATE_HELD g.val) = true → s.cyc.wdHalt = false →
        s.halted (s.coreOf (s.getF (CYC.GSTATE_HOLDER g.val))) = false → Completes s (.guardHoldExpire g) fun t =>
          TenantFaulted s (s.getF (CYC.GSTATE_HOLDER g.val)) 0x12 t) ∧
      (∀ g : Fin 4096, s.flag (CYC.GSTATE_HELD g.val) = false → Completes s (.guardHoldExpire g) fun t => t = s) ∧
      (∀ en : Bool, Completes s (.cycEnWrite en) fun t => t.flag CYC.CTL_EN = en ∧
        t.flag CYC.CTL_CWD_EN = s.flag CYC.CTL_CWD_EN ∧ RegsBut (fun a => a = CYC.CTL) s t ∧ Only [.regs] s t) ∧
      (s.flag CYC.CTL_CWD_EN = false → Completes s .cwdStart fun t => t.flag CYC.CTL_CWD_EN = true ∧ t.cyc.kick = .idle ∧
        (s.wdFrozen = false → t.cyc.kickSince = some s.tab.mono ∧
          t.cyc.kickLeft = s.getF CYC.CWD_CFG_KICKTO * 100 * usUnit) ∧ RegsBut (fun a => a = CYC.CTL) s t ∧ Only [.regs, .cyc] s t) ∧
      (s.flag CYC.CTL_CWD_EN = true → Completes s .cwdStart fun t => t = s) ∧
      (s.flag CYC.CTL_CWD_EN = true → s.cyc.wdHalt = false →
        (∀ v : Word, s.cyc.kick = .idle → v.toNat % 65536 = 0x5A5A → Completes s (.cwdKick v) fun t =>
          t.cyc.kick = .first ∧ t.cyc.wdHalt = false ∧ Only [.cyc] s t) ∧
        (∀ v : Word, s.cyc.kick = .first → v.toNat % 65536 = 0xA5A5 → s.wdFrozen = false → Completes s (.cwdKick v) fun t =>
          t.cyc.kick = .idle ∧ t.cyc.wdHalt = false ∧ t.cyc.kickSince = some s.tab.mono ∧
          t.cyc.kickLeft = s.getF CYC.CWD_CFG_KICKTO * 100 * usUnit ∧ Only [.cyc] s t) ∧
        (∀ v : Word, (s.cyc.kick = .idle ∧ v.toNat % 65536 ≠ 0x5A5A ∨ s.cyc.kick = .first ∧ v.toNat % 65536 ≠ 0xA5A5) →
          Completes s (.cwdKick v) fun t =>
            t.cyc.wdHalt = true ∧ t.flag CYC.STATUS_CWD = true ∧ t.cyc.tenants = s.cyc.tenants) ∧
        (s.wdFrozen = false → Completes s .cwdKickExpire fun t => t.cyc.wdHalt = true ∧ t.flag CYC.STATUS_CWD = true) ∧
        (s.wdFrozen = true → Completes s .cwdKickExpire fun t => t = s) ∧
        (s.hasPending c.val = true → s.wdFrozen = false → s.getF CYC.CWD_CFG_TICKTO ≤ (s.core c.val).stall →
          Completes s (.cwdStall c) fun t => t.cyc.wdHalt = true ∧ t.flag (CYC.CSTATUS_CWD_STALL c.val) = true ∧
            t.flag CYC.STATUS_CWD = true) ∧
        (s.hasPending c.val = false → Completes s (.cwdStall c) fun t => t = s)))

/-- R452, R455, R456, R460, R461, R463, R469, R525: the force table, the exchange of images, and phasor coefficients. What of it is
the model's own reading or choice: log entries 60, 61 and 139. -/
def Obligations.ForcesExchangesAndPhasorCoefficients : Prop :=
  ∀ (s : State) (i : Fin 65536) (n : Fin 1024),
    (s.awake = true →
      (∀ f, s.forceAt i.val = some f → f.point < 2 ^ 32 → f.value < 2 ^ 32 → f.qv < 4 → Completes s (.frcRead i) fun t =>
        t.rd CYC.FRC_D0 = f.point ∧ t.rd CYC.FRC_D1 = f.value ∧ t.getF CYC.FRC_D2_QV = f.qv ∧
        t.flag CYC.FRC_D2_VALID = true ∧ t.flag CYC.FRC_D2_ORPHAN = f.orphan ∧ t.getF CYC.FRC_RES_CODE = 0 ∧
        t.getF CYC.FRC_CMD_OP = 1 ∧ t.getF CYC.FRC_CMD_INDEX = i.val ∧ Only [.regs] s t) ∧
      (∀ p v q, s.forceAt i.val = none → s.idleAt i.val = (p, v, q) → p < 2 ^ 32 → v < 2 ^ 32 → q < 4 →
        Completes s (.frcRead i) fun t => t.rd CYC.FRC_D0 = p ∧ t.rd CYC.FRC_D1 = v ∧ t.getF CYC.FRC_D2_QV = q ∧
          t.flag CYC.FRC_D2_VALID = false ∧ t.getF CYC.FRC_RES_CODE = 0 ∧ RegsBut (fun a => a = CYC.FRC_D0 ∨
            a = CYC.FRC_D1 ∨ a = CYC.FRC_D2 ∨ a = CYC.FRC_RES ∨ a = CYC.FRC_CMD) s t ∧ Only [.regs] s t) ∧
      (s.flag CYC.FRC_D2_VALID = true → pointOk (s.rd CYC.FRC_D0) = true →
        (s.forceFind (s.rd CYC.FRC_D0) = none ∨ s.forceFind (s.rd CYC.FRC_D0) = some i.val) → Completes s (.frcWrite i) fun t =>
          (∃ f, t.forceAt i.val = some f ∧ f.point = s.rd CYC.FRC_D0 ∧ f.value = s.rd CYC.FRC_D1 ∧ f.qv = s.getF CYC.FRC_D2_QV) ∧
          (∀ j, j ≠ i.val → (t.forceAt j).map (·.point) = (s.forceAt j).map (·.point)) ∧ t.cyc.inForce = s.cyc.inForce ∧
          t.getF CYC.FRC_RES_CODE = 0 ∧ t.getF CYC.FRC_CMD_OP = 2 ∧ t.cyc.forceLit = true ∧
          RegsBut (fun a => a = CYC.FRC_RES ∨ a = CYC.FRC_CMD ∨ a = CYC.STATUS) s t ∧ Only [.regs, .cyc] s t) ∧
      (s.flag CYC.FRC_D2_VALID = false → pointOk (s.rd CYC.FRC_D0) = true → Completes s (.frcWrite i) fun t =>
        t.forceAt i.val = none ∧ t.idleAt i.val = (s.rd CYC.FRC_D0, s.rd CYC.FRC_D1, s.getF CYC.FRC_D2_QV) ∧
        (∀ j, j ≠ i.val → (t.forceAt j).map (·.point) = (s.forceAt j).map (·.point)) ∧ t.cyc.inForce = s.cyc.inForce ∧
        t.getF CYC.FRC_RES_CODE = 0 ∧ RegsBut (fun a => a = CYC.FRC_RES ∨ a = CYC.FRC_CMD ∨ a = CYC.STATUS) s t ∧
        Only [.regs, .cyc] s t) ∧
      (∀ j, s.flag CYC.FRC_D2_VALID = true → pointOk (s.rd CYC.FRC_D0) = true → s.forceFind (s.rd CYC.FRC_D0) = some j →
        j ≠ i.val → Completes s (.frcWrite i) fun t => t.getF CYC.FRC_RES_CODE = 2 ∧
          RegsBut (fun a => a = CYC.FRC_RES ∨ a = CYC.FRC_CMD) s t ∧ Only [.regs] s t) ∧
      (pointOk (s.rd CYC.FRC_D0) = false → Completes s (.frcWrite i) fun t =>
        t.getF CYC.FRC_RES_CODE = 3 ∧ RegsBut (fun a => a = CYC.FRC_RES ∨ a = CYC.FRC_CMD) s t ∧ Only [.regs] s t) ∧
      (pointOk (s.rd CYC.FRC_D0) = false → Completes s .frcFind fun t =>
        t.getF CYC.FRC_RES_CODE = 3 ∧ RegsBut (fun a => a = CYC.FRC_RES ∨ a = CYC.FRC_CMD) s t ∧ Only [.regs] s t) ∧
      (Completes s (.frcDelete i) fun t => t.forceAt i.val = none ∧ (∀ j, j ≠ i.val → t.forceAt j = s.forceAt j) ∧
        t.idleAt i.val = (0, 0, 0) ∧ t.cyc.inForce = s.cyc.inForce ∧ t.getF CYC.FRC_RES_CODE = 0 ∧
        RegsBut (fun a => a = CYC.FRC_RES ∨ a = CYC.FRC_CMD) s t ∧ Only [.regs, .cyc] s t) ∧
      (∀ j, j < 65536 → pointOk (s.rd CYC.FRC_D0) = true → s.forceFind (s.rd CYC.FRC_D0) = some j →
        Completes s .frcFind fun t => t.getF CYC.FRC_RES_INDEX = j ∧ t.getF CYC.FRC_RES_CODE = 0 ∧
          RegsBut (fun a => a = CYC.FRC_RES ∨ a = CYC.FRC_CMD) s t ∧ Only [.regs] s t) ∧
      (pointOk (s.rd CYC.FRC_D0) = true → s.forceFind (s.rd CYC.FRC_D0) = none → Completes s .frcFind fun t =>
        t.getF CYC.FRC_RES_CODE = 1 ∧ RegsBut (fun a => a = CYC.FRC_RES ∨ a = CYC.FRC_CMD) s t ∧ Only [.regs] s t) ∧
      (Completes s .frcClearall fun t => (∀ j, t.forceAt j = none ∧ t.idleAt j = (0, 0, 0)) ∧
        t.cyc.inForce = s.cyc.inForce ∧ RegsBut (fun a => a = CYC.FRC_RES ∨ a = CYC.FRC_CMD) s t ∧ Only [.regs, .cyc] s t) ∧
      (s.getF (CYC.XCHG_XSTATE n.val) = 0 →
        (s.tenSt n.val = .active → s.xchgCheck n.val = 0 → Completes s (.xchgArm n) fun t =>
          t.getF (CYC.XCHG_XSTATE n.val) = 1 ∧ t.getF (CYC.XCHG_CODE n.val) = 0 ∧ t.activeSlot n.val = s.activeSlot n.val ∧
          (t.tenant n.val).xtarget = (if s.rd (CYC.XTICK n.val) = 0 then tickAdd s.tickNow 1 else s.rd (CYC.XTICK n.val)) ∧
          OtherTenants n.val s t ∧ RegsBut (fun a => a = CYC.XCHG n.val) s t ∧ Only [.regs, .cyc] s t) ∧
        (s.tenSt n.val = .active ∨ s.tenSt n.val = .stopped → s.xchgCheck n.val ≠ 0 → Completes s (.xchgArm n) fun t =>
          t.getF (CYC.XCHG_CODE n.val) = s.xchgCheck n.val ∧ t.getF (CYC.XCHG_XSTATE n.val) = 0 ∧
          t.flag CYC.STATUS_XCHG_ERR = true ∧ RegsBut (fun a => a = CYC.XCHG n.val ∨ a = CYC.STATUS) s t ∧ Only [.regs] s t) ∧
        (s.tenSt n.val = .stopped → s.xchgCheck n.val = 0 → Completes s (.xchgArm n) fun t =>
          t.activeSlot n.val = 1 - s.activeSlot n.val ∧ t.getF (CYC.XCHG_XSTATE n.val) = 0 ∧
          t.flag CYC.STATUS_XCHG_DONE = true ∧ (t.tenant n.val).fresh = true ∧ OtherTenants n.val s t) ∧
        (s.tenSt n.val ≠ .active → s.tenSt n.val ≠ .stopped → Completes s (.xchgArm n) fun t =>
          t.getF (CYC.XCHG_CODE n.val) = 1 ∧ t.flag CYC.STATUS_XCHG_ERR = true ∧
          RegsBut (fun a => a = CYC.XCHG n.val ∨ a = CYC.STATUS) s t ∧ Only [.regs] s t)) ∧
      (s.getF (CYC.XCHG_XSTATE n.val) ≠ 0 → Completes s (.xchgArm n) fun t => t = s) ∧
      (s.getF (CYC.XCHG_XSTATE n.val) = 1 → Completes s (.xchgDisarm n) fun t => t.getF (CYC.XCHG_XSTATE n.val) = 0 ∧
        t.getF (CYC.XCHG_CODE n.val) = 4 ∧ t.activeSlot n.val = s.activeSlot n.val ∧ t.flag CYC.STATUS_XCHG_ERR = true ∧
        RegsBut (fun a => a = CYC.XCHG n.val ∨ a = CYC.STATUS) s t ∧ Only [.regs] s t) ∧
      (s.getF (CYC.XCHG_XSTATE n.val) ≠ 1 → Completes s (.xchgDisarm n) fun t => t = s) ∧
      (∀ v : Word, s.flag (CYC.PHX_CFG_LOCK (s.getF CYC.PHX_ADDR_SET)) = false → Completes s (.phxCoefWrite v) fun t =>
        t.phxAt (s.getF CYC.PHX_ADDR_SET) (s.getF CYC.PHX_ADDR_INDEX) = (s.rd CYC.PHX_DRE, v.toNat) ∧
        (∀ k j, ¬ (k = s.getF CYC.PHX_ADDR_SET ∧ j = s.getF CYC.PHX_ADDR_INDEX) → j < 512 → t.phxAt k j = s.phxAt k j) ∧
        t.getF CYC.PHX_ADDR_INDEX = (s.getF CYC.PHX_ADDR_INDEX + 1) % 512 ∧ RegsBut (fun a => a = CYC.PHX_ADDR) s t ∧
        Only [.regs, .cyc] s t) ∧
      (∀ v : Word, s.flag (CYC.PHX_CFG_LOCK (s.getF CYC.PHX_ADDR_SET)) = true → Completes s (.phxCoefWrite v) fun t =>
        t.cyc = s.cyc ∧ t.flag CYC.STATUS_TREFUSED = true ∧ t.getF CYC.PHX_ADDR_INDEX = (s.getF CYC.PHX_ADDR_INDEX + 1) % 512 ∧
        RegsBut (fun a => a = CYC.PHX_ADDR ∨ a = CYC.STATUS) s t ∧ Only [.regs] s t)) ∧
    (s.sys.power = .run →
      (s.xchgDue n.val = true ∨ s.getF (CYC.XCHG_XSTATE n.val) = 2 → Completes s (.xchgCarryOver n) fun t =>
        t.activeSlot n.val = 1 - s.activeSlot n.val ∧ t.getF (CYC.XCHG_XSTATE n.val) = 0 ∧ t.getF (CYC.XCHG_CODE n.val) = 0 ∧
        t.flag CYC.STATUS_XCHG_DONE = true ∧ (t.tenant n.val).fresh = true ∧ (t.tenant n.val).needLock = true ∧
        OtherTenants n.val s t) ∧
      (s.xchgDue n.val = false → s.getF (CYC.XCHG_XSTATE n.val) ≠ 2 → Completes s (.xchgCarryOver n) fun t => t = s))

/-- R445, R446, R450, R484, R485, R486, R487, R498, R508, R739, R768, R771: what stands before an instruction: a core that cannot take
it, a halt, a breakpoint, a spent budget, a late error, and the fetch; the guard of every word, and the words that no OP of the map
assigns. What of it is the model's own reading or choice: log entries 58, 63, 64 and 68. -/
def Obligations.WhatStandsBeforeAnInstruction : Prop :=
  (∀ (c : Fin 68) (w : BitVec 32), issueOf (coreWord c w) = some ⟨c, w.getLsbD 31, wordField w 28 3⟩) ∧
  (∀ (s : State) (c : Fin 68) (w : BitVec 32) (i : Issue), issueOf (coreWord c w) = some i →
    ((wordField w 22 6).val ∈ [0x00, 0x0E, 0x0F, 0x1B, 0x1C, 0x1D, 0x1E, 0x1F] → Undecoded s i (coreWord c w) 0x04) ∧
    (0x3C ≤ (wordField w 22 6).val → c.val < 64 → Undecoded s i (coreWord c w) 0x05) ∧
    (0x3E ≤ (wordField w 22 6).val → 64 ≤ c.val → Undecoded s i (coreWord c w) 0x04)) ∧
  ∀ (s : State) (c : Instr) (i : Issue) (n : Nat), issueOf c = some i → n = i.core.val →
    (s.awake = false ∨ (n < 64 ∧ s.sys.power ≠ .run) ∨ s.ready n = false → Completes s c fun t => t = s) ∧
    (s.awake = true → (n < 64 → s.sys.power = .run) → s.ready n = true →
      (s.haltDue n = true → Completes s c fun t =>
        t.halted n = true ∧ t.getF (DBG.NSTATE_CAUSE n) = 1 ∧ t.regsOf n = s.regsOf n ∧ t.mem = s.mem) ∧
      (s.haltDue n = false → s.halted n = true → s.dbg.step.contains n = false → Completes s c fun t => t = s) ∧
      (s.haltDue n = false → s.halted n = false → s.atBreakpoint n = true → Completes s c fun t =>
        t.halted n = true ∧ t.getF (DBG.NSTATE_CAUSE n) = 3 ∧ t.regsOf n = s.regsOf n ∧ t.mem = s.mem) ∧
      (s.haltDue n = false → s.halted n = false → s.atBreakpoint n = false →
        (s.spent n = true → s.runs n < 1024 → Completes s c fun t => TenantFaulted s (s.runs n) 0x08 t) ∧
        (∀ x a, s.spent n = false → n < 64 → s.runs n < 1024 → (s.tenant (s.runs n)).late = some (x, a) → x < 256 →
          Completes s c fun t => TenantFaulted s (s.runs n) x t ∧ (t.tenant (s.runs n)).late = none) ∧
        (∀ f x a, s.spent n = false → s.takeLate n = none → s.coreFetch n = .fault f x a → x < 0x30 ∨ 0x33 ≤ x → x < 256 →
          CoreFaults s i c f x a (causeVector x)) ∧
        (s.spent n = false → s.takeLate n = none → s.coreFetch n = .wait → Completes s c fun t => t = s)))

/-- R445, R446, R498: the fetch and the budget leave the program's registers, its memory and the other tenants alone, and a dispatch
keeps some budget until it is spent. What of it is the model's own reading or choice: log entry 58. -/
def Obligations.FetchAndBudgetLeaveTheProgramAlone : Prop :=
  ∀ (s : State) (i : Issue) (f : State) (n : Nat), Issues s i f → n = i.core.val →
    (f.burn n).regsOf n = s.regsOf n ∧ (f.burn n).mem = s.mem ∧ (f.burn n).runs n = s.runs n ∧
    Only [.regs, .mc, .cyc, .sup, .free] s (f.burn n) ∧ RegsBut (inSlot 10) s (f.burn n) ∧
    (n < 64 → OtherTenants (s.runs n) s (f.burn n) ∧ (f.burn n).sup = s.sup ∧
      ((f.burn n).tenant (s.runs n)).held = (s.tenant (s.runs n)).held ∧
      ((f.burn n).tenant (s.runs n)).evq = (s.tenant (s.runs n)).evq ∧
      ∀ d, (s.tenant (s.runs n)).disp = some d → ∃ e, ((f.burn n).tenant (s.runs n)).disp = some e ∧
        1 ≤ e.left ∧ e.left ≤ d.left ∧ e.regs = d.regs ∧ e.staged = d.staged ∧ e.ops = d.ops ∧ e.desc = d.desc) ∧
    (64 ≤ n → (f.burn n).cyc = s.cyc ∧ ∀ c, c ≠ n - 64 → (f.burn n).supc c = s.supc c)

/-- R485, R487, R488, R490, R491, R493: integer instructions write one general register and nothing else; what no table lists is
ILLEGAL. What of it is the model's own reading or choice: log entry 64. -/
def Obligations.IntegerInstructionsWriteTheirResults : Prop :=
  ∀ (s : State) (i : Issue) (rd ra rb : Fin 32) (fn : Fin 128) (imm : BitVec 12) (h : Fin 4) (k : BitVec 16),
    (∀ v : Regs → Nat, (∀ r : Regs, aluOp 64 fn.val (r.getG ra.val) (r.getG rb.val) rb.val = some (v r)) →
      RegisterOnly s i (.alu i rd ra rb fn) fun r => r.setG rd.val (v r)) ∧
    (aluOp 64 fn.val 0 0 rb.val = none → Undecoded s i (.alu i rd ra rb fn) 0x04) ∧
    (∀ v : Regs → BitVec 32, (∀ r : Regs, aluOp 32 fn.val (r.getG ra.val) (r.getG rb.val) rb.val = some (v r).toNat) →
      RegisterOnly s i (.aluw i rd ra rb fn) fun r => r.setG rd.val ((v r).signExtend 64).toNat) ∧
    (aluOp 32 fn.val 0 0 rb.val = none → Undecoded s i (.aluw i rd ra rb fn) 0x04) ∧
    (RegisterOnly s i (.addi i rd ra imm) fun r =>
      r.setG rd.val (BitVec.ofNat 64 (r.getG ra.val) + imm.signExtend 64).toNat) ∧
    (RegisterOnly s i (.addiw i rd ra imm) fun r =>
      r.setG rd.val ((BitVec.ofNat 32 (r.getG ra.val) + imm.signExtend 32).signExtend 64).toNat) ∧
    (RegisterOnly s i (.andi i rd ra imm) fun r =>
      r.setG rd.val (BitVec.ofNat 64 (r.getG ra.val) &&& imm.setWidth 64).toNat) ∧
    (RegisterOnly s i (.ori i rd ra imm) fun r =>
      r.setG rd.val (BitVec.ofNat 64 (r.getG ra.val) ||| imm.setWidth 64).toNat) ∧
    (RegisterOnly s i (.xori i rd ra imm) fun r =>
      r.setG rd.val (BitVec.ofNat 64 (r.getG ra.val) ^^^ imm.setWidth 64).toNat) ∧
    (∀ v : Regs → Nat, (∀ r : Regs, shiOp imm.toNat (r.getG ra.val) = some (v r)) →
      RegisterOnly s i (.shi i rd ra imm) fun r => r.setG rd.val (v r)) ∧
    (shiOp imm.toNat 0 = none → Undecoded s i (.shi i rd ra imm) 0x04) ∧
    (∀ v : Regs → Nat, (∀ r : Regs, mulDiv fn.val (r.getG ra.val) (r.getG rb.val) = some (v r)) →
      RegisterOnly s i (.muldiv i rd ra rb fn) fun r => r.setG rd.val (v r)) ∧
    (12 ≤ fn.val → Undecoded s i (.muldiv i rd ra rb fn) 0x04) ∧
    (fn.val < 16 → RegisterOnly s i (.sel i rd ra rb fn) fun r =>
      r.setG rd.val (if r.getP (fn.val % 8) = decide (fn.val < 8) then r.getG ra.val else r.getG rb.val)) ∧
    (16 ≤ fn.val → Undecoded s i (.sel i rd ra rb fn) 0x04) ∧
    (RegisterOnly s i (.lih i h rd false k) fun r => r.setG rd.val ((k.signExtend 64) <<< (16 * h.val)).toNat) ∧
    (RegisterOnly s i (.orh i h rd false k) fun r =>
      r.setG rd.val (BitVec.ofNat 64 (r.getG rd.val) ||| (k.setWidth 64) <<< (16 * h.val)).toNat) ∧
    Undecoded s i (.lih i h rd true k) 0x04 ∧ Undecoded s i (.orh i h rd true k) 0x04

/-- R473, R494, R495, R496: compares and predicate instructions write one predicate or register; register g0 reads as zero and
discards what is written, p0 reads as one and discards. -/
def Obligations.PredicatesAndConstantRegisters : Prop :=
  (∀ (r : Regs) (a b : Fin 32) (v : Nat), r.getG 0 = 0 ∧ r.setG 0 v = r ∧
    (r.setG a.val v).getG b.val = if b = a ∧ a.val ≠ 0 then v % 2 ^ 64 else r.getG b.val) ∧
  (∀ (r : Regs) (a b : Fin 8) (v : Bool), r.getP 0 = true ∧ r.setP 0 v = r ∧
    (r.setP a.val v).getP b.val = if b = a ∧ a.val ≠ 0 then v else r.getP b.val) ∧
  (∀ (r : Regs) (a b : Fin 16) (v : BitVec 128), (r.setV a.val v.toNat).getV b.val = if b = a then v.toNat else r.getV b.val) ∧
  ∀ (s : State) (i : Issue) (cm : Fin 4) (pd qa qb : Fin 8) (rd ra rb : Fin 32) (fn : Fin 128) (k : Fin 16) (imm : BitVec 8),
    (∀ (c : Regs → Bool) (m : Bool → Bool → Bool), (∀ r : Regs, cmpCond fn.val (r.getG ra.val) (r.getG rb.val) = some (c r)) →
      (∀ o w, combine cm.val o w = some (m o w)) →
      RegisterOnly s i (.cmp i cm pd ra rb fn) fun r => r.setP pd.val (m (r.getP pd.val) (c r))) ∧
    (cm.val = 3 ∨ cmpCond fn.val 0 0 = none → Undecoded s i (.cmp i cm pd ra rb fn) 0x04) ∧
    (∀ (c : Regs → Bool) (m : Bool → Bool → Bool), (∀ r : Regs, condOf k.val (r.getG ra.val) (imm.signExtend 64).toNat = some (c r)) →
      (∀ o w, combine cm.val o w = some (m o w)) →
      RegisterOnly s i (.cmpi i cm pd ra k imm) fun r => r.setP pd.val (m (r.getP pd.val) (c r))) ∧
    (cm.val = 3 ∨ 12 ≤ k.val → Undecoded s i (.cmpi i cm pd ra k imm) 0x04) ∧
    (RegisterOnly s i (.pred i ⟨pd.val, by omega⟩ ⟨qa.val, by omega⟩ ⟨qb.val, by omega⟩ 0) fun r =>
      r.setP pd.val (r.getP qa.val && r.getP qb.val)) ∧
    (RegisterOnly s i (.pred i ⟨pd.val, by omega⟩ ⟨qa.val, by omega⟩ ⟨qb.val, by omega⟩ 1) fun r =>
      r.setP pd.val (r.getP qa.val || r.getP qb.val)) ∧
    (RegisterOnly s i (.pred i ⟨pd.val, by omega⟩ ⟨qa.val, by omega⟩ ⟨qb.val, by omega⟩ 2) fun r =>
      r.setP pd.val (xor (r.getP qa.val) (r.getP qb.val))) ∧
    (RegisterOnly s i (.pred i ⟨pd.val, by omega⟩ ⟨qa.val, by omega⟩ ⟨qb.val, by omega⟩ 3) fun r =>
      r.setP pd.val (r.getP qa.val && !r.getP qb.val)) ∧
    (RegisterOnly s i (.pred i ⟨pd.val, by omega⟩ ⟨qa.val, by omega⟩ 0 4) fun r => r.setP pd.val (!r.getP qa.val)) ∧
    (RegisterOnly s i (.pred i rd ⟨qa.val, by omega⟩ 0 5) fun r => r.setG rd.val (if r.getP qa.val then 1 else 0)) ∧
    (RegisterOnly s i (.pred i ⟨pd.val, by omega⟩ ra 0 6) fun r => r.setP pd.val (decide (r.getG ra.val ≠ 0))) ∧
    (9 ≤ fn.val → Undecoded s i (.pred i rd ra rb fn) 0x04) ∧
    (fn.val < 4 → 8 ≤ rd.val ∨ 8 ≤ ra.val ∨ 8 ≤ rb.val → Undecoded s i (.pred i rd ra rb fn) 0x04) ∧
    (∀ f, Issues s i f → executes i (s.regsOf i.core.val) = true → Completes s (.pred i rd 0 0 7) fun t =>
      rd.val ≠ 0 → ∀ q : Fin 8, ((t.regsOf i.core.val).getG rd.val).testBit q.val = (s.regsOf i.core.val).getP q.val) ∧
    (∀ f, Issues s i f → executes i (s.regsOf i.core.val) = true → Completes s (.pred i 0 ra 0 8) fun t =>
      (∀ q : Fin 8, q.val ≠ 0 → (t.regsOf i.core.val).getP q.val = ((s.regsOf i.core.val).getG ra.val).testBit q.val) ∧
      (t.regsOf i.core.val).g = (s.regsOf i.core.val).g)

/-- R488, R489, R490, R491, R492, R503: the results of the integer tables, and what an atomic writes to memory, at both widths. -/
def Obligations.IntegerTablesComputeAsListed : Prop :=
  (∀ (w rb : Nat) (a b : BitVec w), w = 32 ∨ w = 64 →
    aluOp w 0x00 a.toNat b.toNat rb = some (a + b).toNat ∧
    aluOp w 0x01 a.toNat b.toNat rb = some (a - b).toNat ∧
    aluOp w 0x02 a.toNat b.toNat rb = some (a &&& b).toNat ∧
    aluOp w 0x03 a.toNat b.toNat rb = some (a ||| b).toNat ∧
    aluOp w 0x04 a.toNat b.toNat rb = some (a ^^^ b).toNat ∧
    aluOp w 0x05 a.toNat b.toNat rb = some (a &&& ~~~b).toNat ∧
    aluOp w 0x06 a.toNat b.toNat rb = some (a <<< (b.toNat % w)).toNat ∧
    aluOp w 0x07 a.toNat b.toNat rb = some (a >>> (b.toNat % w)).toNat ∧
    aluOp w 0x08 a.toNat b.toNat rb = some (a.sshiftRight (b.toNat % w)).toNat ∧
    aluOp w 0x09 a.toNat b.toNat rb = some (a.rotateRight (b.toNat % w)).toNat ∧
    aluOp w 0x0A a.toNat b.toNat rb = some (if a.sle b then a else b).toNat ∧
    aluOp w 0x0B a.toNat b.toNat rb = some (if a.sle b then b else a).toNat ∧
    aluOp w 0x0C a.toNat b.toNat rb = some (min a.toNat b.toNat) ∧
    aluOp w 0x0D a.toNat b.toNat rb = some (max a.toNat b.toNat) ∧
    aluOp w 0x0E a.toNat b.toNat rb = some (BitVec.ofInt w (max (-2 ^ (w - 1)) (min (2 ^ (w - 1) - 1) (a.toInt + b.toInt)))).toNat ∧
    aluOp w 0x0F a.toNat b.toNat rb = some (BitVec.ofInt w (max (-2 ^ (w - 1)) (min (2 ^ (w - 1) - 1) (a.toInt - b.toInt)))).toNat ∧
    (∃ z, aluOp w 0x10 a.toNat b.toNat 0 = some z ∧ (a = 0 → z = w) ∧
      (a ≠ 0 → z < w ∧ 2 ^ (w - 1 - z) ≤ a.toNat ∧ a.toNat < 2 ^ (w - z))) ∧
    (∃ z, aluOp w 0x11 a.toNat b.toNat 0 = some z ∧ (a = 0 → z = w) ∧ (a ≠ 0 → a.toNat % 2 ^ z = 0 ∧ a.toNat.testBit z = true)) ∧
    aluOp w 0x12 a.toNat b.toNat 0 = some ((List.range w).countP fun i => a.toNat.testBit i) ∧
    (∃ r, aluOp w 0x13 a.toNat b.toNat 0 = some r ∧ r < 2 ^ w ∧
      ∀ k, k < w / 8 → bits r (8 * k + 7) (8 * k) = bits a.toNat (w - 8 * k - 1) (w - 8 * k - 8)) ∧
    aluOp w 0x14 a.toNat b.toNat 0 = some (if a.msb then -a else a).toNat ∧
    (rb ≠ 0 → aluOp w 0x10 a.toNat b.toNat rb = none ∧ aluOp w 0x14 a.toNat b.toNat rb = none) ∧
    (∀ fn, 0x14 < fn → aluOp w fn a.toNat b.toNat rb = none)) ∧
  (∀ (n : Nat) (a : BitVec 64), n < 64 →
    shiOp n a.toNat = some (a <<< n).toNat ∧
    shiOp (64 + n) a.toNat = some (a >>> n).toNat ∧
    shiOp (128 + n) a.toNat = some (a.sshiftRight n).toNat ∧
    shiOp (192 + n) a.toNat = some (a.rotateRight n).toNat ∧
    (n < 32 → shiOp (256 + n) a.toNat = some (((a.setWidth 32) <<< n).signExtend 64).toNat ∧
      shiOp (320 + n) a.toNat = some (((a.setWidth 32) >>> n).signExtend 64).toNat ∧
      shiOp (384 + n) a.toNat = some (((a.setWidth 32).sshiftRight n).signExtend 64).toNat ∧
      shiOp (448 + n) a.toNat = some (((a.setWidth 32).rotateRight n).signExtend 64).toNat) ∧
    (32 ≤ n → shiOp (256 + n) a.toNat = none) ∧ (∀ k, 512 ≤ k → k < 4096 → shiOp k a.toNat = none)) ∧
  (∀ a b : BitVec 64,
    mulDiv 0x00 a.toNat b.toNat = some (a * b).toNat ∧
    mulDiv 0x01 a.toNat b.toNat = some (BitVec.ofInt 64 ((a.toInt * b.toInt).fdiv (2 ^ 64))).toNat ∧
    mulDiv 0x02 a.toNat b.toNat = some (a.toNat * b.toNat / 2 ^ 64) ∧
    mulDiv 0x03 a.toNat b.toNat = some ((a.setWidth 32 * b.setWidth 32).signExtend 64).toNat ∧
    mulDiv 0x04 a.toNat b.toNat = some (if b = 0 then -1 else a.sdiv b).toNat ∧
    mulDiv 0x05 a.toNat b.toNat = some (if b = 0 then -1 else a / b).toNat ∧
    mulDiv 0x06 a.toNat b.toNat = some (if b = 0 then a else a.srem b).toNat ∧
    mulDiv 0x07 a.toNat b.toNat = some (if b = 0 then a else a % b).toNat ∧
    mulDiv 0x08 a.toNat b.toNat = some ((if b.setWidth 32 = 0 then -1 else (a.setWidth 32).sdiv (b.setWidth 32)).signExtend 64).toNat ∧
    mulDiv 0x09 a.toNat b.toNat = some ((if b.setWidth 32 = 0 then -1 else a.setWidth 32 / b.setWidth 32).signExtend 64).toNat ∧
    mulDiv 0x0A a.toNat b.toNat =
      some ((if b.setWidth 32 = 0 then a.setWidth 32 else (a.setWidth 32).srem (b.setWidth 32)).signExtend 64).toNat ∧
    mulDiv 0x0B a.toNat b.toNat =
      some ((if b.setWidth 32 = 0 then a.setWidth 32 else a.setWidth 32 % b.setWidth 32).signExtend 64).toNat) ∧
  (∀ (w rd rb : Nat) (o : BitVec w), w = 32 ∨ w = 64 →
    atomOp w 0 o.toNat rb rd = some (some (BitVec.ofNat w rb).toNat) ∧
    atomOp w 1 o.toNat rb rd = some (if o = BitVec.ofNat w rd then some (BitVec.ofNat w rb).toNat else none) ∧
    atomOp w 2 o.toNat rb rd = some (some (o + BitVec.ofNat w rb).toNat) ∧
    atomOp w 3 o.toNat rb rd = some (some (o &&& BitVec.ofNat w rb).toNat) ∧
    atomOp w 4 o.toNat rb rd = some (some (o ||| BitVec.ofNat w rb).toNat) ∧
    atomOp w 5 o.toNat rb rd = some (some (o ^^^ BitVec.ofNat w rb).toNat) ∧
    atomOp w 6 o.toNat rb rd = some (some (if o.sle (BitVec.ofNat w rb) then o else BitVec.ofNat w rb).toNat) ∧
    atomOp w 7 o.toNat rb rd = some (some (if o.sle (BitVec.ofNat w rb) then BitVec.ofNat w rb else o).toNat) ∧
    atomOp w 8 o.toNat rb rd = some (some (min o.toNat (BitVec.ofNat w rb).toNat)) ∧
    atomOp w 9 o.toNat rb rd = some (some (max o.toNat (BitVec.ofNat w rb).toNat)) ∧
    ∀ k, 10 ≤ k → atomOp w k o.toNat rb rd = none)

/-- R494, R495: the conditions of compares, and how one enters its predicate. -/
def Obligations.ConditionsCompareAsListed : Prop :=
  (∀ a b : BitVec 64,
    condOf 0 a.toNat b.toNat = some (decide (a = b)) ∧ condOf 1 a.toNat b.toNat = some (decide (a ≠ b)) ∧
    condOf 2 a.toNat b.toNat = some (a.slt b) ∧ condOf 3 a.toNat b.toNat = some (b.sle a) ∧
    condOf 4 a.toNat b.toNat = some (a.ult b) ∧ condOf 5 a.toNat b.toNat = some (b.ule a) ∧
    condOf 6 a.toNat b.toNat = some (a.sle b) ∧ condOf 7 a.toNat b.toNat = some (b.slt a) ∧
    condOf 8 a.toNat b.toNat = some (a.ule b) ∧ condOf 9 a.toNat b.toNat = some (b.ult a) ∧
    condOf 10 a.toNat b.toNat = some (decide (a &&& b ≠ 0)) ∧ condOf 11 a.toNat b.toNat = some (decide (a &&& b = 0)) ∧
    (∀ k, 12 ≤ k → condOf k a.toNat b.toNat = none) ∧
    (∀ k, k < 16 → cmpCond k a.toNat b.toNat = condOf k a.toNat b.toNat) ∧
    (∀ k, k = 2 ∨ k = 3 ∨ k = 6 ∨ k = 7 → cmpCond (16 + k) a.toNat b.toNat =
      condOf k ((a.setWidth 32).signExtend 64).toNat ((b.setWidth 32).signExtend 64).toNat) ∧
    (∀ k, k < 16 → k ≠ 2 → k ≠ 3 → k ≠ 6 → k ≠ 7 → cmpCond (16 + k) a.toNat b.toNat =
      condOf k (a.toNat % 2 ^ 32) (b.toNat % 2 ^ 32)) ∧
    (∀ k, 32 ≤ k → k < 128 → cmpCond k a.toNat b.toNat = none)) ∧
  ∀ o w : Bool, combine 0 o w = some w ∧ combine 1 o w = some (o && w) ∧ combine 2 o w = some (o || w) ∧ combine 3 o w = none

/-- R473, R483, R487, R497, R771: branches and jumps set the program counter, BL and JLR the return address; NOP and FENCE only go
on, and BRK halts the core while BRKEN stands. What of it is the model's own reading or choice: log entries 64, 65 and 68. -/
def Obligations.BranchesJumpsAndNops : Prop :=
  ∀ (s : State) (i : Issue) (n : Nat) (off : BitVec 22) (rd ra rb : Fin 32), n = i.core.val →
    (n < 64 → Moves s i (.b i off) fun r =>
      { r with pc := ((r.pc.setWidth 32) + (off.signExtend 32) * 4).setWidth 64 }) ∧
    (64 ≤ n → Moves s i (.b i off) fun r => { r with pc := r.pc + (off.signExtend 64) * 4 }) ∧
    (n < 64 → Moves s i (.bl i off) fun r =>
      { r.setG 31 ((r.pc.setWidth 32) + 4).toNat with pc := ((r.pc.setWidth 32) + (off.signExtend 32) * 4).setWidth 64 }) ∧
    (64 ≤ n → Moves s i (.bl i off) fun r => { r.setG 31 (r.pc + 4).toNat with pc := r.pc + (off.signExtend 64) * 4 }) ∧
    (addrOn n ((s.regsOf n).getG ra.val) % 4 = 0 →
      (Moves s i (.jr i rd ra rb) fun r => { r with pc := BitVec.ofNat 64 (addrOn n ((s.regsOf n).getG ra.val)) }) ∧
      (Moves s i (.jlr i rd ra rb) fun r =>
        { r.setG rd.val (addrOn n (r.pc.toNat + 4)) with pc := BitVec.ofNat 64 (addrOn n ((s.regsOf n).getG ra.val)) })) ∧
    (addrOn n ((s.regsOf n).getG ra.val) % 4 ≠ 0 → ∀ f, Issues s i f → executes i (s.regsOf n) = true →
      CoreFaults s i (.jr i rd ra rb) (f.burn n) 0x03 (addrOn n ((s.regsOf n).getG ra.val)) 0 ∧
      CoreFaults s i (.jlr i rd ra rb) (f.burn n) 0x03 (addrOn n ((s.regsOf n).getG ra.val)) 0) ∧
    RegisterOnly s i (.nop i 0 0 0) id ∧ RegisterOnly s i (.fence i 0 0 0) id ∧
    (s.flag (DBG.NCTL_BRKEN n) = false → RegisterOnly s i (.brk i 0 0 0) id) ∧
    (s.flag (DBG.NCTL_BRKEN n) = true → Acts s i (.brk i 0 0 0) fun u r t =>
      t.halted n = true ∧ t.getF (DBG.NSTATE_CAUSE n) = 5 ∧ t.regsOf n = past n r ∧ t.mem = u.mem) ∧
    (rd ≠ 0 ∨ ra ≠ 0 ∨ rb ≠ 0 → Undecoded s i (.nop i rd ra rb) 0x04 ∧ Undecoded s i (.fence i rd ra rb) 0x04 ∧
      Undecoded s i (.brk i rd ra rb) 0x04)

/-- R487, R499, R500, R503, R508, R509: loads, stores and atomics at the addresses their operands give, with the bytes and the
extension of their form. What of it is the model's own reading or choice: log entry 65. -/
def Obligations.LoadsStoresAndAtomicsAccessMemory : Prop :=
  ∀ (s : State) (i : Issue) (n : Nat) (r : Regs) (kind : Fin 7) (w : Fin 4) (rd ra rb : Fin 32) (fn : Fin 128)
    (imm : BitVec 12) (a x : Nat), n = i.core.val → r = s.regsOf n →
    a = (r.getG ra.val + (imm.signExtend 64).toNat) % (if n < 64 then 2 ^ 32 else 2 ^ 64) →
    x = (r.getG ra.val + r.getG rb.val * 2 ^ bits fn.val 4 3) % (if n < 64 then 2 ^ 32 else 2 ^ 64) →
    (Accesses s i (.load i kind rd ra imm) a [false] (fun u => u.coreLoad n a (2 ^ (kind.val / 2))) fun r b =>
      r.setG rd.val (if kind.val % 2 = 1 then ((BitVec.ofInt 64 (toSigned (8 * b.length) (ofLe b))).toNat) else ofLe b)) ∧
    (Accesses s i (.store i w rd ra imm) a [true] (fun u => u.coreStore n a (leBytes (2 ^ w.val) (r.getG rd.val))) fun r _ => r) ∧
    (rd.val < 16 → Accesses s i (.vld i rd ra imm) a [false] (fun u => u.coreLoad n a 16) fun r b => r.setV rd.val (ofLe b)) ∧
    (rd.val < 16 → Accesses s i (.vst i rd ra imm) a [true] (fun u => u.coreStore n a (leBytes 16 (r.getV rd.val))) fun r _ => r) ∧
    (fn.val < 32 → Accesses s i (.ldx i rd ra rb fn) x [false] (fun u => u.coreLoad n x (2 ^ bits fn.val 1 0)) fun r b =>
      r.setG rd.val (if fn.val.testBit 2 then ((BitVec.ofInt 64 (toSigned (8 * b.length) (ofLe b))).toNat) else ofLe b)) ∧
    (fn.val < 32 → fn.val.testBit 2 = false → Accesses s i (.stx i rd ra rb fn) x [true]
      (fun u => u.coreStore n x (leBytes (2 ^ bits fn.val 1 0) (r.getG rd.val))) fun r _ => r) ∧
    (fn.val < 10 → Accesses s i (.atom i rd ra rb fn) (addrOn n (r.getG ra.val)) [false, true]
      (fun u => u.coreAtomic n (addrOn n (r.getG ra.val)) 8 (atomNew fn.val (r.getG rb.val) (r.getG rd.val))) fun r b =>
        r.setG rd.val (ofLe b)) ∧
    (16 ≤ fn.val → fn.val < 26 → Accesses s i (.atom i rd ra rb fn) (addrOn n (r.getG ra.val)) [false, true]
      (fun u => u.coreAtomic n (addrOn n (r.getG ra.val)) 4 (atomNew fn.val (r.getG rb.val) (r.getG rd.val))) fun r b =>
        r.setG rd.val (BitVec.ofInt 64 (toSigned (8 * b.length) (ofLe b))).toNat) ∧
    (16 ≤ rd.val → Undecoded s i (.vld i rd ra imm) 0x04 ∧ Undecoded s i (.vst i rd ra imm) 0x04) ∧
    (32 ≤ fn.val → Undecoded s i (.ldx i rd ra rb fn) 0x04 ∧ Undecoded s i (.stx i rd ra rb fn) 0x04 ∧
      Undecoded s i (.atom i rd ra rb fn) 0x04) ∧
    (fn.val.testBit 2 = true → Undecoded s i (.stx i rd ra rb fn) 0x04)

/-- R395, R409, R417, R478, R500, R501, R504, R509: a tenant's access is checked in order and reaches exactly the bytes its window
gives; a store through an uncached window changes those bytes of memory and no other byte, a store that hits the D-cache those bytes
of its line and no memory. What of it is the model's own reading or choice: log entries 71 and 73. -/
def Obligations.TenantAccessesGoThroughWindows : Prop :=
  ∀ (s : State) (n a : Nat) (b : List Byte) (w : Win) (p : Nat), n < 64 → p = s.physIn (s.runs n) w a →
    (a % b.length ≠ 0 → s.coreLoad n a b.length = .fault s 0x03 a ∧ s.coreStore n a b = .fault s 0x03 a ∧
      ∀ f, s.coreAtomic n a b.length f = .fault s 0x03 a) ∧
    (a % b.length = 0 → s.winAt (s.runs n) a b.length = none →
      s.coreLoad n a b.length = .fault s 0x01 a ∧ s.coreStore n a b = .fault s 0x01 a ∧
      ∀ f, s.coreAtomic n a b.length f = .fault s 0x01 a) ∧
    (a % b.length = 0 → s.winAt (s.runs n) a b.length = some w →
      (w.kind = .code ∨ w.kind = .sample ∨ w.kind = .sharedRo → s.coreStore n a b = .fault s 0x02 a ∧
        ∀ f, s.coreAtomic n a b.length f = .fault s 0x02 a) ∧
      (w.kind = .guard → (∀ g ∈ (s.tenant (s.runs n)).held, s.guardAt p ≠ some g) → s.coreStore n a b = .fault s 0x15 a) ∧
      (w.kind = .scratch ∨ w.kind = .stage ∨ w.kind = .sharedRw → s.memReady p = true →
        s.mc.bad = [] → s.mc.inj = none → s.mc.trainFailed = false →
        (∃ v, s.coreLoad n a b.length = .ok v (s.readBytes p b.length) ∧ v.mem = s.mem ∧ v.regs = s.regs ∧ Only [.cyc] s v) ∧
        ∃ v bs, s.coreStore n a b = .ok v bs ∧ v.readBytes p b.length = b ∧
          (∀ q, q < p ∨ p + b.length ≤ q → v.readByte q = s.readByte q) ∧ v.regs = s.regs ∧ Only [.mem, .cyc] s v) ∧
      (w.kind = .scratch ∨ w.kind = .stage ∨ w.kind = .sharedRw → s.memReady p = true →
        s.mc.bad = [] → s.mc.inj = none → s.mc.trainFailed = false → ∀ f,
        (f (s.readBytes p b.length) = none → ∃ v, s.coreAtomic n a b.length f = .ok v (s.readBytes p b.length) ∧ v.mem = s.mem) ∧
        (f (s.readBytes p b.length) = some b → ∃ v, s.coreAtomic n a b.length f = .ok v (s.readBytes p b.length) ∧
          v.readBytes p b.length = b ∧ (∀ q, q < p ∨ p + b.length ≤ q → v.readByte q = s.readByte q) ∧
          v.regs = s.regs ∧ Only [.mem, .cyc] s v)) ∧
      (∀ x : CLine, w.kind = .data → s.memReady p = true → cacheFind (s.core n).dl (p / 64) = some x →
        (∃ v, s.coreLoad n a b.length = .ok v (sliceD 0 x.bytes (p % 64) b.length) ∧ Only [.cyc] s v) ∧
        ∃ v bs y, s.coreStore n a b = .ok v bs ∧ Only [.cyc] s v ∧ cacheFind (v.core n).dl (p / 64) = some y ∧
          y.bytes = overlay x.bytes (p % 64) b ∧ y.dirty = true ∧ y.burgee = s.runs n ∧
          (∀ l, l ≠ p / 64 → cacheFind (v.core n).dl l = cacheFind (s.core n).dl l) ∧
          ∀ m, m ≠ n → v.core m = s.core m))

/-- R413, R415, R418, R505, R506: guards are requested, granted, waited for, passed on and given back. What of it is the model's own
reading or choice: log entry 74. -/
def Obligations.GuardsAreGrantedInRankOrder : Prop :=
  ∀ (s : State) (i : Issue) (n u g : Nat) (rd ra : Fin 32) (imm : BitVec 12), n = i.core.val → n < 64 → u = s.runs n → u < 1024 →
    g = ((s.regsOf n).getG ra.val + imm.toNat) % 4096 →
    (s.guardRequest u g = .grant → Acts s i (.gacq i rd ra imm) fun v r t =>
      t.regsOf n = past n (r.setG rd.val ((if s.flag (CYC.GSTATE_TORN g) then 1 else 0) + s.getF (CYC.GRDCFG_RANK g) * 256)) ∧
      t.flag (CYC.GSTATE_HELD g) = true ∧ t.getF (CYC.GSTATE_HOLDER g) = u ∧
      (t.tenant u).held = (s.tenant u).held ++ [g] ∧ OtherTenants u v t ∧
      RegsBut (fun q => q = CYC.GSTATE g) v t ∧ Only [.regs, .cyc, .dbg] v t) ∧
    (s.guardRequest u g = .wait → Acts s i (.gacq i rd ra imm) fun v r t =>
      t.waiters g = s.waiters g ++ [u] ∧ (∃ d, (t.tenant u).disp = some d ∧ d.wait = some (g, rd.val) ∧ d.regs = r) ∧
      (t.tenant u).held = (s.tenant u).held ∧ t.ready n = false ∧ OtherTenants u v t ∧ Only [.cyc, .dbg] v t) ∧
    (∀ x, s.guardRequest u g = .fault x → ∀ f, Issues s i f → executes i (s.regsOf n) = true →
      CoreFaults s i (.gacq i rd ra imm) (f.burn n) x 0 0) ∧
    (s.flag (CYC.GRDCFG_EN g) = false ∨ s.inGroups u g = false → s.guardRequest u g = .fault 0x11) ∧
    (s.flag (CYC.GRDCFG_EN g) = true → s.inGroups u g = true →
      ((s.tenant u).held.length = 8 → s.guardRequest u g = .fault 0x13) ∧
      ((s.tenant u).held.length < 8 → (s.tenant u).held ≠ [] → s.rankOf g ≤ s.topRank u → s.guardRequest u g = .fault 0x10) ∧
      ((s.tenant u).held.length < 8 → (s.tenant u).held = [] ∨ s.topRank u < s.rankOf g →
        (s.flag (CYC.GSTATE_HELD g) = false → s.waiters g = [] → s.guardRequest u g = .grant) ∧
        (s.flag (CYC.GSTATE_HELD g) = true ∨ s.waiters g ≠ [] → s.guardRequest u g = .wait))) ∧
    ((s.tenant u).held.contains g = false → ∀ f, Issues s i f → executes i (s.regsOf n) = true →
      CoreFaults s i (.grel i 0 ra imm) (f.burn n) 0x14 0 0) ∧
    ((s.tenant u).held.contains g = true → s.waiters g = [] → Acts s i (.grel i 0 ra imm) fun v r t =>
      t.regsOf n = past n r ∧ t.flag (CYC.GSTATE_HELD g) = false ∧ t.flag (CYC.GSTATE_TORN g) = false ∧
      (t.tenant u).held = (s.tenant u).held.filter (· ≠ g) ∧ OtherTenants u v t ∧
      RegsBut (fun q => q = CYC.GSTATE g) v t ∧ Only [.regs, .cyc, .dbg] v t) ∧
    (∀ m ws, (s.tenant u).held.contains g = true → s.waiters g = m :: ws → s.nextWaiter (m :: ws) = some m → m ≠ u → m < 1024 →
      Acts s i (.grel i 0 ra imm) fun _ r t =>
        t.regsOf n = past n r ∧ t.flag (CYC.GSTATE_HELD g) = true ∧ t.getF (CYC.GSTATE_HOLDER g) = m ∧
        (t.tenant m).held = (s.tenant m).held ++ [g] ∧ t.waiters g = ws.filter (· ≠ m) ∧
        ∀ d k, (s.tenant m).disp = some d → d.wait = some k →
          ∃ e, (t.tenant m).disp = some e ∧ e.wait = none ∧ e.regs.pc = ((d.regs.pc.setWidth 32) + 4).setWidth 64 ∧
            (k.2 ≠ 0 → e.regs.getG k.2 = s.getF (CYC.GRDCFG_RANK g) * 256)) ∧
    (rd ≠ 0 → Undecoded s i (.grel i rd ra imm) 0x04)

/-- R474, R475, R486, R507, R543, R545: queue instructions and special registers of both profiles. What of it is the model's own
reading or choice: log entries 66, 67 and 75. -/
def Obligations.QueuesAndSpecialRegisters : Prop :=
  ∀ (s : State) (i : Issue) (n u : Nat) (rd ra rb : Fin 32) (imm : BitVec 12), n = i.core.val → u = s.runs n →
    (n < 64 → u < 1024 → rb.val < 16 →
      (∀ e es, (s.tenant u).evq = e :: es →
        (RegisterOnly s i (.evpeek i rd 0 rb) fun r => (r.setV rb.val e.vec).setG rd.val 0) ∧
        (Acts s i (.evpop i rd 0 rb) fun v r t => t.regsOf n = past n ((r.setV rb.val e.vec).setG rd.val 0) ∧
          (t.tenant u).evq = es ∧ OtherTenants u v t ∧ Only [.cyc, .dbg] v t) ∧
        lane e.vec 0 = e.w0 % 2 ^ 32 ∧ lane e.vec 1 = e.w1 % 2 ^ 32 ∧ lane e.vec 2 = e.w2 % 2 ^ 32 ∧
        lane e.vec 3 = e.w3 % 2 ^ 32) ∧
      ((s.tenant u).evq = [] → (RegisterOnly s i (.evpeek i rd 0 rb) fun r => r.setG rd.val 1) ∧
        RegisterOnly s i (.evpop i rd 0 rb) fun r => r.setG rd.val 1) ∧
      (RegisterOnly s i (.evcnt i rd 0 0) fun r =>
        r.setG rd.val ((s.tenant u).evq.length + s.getF (CYC.TEVQ_CNT_LOST u) * 2 ^ 16)) ∧
      ((s.tenant u).osq.length < 64 → Acts s i (.osqpost i rd ra rb) fun v r t => t.regsOf n = past n (r.setG rd.val 0) ∧
        (t.tenant u).osq = (s.tenant u).osq ++
          [⟨r.getG rd.val % 2 ^ 16, r.getG ra.val % 2 ^ 32, r.getG rb.val % 2 ^ 32, s.tab.tickNum⟩] ∧
        t.flag ⟨SUP.DB (u / 32), u % 32, 1⟩ = true ∧ OtherTenants u v t ∧ Only [.regs, .cyc, .dbg] v t) ∧
      (64 ≤ (s.tenant u).osq.length → Acts s i (.osqpost i rd ra rb) fun v r t => t.regsOf n = past n (r.setG rd.val 1) ∧
        (t.tenant u).osq = (s.tenant u).osq ∧ t.flag CYC.STATUS_OSQ_FULL = true ∧
        t.getF (CYC.TOSQ_CNT_LOST u) = min (s.getF (CYC.TOSQ_CNT_LOST u) + 1) 65535 ∧ OtherTenants u v t ∧
        Only [.regs, .cyc, .dbg] v t)) ∧
    (n < 64 → ∀ d, (s.tenant u).disp = some d →
      (RegisterOnly s i (.mfsr i rd 0 0) fun r => r.setG rd.val d.desc.toNat) ∧
      (RegisterOnly s i (.mfsr i rd 0 1) fun r => r.setG rd.val (s.tab.au % 2 ^ 48)) ∧
      (RegisterOnly s i (.mfsr i rd 0 2) fun r => r.setG rd.val (s.tab.sec % 2 ^ 32 * 2 ^ 32 + s.tab.nsPart)) ∧
      (RegisterOnly s i (.mfsr i rd 0 3) fun r => r.setG rd.val u) ∧
      (Acts s i (.mfsr i rd 0 4) fun v r t => ∃ e, (v.tenant u).disp = some e ∧
        CoreLeft n (past n (r.setG rd.val e.left)) v t) ∧
      (RegisterOnly s i (.mfsr i rd 0 5) fun r => r.setG rd.val (s.fcause u)) ∧
      (RegisterOnly s i (.mfsr i rd 0 6) fun r => r.setG rd.val
        (d.kind.num + s.classOf u * 2 ^ 8 + s.coreOf u * 2 ^ 16 + (if d.first then 1 else 0) * 2 ^ 24)) ∧
      (7 ≤ imm.toNat → Undecoded s i (.mfsr i rd 0 imm) 0x04)) ∧
    (n < 64 → Undecoded s i (.mtsr i 0 ra imm) 0x05) ∧
    (64 ≤ n → ∀ x, srRule imm.toNat = some x →
      (x.read.num ≤ (s.supc (n - 64)).lvl.num → imm.toNat ≠ 0x202 →
        RegisterOnly s i (.mfsr i rd 0 imm) fun r => r.setG rd.val (s.srSup (n - 64) imm.toNat)) ∧
      ((s.supc (n - 64)).lvl.num < x.read.num → Undecoded s i (.mfsr i rd 0 imm) 0x05) ∧
      (0x200 ≤ imm.toNat → (s.supc (n - 64)).lvl.num < x.write.num → Undecoded s i (.mtsr i 0 ra imm) 0x05) ∧
      (0x200 ≤ imm.toNat → x.write.num ≤ (s.supc (n - 64)).lvl.num → x.writable = false → RegisterOnly s i (.mtsr i 0 ra imm) id)) ∧
    (64 ≤ n → Acts s i (.mfsr i rd 0 0x202) fun v r t => t.regsOf n = past n (r.setG rd.val (t.supc (n - 64)).ticks.toNat) ∧
      ∃ k, t.supc (n - 64) = { v.supc (n - 64) with
        regs := t.regsOf n, ticks := BitVec.ofNat 64 ((v.supc (n - 64)).ticks.toNat + k) }) ∧
    (64 ≤ n → ∀ x l, srRule imm.toNat = some x → 0x200 ≤ imm.toNat → x.writable = true → l = (s.supc (n - 64)).lvl →
      x.write.num ≤ l.num → Acts s i (.mtsr i 0 ra imm) fun v r t => t.regsOf n = past n r ∧
        t.srSup (n - 64) imm.toNat = (let w := r.getG ra.val
          if imm = 0x200 then l.num + bits w 8 8 * 2 ^ 8 +
            (if l = .platform then bits w 9 9 else bits (v.srSup (n - 64) 0x200) 9 9) * 2 ^ 9
          else if imm = 0x210 ∨ imm = 0x220 then bits w 63 11 * 2 ^ 11
          else if imm = 0x230 then bits w 39 12 * 2 ^ 12 + bits w 63 48 * 2 ^ 48
          else if imm = 0x231 then bits w 0 0
          else w) ∧
        (∀ j y, srRule j = some y → j ≠ imm.toNat → t.srSup (n - 64) j = v.srSup (n - 64) j) ∧
        (∀ c, c ≠ n - 64 → t.supc c = v.supc c) ∧ Only [.sup, .dbg] v t) ∧
    (srRule imm.toNat = none → 64 ≤ n → Undecoded s i (.mfsr i rd 0 imm) 0x04 ∧ Undecoded s i (.mtsr i 0 ra imm) 0x04) ∧
    (64 ≤ n → Undecoded s i (.evpop i rd ra rb) 0x04 ∧ Undecoded s i (.evpeek i rd ra rb) 0x04 ∧
      Undecoded s i (.evcnt i rd ra rb) 0x04 ∧ Undecoded s i (.osqpost i rd ra rb) 0x04)

/-- R516, R520, R521, R522, R523, R530, R531, R532, R533, R534: vector, complex and phasor instructions write their result register.
What of it is the model's own reading or choice: log entries 76 and 77. -/
def Obligations.VectorAndPhasorInstructionsWriteTheirResults : Prop :=
  ∀ (s : State) (i : Issue) (n : Nat) (rd ra rb : Fin 32) (fn : Fin 128), n = i.core.val →
    (∀ v : Regs → Nat, (∀ r : Regs, vintOp fn.val rd.val ra.val rb.val (r.getV ra.val) (r.getV rb.val) = some (v r)) →
      RegisterOnly s i (.vint i rd ra rb fn) fun r => r.setV rd.val (v r)) ∧
    (vintOp fn.val rd.val ra.val rb.val 0 0 = none → Undecoded s i (.vint i rd ra rb fn) 0x04) ∧
    (∀ v : Regs → Nat, (∀ r : Regs, vfltOp fn.val rd.val ra.val rb.val (r.getV rd.val) (r.getV ra.val) (r.getV rb.val) = some (v r)) →
      RegisterOnly s i (.vflt i rd ra rb fn) fun r => r.setV rd.val (v r)) ∧
    (vfltOp fn.val rd.val ra.val rb.val 0 0 0 = none → Undecoded s i (.vflt i rd ra rb fn) 0x04) ∧
    (∀ v : Regs → Nat, (∀ r : Regs,
        vcpxOp fn.val rd.val ra.val rb.val (r.getV rd.val) (r.getV ra.val) (r.getV rb.val) (r.getG rb.val) = some (v r)) →
      RegisterOnly s i (.vcpx i rd ra rb fn) fun r => r.setV rd.val (v r)) ∧
    (vcpxOp fn.val rd.val ra.val rb.val 0 0 0 0 = none → Undecoded s i (.vcpx i rd ra rb fn) 0x04) ∧
    (ra.val < 16 → rb.val < 4 → RegisterOnly s i (.vmov i rd ra rb 0) fun r =>
      r.setG rd.val ((BitVec.ofNat 32 (lane (r.getV ra.val) rb.val)).signExtend 64).toNat) ∧
    (rd.val < 16 → rb.val < 4 → RegisterOnly s i (.vmov i rd ra rb 1) fun r =>
      r.setV rd.val (setLane (r.getV rd.val) rb.val (r.getG ra.val))) ∧
    (rd.val < 16 → RegisterOnly s i (.vmov i rd ra 0 2) fun r =>
      r.setV rd.val (ofLanes [r.getG ra.val, r.getG ra.val, r.getG ra.val, r.getG ra.val])) ∧
    (rd.val < 16 → ra.val < 16 → RegisterOnly s i (.vmov i rd ra 0 3) fun r => r.setV rd.val (r.getV ra.val)) ∧
    (rd.val < 16 → RegisterOnly s i (.vmov i rd 0 0 4) fun r => r.setV rd.val 0) ∧
    (rd.val < 8 → ra.val < 16 → rb.val < 16 → fn.val = 5 ∨ fn.val = 6 ∨ fn.val = 7 →
      RegisterOnly s i (.vmov i rd ra rb fn) fun r => r.setP rd.val (vfCompare fn.val (r.getV ra.val) (r.getV rb.val))) ∧
    (8 ≤ fn.val → Undecoded s i (.vmov i rd ra rb fn) 0x04) ∧
    (n < 64 → rd.val < 16 → ra.val < 16 →
      (RegisterOnly s i (.pmag i rd ra 0) fun r => r.setV rd.val (pmagOp (r.getV ra.val))) ∧
      (rb.val < 16 → (RegisterOnly s i (.pseq01 i rd ra rb) fun r => r.setV rd.val (pseq01Op (r.getV ra.val) (r.getV rb.val))) ∧
        RegisterOnly s i (.pseq2 i rd ra rb) fun r => r.setV rd.val (pseq2Op (r.getV ra.val) (r.getV rb.val)))) ∧
    (n < 64 → ra.val < 16 → RegisterOnly s i (.pang i rd ra 0) fun r => r.setG rd.val (pangReg (r.getV ra.val))) ∧
    (n < 64 → rd.val < 16 → ∀ w k, w = (s.regsOf n).getG rb.val → k = bits w 28 24 →
      (s.flag (CYC.PHX_CFG_LOCK k) = false ∨ s.getF (CYC.PHX_CFG_LEN k) = 0 →
        RegisterOnly s i (.pdft i rd ra rb) fun r => r.setV rd.val (2 ^ 64)) ∧
      (s.flag (CYC.PHX_CFG_LOCK k) = true → s.getF (CYC.PHX_CFG_LEN k) ≠ 0 → Acts s i (.pdft i rd ra rb) fun u r t =>
        ∀ v vs rs, rs = pdftReads (r.getG ra.val) w (s.getF (CYC.PHX_CFG_LEN k)) → u.coreLoads n rs = .ok v vs →
          (∀ q ∈ rs, v.wpMatch n q.1 false = false) → CoreLeft n (past n (r.setV rd.val
            (pdftOp ((List.range (s.getF (CYC.PHX_CFG_LEN k))).map (s.phxAt k))
              (samplesOf (pdftSlots w (s.getF (CYC.PHX_CFG_LEN k))) vs)))) v t) ∧
      (pswSlots w = none → (RegisterOnly s i (.pswf i rd ra rb) fun r => r.setV rd.val 0) ∧
        RegisterOnly s i (.pswq i rd ra rb) fun r => r.setG rd.val 0x1111) ∧
      (∀ ss, pswSlots w = some ss → ss.length = 4 ∧
        (Acts s i (.pswf i rd ra rb) fun u r t => ∀ v vs rs, rs = ss.reverse.map (fun j => (slotAddr (r.getG ra.val) (bits w 13 0) j, 4)) →
          u.coreLoads n rs = .ok v vs → (∀ q ∈ rs, v.wpMatch n q.1 false = false) →
            CoreLeft n (past n (r.setV rd.val (ofLanes vs.reverse))) v t) ∧
        (Acts s i (.pswq i rd ra rb) fun u r t => ∀ v vs rs, rs = ss.reverse.map (fun j => (entryAddr (r.getG ra.val) (bits w 13 0) j, 1)) →
          u.coreLoads n rs = .ok v vs → (∀ q ∈ rs, v.wpMatch n q.1 false = false) →
            CoreLeft n (past n (r.setG rd.val (entriesWord (vs.reverse.zip ss)))) v t))) ∧
    (64 ≤ n → Undecoded s i (.pdft i rd ra rb) 0x04 ∧ Undecoded s i (.pswf i rd ra rb) 0x04 ∧ Undecoded s i (.pswq i rd ra rb) 0x04 ∧
      Undecoded s i (.pmag i rd ra rb) 0x04 ∧ Undecoded s i (.pang i rd ra rb) 0x04 ∧ Undecoded s i (.pseq01 i rd ra rb) 0x04 ∧
      Undecoded s i (.pseq2 i rd ra rb) 0x04)

/-- R516, R520: the integer lane operations act on each lane by itself. -/
def Obligations.LaneOperationsActOnEachLane : Prop :=
  ∀ (rd ra rb x y v : Nat), rd < 16 → ra < 16 → rb < 16 → v < 4 → ∀ a b : BitVec 32,
    a.toNat = lane x v → b.toNat = lane y v →
    (vintOp 0x00 rd ra rb x y).map (lane · v) = some (a + b).toNat ∧
    (vintOp 0x01 rd ra rb x y).map (lane · v) = some (a - b).toNat ∧
    (vintOp 0x02 rd ra rb x y).map (lane · v) = some (BitVec.ofInt 32 (max (-2 ^ 31) (min (2 ^ 31 - 1) (a.toInt + b.toInt)))).toNat ∧
    (vintOp 0x03 rd ra rb x y).map (lane · v) = some (BitVec.ofInt 32 (max (-2 ^ 31) (min (2 ^ 31 - 1) (a.toInt - b.toInt)))).toNat ∧
    (vintOp 0x04 rd ra rb x y).map (lane · v) = some (a * b).toNat ∧
    (vintOp 0x06 rd ra rb x y).map (lane · v) = some (if a.sle b then a else b).toNat ∧
    (vintOp 0x07 rd ra rb x y).map (lane · v) = some (if a.sle b then b else a).toNat ∧
    (vintOp 0x09 rd ra rb x y).map (lane · v) = some (a &&& b).toNat ∧
    (vintOp 0x0A rd ra rb x y).map (lane · v) = some (a ||| b).toNat ∧
    (vintOp 0x0B rd ra rb x y).map (lane · v) = some (a ^^^ b).toNat ∧
    (vintOp 0x05 rd ra rb x y).map (lane · v) =
      some (BitVec.ofInt 32 (max (-2 ^ 31) (min (2 ^ 31 - 1) (rhe (a.toInt * b.toInt) 31)))).toNat ∧
    (vintOp 0x08 rd ra 0 x y).map (lane · v) = some (min (2 ^ 31 - 1) a.toInt.natAbs) ∧
    (∀ m, m < 32 → (vintOp 0x0C rd ra m x y).map (lane · v) = some (a <<< m).toNat ∧
      (vintOp 0x0D rd ra m x y).map (lane · v) = some (a.sshiftRight m).toNat ∧
      (vintOp 0x0E rd ra m x y).map (lane · v) = some (BitVec.ofInt 32 (rhe a.toInt m)).toNat) ∧
    (16 ≤ rd → ∀ fn, vintOp fn rd ra rb x y = none) ∧ (∀ fn, 0x0E < fn → vintOp fn rd ra rb x y = none)

/-- R431, R435, R444, R535, R536, R537, R538, R539: output instructions act on publications that the tenant owns and of a kind that
accepts them, YIELD ends the dispatch and commits what it marked, BQ tests the budget. What of it is the model's own reading or
choice: log entry 79. -/
def Obligations.OutputInstructionsAndYield : Prop :=
  ∀ (s : State) (i : Issue) (n u p : Nat) (d : Disp) (rd ra rb : Fin 32), n = i.core.val → n < 64 → u = s.runs n → u < 1024 →
    (s.tenant u).disp = some d → p = (s.regsOf n).getG ra.val →
    (∀ f, Issues s i f → executes i (s.regsOf n) = true →
      (4352 ≤ p ∨ s.pubOwner p ≠ u ∨ 3 < s.pubKind p → CoreFaults s i (.pubv i 0 ra 0) (f.burn n) 0x21 0 0) ∧
      (4352 ≤ p ∨ s.pubOwner p ≠ u ∨ s.pubKind p ≠ 1 → CoreFaults s i (.trip i 0 ra rb) (f.burn n) 0x21 0 0) ∧
      (4352 ≤ p ∨ s.pubOwner p ≠ u ∨ s.pubKind p ≠ 2 → CoreFaults s i (.arm i 0 ra rb) (f.burn n) 0x21 0 0 ∧
        CoreFaults s i (.stdn i 0 ra rb) (f.burn n) 0x21 0 0) ∧
      (p < 4352 → s.pubOwner p = u → s.pubKeyBad p = true →
        (s.pubKind p ≤ 3 → CoreFaults s i (.pubv i 0 ra 0) (f.burn n) 0x20 0 0) ∧
        (s.pubKind p = 1 → CoreFaults s i (.trip i 0 ra rb) (f.burn n) 0x20 0 0) ∧
        (s.pubKind p = 2 → CoreFaults s i (.arm i 0 ra rb) (f.burn n) 0x20 0 0 ∧
          CoreFaults s i (.stdn i 0 ra rb) (f.burn n) 0x20 0 0)) ∧
      ((s.tenant u).held ≠ [] → CoreFaults s i (.yield i 0 0 0) (f.burn n) 0x09 0 0)) ∧
    (p < 4352 → s.pubOwner p = u → s.pubKeyBad p = false →
      (s.pubKind p ≤ 3 → Acts s i (.pubv i 0 ra 0) fun v r t => t.regsOf n = past n r ∧
        (∃ e, (t.tenant u).disp = some e ∧ e.staged = (if p ∈ d.staged then d.staged else d.staged ++ [p]) ∧ e.ops = d.ops) ∧
        OtherTenants u v t ∧ Only [.cyc, .dbg] v t) ∧
      (∀ (op : Nat) (c : Instr) (g : State → Nat → State),
        (s.pubKind p = 1 ∧ op = 1 ∧ c = .trip i 0 ra rb ∧ g = fun w x => w.pubTrip p x (descProv d.desc) (descTick d.desc)) ∨
        (s.pubKind p = 2 ∧ op = 2 ∧ c = .arm i 0 ra rb ∧ g = fun w x => w.pubArm p x (descProv d.desc) (descTick d.desc)) ∨
        (s.pubKind p = 2 ∧ op = 3 ∧ c = .stdn i 0 ra rb ∧
          g = fun w x => w.pubStdn p x (descTick d.desc) (some (descProv d.desc, descTick d.desc))) →
        Acts s i c fun v r t => t.regsOf n = past n r ∧ ∃ w, Only [.cyc] v w ∧ OtherTenants u v w ∧
          (∃ e, (w.tenant u).disp = some e ∧ e.ops = d.ops ++ [⟨op, p, r.getG rb.val % 2 ^ 32⟩] ∧ e.staged = d.staged) ∧
          Only [.cyc, .dbg] (g w (r.getG rb.val % 2 ^ 32)) t)) ∧
    ((s.tenant u).held = [] → s.coreOf u = n → (s.tenant u).stopReq = false →
      Acts s i (.yield i 0 0 0) fun v _ t => (t.tenant u).disp = none ∧ (t.core n).run = none ∧ t.tenSt u = s.tenSt u ∧
        (∃ e, (v.tenant u).disp = some e ∧ t.rd (CYC.USED u) = (e.budget - e.left) % 2 ^ 32) ∧
        ∃ w, Only [.cyc] v w ∧ OtherTenants u v w ∧
          t.pub = (w.pubCommit u d.staged (descProv d.desc) (descTick d.desc)).pub ∧
          t.swc = (w.pubCommit u d.staged (descProv d.desc) (descTick d.desc)).swc) ∧
    ((s.tenant u).held = [] → (s.tenant u).stopReq = true → Acts s i (.yield i 0 0 0) fun _ _ t =>
      (t.tenant u).disp = none ∧ t.tenSt u = (if s.tenSt u = .moving then .moving else .stopped)) ∧
    (rd.val < 8 → Acts s i (.bq i rd ra 0) fun v r t => ∃ e, (v.tenant u).disp = some e ∧
      CoreLeft n (past n (r.setP rd.val (decide (r.getG ra.val ≤ e.left)))) v t) ∧
    (rd ≠ 0 → Undecoded s i (.pubv i rd ra rb) 0x04 ∧ Undecoded s i (.trip i rd ra rb) 0x04 ∧ Undecoded s i (.arm i rd ra rb) 0x04 ∧
      Undecoded s i (.stdn i rd ra rb) 0x04 ∧ Undecoded s i (.yield i rd ra rb) 0x04) ∧
    (8 ≤ rd.val ∨ rb ≠ 0 → Undecoded s i (.bq i rd ra rb) 0x04)

/-- R473, R546, R547, R549, R552, R553, R554, R555: the system instructions of the supervisory profile: traps and returns, idling,
and what they discard or write back of a core's caches. What of it is the model's own reading or choice: log entries 68, 69 and 70.
-/
def Obligations.SystemInstructionsOfTheSupervisoryProfile : Prop :=
  ∀ (s : State) (i : Issue) (n c : Nat) (l : Level) (rd ra rb : Fin 32), n = i.core.val → 64 ≤ n → c = n - 64 → l = (s.supc c).lvl →
    (Acts s i (.upcall i 0 0 0) fun v r t => Only [.sup, .dbg] v t ∧
      Trapped v c (if l = .app then .kernel else .platform) ((r.pc.toNat + 4) % 2 ^ 64) (0x30 + l.num) 0 (3 + l.num) t) ∧
    (l ≠ .app → Acts s i (.tret i 0 0 0) fun v _ t =>
      (t.supc c).lvl = .ofNum (min (((v.supc c).bank l).prior.toNat % 4) l.num) ∧
      (t.supc c).gateK = ((v.supc c).bank l).prior.toNat.testBit 8 ∧ (t.supc c).gateP = ((v.supc c).bank l).prior.toNat.testBit 9 ∧
      (t.supc c).regs = { (v.supc c).regs with pc := BitVec.ofNat 64 (((v.supc c).bank l).rpc.toNat / 4 * 4) } ∧
      (t.supc c).bankK = (v.supc c).bankK ∧ (t.supc c).bankP = (v.supc c).bankP ∧ (t.supc c).xroot = (v.supc c).xroot ∧
      (t.supc c).xen = (v.supc c).xen ∧ (∀ e, e ≠ c → t.supc e = v.supc e) ∧ Only [.sup, .dbg] v t) ∧
    (l ≠ .app → Acts s i (.idle i 0 0 0) fun v r t => t.supc c = { v.supc c with idle := !v.wakes c, regs := past n r } ∧
      (∀ e, e ≠ c → t.supc e = v.supc e) ∧ Only [.sup, .dbg] v t) ∧
    (Acts s i (.isync i 0 0 0) fun v r t => t.supc c = { v.supc c with il := [], regs := past n r } ∧
      (∀ e, e ≠ c → t.supc e = v.supc e) ∧ Only [.sup, .dbg] v t) ∧
    (l ≠ .app → ∀ (j : Instr) (q : Regs → TlbEntry → Prop),
      (j = .xlfAll i 0 0 0 ∧ q = fun _ _ => True) ∨
      (j = .xlfTag i 0 ra 0 ∧ q = fun r e => e.leaf.testBit 6 = false ∧ e.stag = r.getG ra.val % 2 ^ 16) ∨
      (j = .xlfVa i 0 ra rb ∧ q = fun r e => e.leaf.testBit 6 = false ∧ e.stag = r.getG rb.val % 2 ^ 16 ∧
        r.getG ra.val % 2 ^ 48 / 2 ^ e.size = e.va) ∨
      (j = .xlfVax i 0 ra 0 ∧ q = fun r e => r.getG ra.val % 2 ^ 48 / 2 ^ e.size = e.va) →
      Acts s i j fun v r t => (∀ e, e ∈ (t.supc c).tlb ↔ e ∈ (v.supc c).tlb ∧ ¬ q r e) ∧
        t.supc c = { v.supc c with tlb := (t.supc c).tlb, regs := past n r } ∧
        (∀ e, e ≠ c → t.supc e = v.supc e) ∧ Only [.sup, .dbg] v t) ∧
    (∀ a, a = (s.regsOf n).getG ra.val → ∀ f u p mt, Issues s i f → executes i (s.regsOf n) = true →
      inRegSpace p = false → rangeRegion p 1 ≠ none →
      ((f.burn n).xlate c a .load = .at_ u p mt → (∀ x, cacheFind u.sup.dl (p / 64) = some x → x.dirty = true →
          u.memReady (p / 64 * 64) = true ∧ x.bytes.length = 64 ∧ isSram p = true) →
        Completes s (.dcwb i 0 ra 0) fun t => t.regsOf n = past n (s.regsOf n) ∧
          (∀ x, cacheFind u.sup.dl (p / 64) = some x → (x.dirty = true → t.readBytes (p / 64 * 64) 64 = x.bytes) ∧
            cacheFind t.sup.dl (p / 64) = some { x with dirty := false }) ∧
          (∀ k, k ≠ p / 64 → cacheFind t.sup.dl k = cacheFind u.sup.dl k) ∧
          (∀ q, q / 64 ≠ p / 64 → t.readByte q = u.readByte q)) ∧
      (l ≠ .app → (f.burn n).xlate c a .line = .at_ u p mt → Completes s (.dcdrop i 0 ra 0) fun t =>
        t.regsOf n = past n (s.regsOf n) ∧ cacheFind t.sup.dl (p / 64) = none ∧ t.mem = u.mem ∧
        (∀ k, k ≠ p / 64 → cacheFind t.sup.dl k = cacheFind u.sup.dl k)) ∧
      ((f.burn n).xlate c a .line = .at_ u p mt → (∀ x, cacheFind u.sup.dl (p / 64) = some x → x.dirty = true →
          u.memReady (p / 64 * 64) = true ∧ x.bytes.length = 64 ∧ isSram p = true) →
        Completes s (.dcwbd i 0 ra 0) fun t => t.regsOf n = past n (s.regsOf n) ∧ cacheFind t.sup.dl (p / 64) = none ∧
          (∀ x, cacheFind u.sup.dl (p / 64) = some x → x.dirty = true → t.readBytes (p / 64 * 64) 64 = x.bytes) ∧
          (∀ k, k ≠ p / 64 → cacheFind t.sup.dl k = cacheFind u.sup.dl k) ∧
          (∀ q, q / 64 ≠ p / 64 → t.readByte q = u.readByte q))) ∧
    (∀ a, a = (s.regsOf n).getG ra.val → ∀ f u x, Issues s i f → executes i (s.regsOf n) = true → x < 0x30 ∨ 0x33 ≤ x →
      ((f.burn n).xlate c a .load = .fault u x → CoreFaults s i (.dcwb i 0 ra 0) u x a (causeVector x)) ∧
      ((f.burn n).xlate c a .line = .fault u x → CoreFaults s i (.dcwbd i 0 ra 0) u x a (causeVector x) ∧
        (l ≠ .app → CoreFaults s i (.dcdrop i 0 ra 0) u x a (causeVector x)))) ∧
    (l = .app → Undecoded s i (.tret i 0 0 0) 0x05 ∧ Undecoded s i (.idle i 0 0 0) 0x05 ∧ Undecoded s i (.xlfAll i 0 0 0) 0x05 ∧
      Undecoded s i (.xlfTag i 0 ra 0) 0x05 ∧ Undecoded s i (.xlfVa i 0 ra rb) 0x05 ∧ Undecoded s i (.xlfVax i 0 ra 0) 0x05 ∧
      Undecoded s i (.dcdrop i 0 ra 0) 0x05) ∧
    (rd ≠ 0 → Undecoded s i (.upcall i rd ra rb) 0x04 ∧ Undecoded s i (.isync i rd ra rb) 0x04 ∧
      Undecoded s i (.dcwb i rd ra rb) 0x04 ∧ Undecoded s i (.dcwbd i rd ra rb) 0x04)

/-- R47, R48, R49, R550, R551, R552, R553, R554, R556: addresses of a supervisory core are translated or not, and its accesses reach
the coherent D-caches, memory or the register space. What of it is the model's own reading or choice: log entries 65, 69 and 71. -/
def Obligations.SupervisoryAddressesAndAccesses : Prop :=
  ∀ (s : State) (c va : Nat), va < 2 ^ 64 →
    (∀ u, (s.supc c).lvl = .platform ∨ (s.supc c).xen = false →
      (va < 2 ^ 40 → s.xlate c va u = .at_ s va (if inRegSpace va ∨ inBootRom va then .device else .normal)) ∧
      (2 ^ 40 ≤ va → s.xlate c va u = .fault s 0x01)) ∧
    (∀ u, (s.supc c).lvl ≠ .platform → (s.supc c).xen = true →
      (va / 2 ^ 47 ≠ 0 → va / 2 ^ 47 ≠ 2 ^ 17 - 1 → s.xlate c va u = .fault s 0x34) ∧
      (va / 2 ^ 47 = 0 ∨ va / 2 ^ 47 = 2 ^ 17 - 1 →
        (∀ v x, s.leafOf c (va % 2 ^ 48) = .fault v x → s.xlate c va u = .fault v x) ∧
        (∀ v e k, s.leafOf c (va % 2 ^ 48) = .leaf v e k →
          (((s.supc c).lvl = .app → e.testBit 5 = true) → (u = .fetch → e.testBit 4 = true) →
            (u = .fetch → (s.supc c).lvl = .kernel → e.testBit 5 = false) → (u = .load ∨ u = .atomic → e.testBit 2 = true) →
            (u = .store ∨ u = .atomic → e.testBit 3 = true) →
            s.xlate c va u = .at_ v (bits e 39 12 * 4096 + va % 2 ^ 48 % 2 ^ k) (.ofNum (bits e 8 7))) ∧
          (((s.supc c).lvl = .app ∧ e.testBit 5 = false) ∨ (u = .fetch ∧ e.testBit 4 = false) ∨
            (u = .fetch ∧ (s.supc c).lvl = .kernel ∧ e.testBit 5 = true) ∨ ((u = .load ∨ u = .atomic) ∧ e.testBit 2 = false) ∨
            ((u = .store ∨ u = .atomic) ∧ e.testBit 3 = false) → s.xlate c va u = .fault v 0x35)))) ∧
    (∀ e, e ∈ (s.supc c).tlb → e.va = va % 2 ^ 48 / 2 ^ e.size → e.leaf.testBit 6 = true ∨ e.stag = (s.supc c).xroot.toNat / 2 ^ 48 →
      (∀ x ∈ (s.supc c).tlb, va % 2 ^ 48 / 2 ^ x.size = x.va → x.leaf = e.leaf ∧ x.size = e.size) →
      s.leafOf c (va % 2 ^ 48) = .leaf s e.leaf e.size) ∧
    (∀ (e k : Nat) (table : Nat) (b : List Byte) (v : State), k < 4 → inRegSpace (table + 8 * (va / 2 ^ (12 + 9 * k) % 512)) = false →
      s.physLoad (supWho c) (table + 8 * (va / 2 ^ (12 + 9 * k) % 512)) 8 = .ok v b → e = ofLe b →
      (e.testBit 0 = false → s.walk c va (k + 1) table = .fault v 0x34) ∧
      (e.testBit 0 = true → bits e 8 7 = 3 → s.walk c va (k + 1) table = .fault v 0x36) ∧
      (e.testBit 0 = true → bits e 8 7 ≠ 3 →
        (e.testBit 1 = true → k = 0 → s.walk c va (k + 1) table = .fault v 0x36) ∧
        (e.testBit 1 = true → k ≠ 0 → s.walk c va (k + 1) table = v.walk c va k (bits e 39 12 * 4096)) ∧
        (e.testBit 1 = false → 2 ≤ k → s.walk c va (k + 1) table = .fault v 0x36) ∧
        (e.testBit 1 = false → k = 1 → s.walk c va (k + 1) table =
          if bits e 20 12 = 0 then .leaf v e 21 else .fault v 0x36) ∧
        (e.testBit 1 = false → k = 0 → s.walk c va (k + 1) table = .leaf v e 12))) ∧
    (∀ (p : Nat) (mt : MemType) (b : List Byte), b ≠ [] →
      (inRegSpace p = true → mt ≠ .device ∨ (b.length ≠ 4 ∧ b.length ≠ 8) →
        s.supLoad c va p b.length mt = .fault s 0x02 va ∧ s.supStore c va p b mt = .fault s 0x02 va) ∧
      (inRegSpace p = true → ∀ f, s.supRmw c va p b.length mt f = .fault s 0x02 va) ∧
      (inRegSpace p = false → rangeRegion p b.length = none → s.supLoad c va p b.length mt = .fault s 0x01 va ∧
        s.supStore c va p b mt = .fault s 0x01 va ∧ ∀ f, s.supRmw c va p b.length mt f = .fault s 0x01 va) ∧
      (inRegSpace p = false → rangeRegion p b.length = some .readOnly → s.supStore c va p b mt = .fault s 0x02 va ∧
        ∀ f, s.supRmw c va p b.length mt f = .fault s 0x02 va) ∧
      (rangeRegion p b.length = some .ram → ∀ x, cacheFind s.sup.dl (p / 64) = some x →
        s.supLoad c va p b.length .normal = .ok s (sliceD 0 x.bytes (p % 64) b.length) ∧
        ∃ v, s.supStore c va p b .normal = .ok v [] ∧ Only [.sup] s v ∧ v.sup = { s.sup with dl := v.sup.dl } ∧
          cacheFind v.sup.dl (p / 64) = some { x with bytes := overlay x.bytes (p % 64) b, dirty := true } ∧
          ∀ l, l ≠ p / 64 → cacheFind v.sup.dl l = cacheFind s.sup.dl l) ∧
      (rangeRegion p b.length = some .ram → isSram p = true → s.memReady p = true → s.mc.bad = [] → s.mc.inj = none →
        s.supLoad c va p b.length .uncached = .ok s (s.readBytes p b.length) ∧
        ∃ v, s.supStore c va p b .uncached = .ok v [] ∧ v.readBytes p b.length = b ∧
          (∀ q, q < p ∨ p + b.length ≤ q → v.readByte q = s.readByte q) ∧ Only [.mem] s v))

/-- R54, R547, R548, R549, R557, R558, R559: interrupts are chosen by priority and number, delivered with their service recorded,
and ended by software; software sources are set and cleared. What of it is the model's own reading or choice: log entry 80. -/
def Obligations.InterruptsAreChosenDeliveredAndServed : Prop :=
  ∀ (s : State) (c : Fin 4), s.awake = true → Canonical s →
    (∀ plat n, s.chosen c.val plat = some n ↔ n < 1024 ∧ s.deliverable c.val plat n = true ∧
      ∀ m, m < 1024 → s.deliverable c.val plat m = true →
        s.getF (SUP.IC_SRC_PRIO m) < s.getF (SUP.IC_SRC_PRIO n) ∨
        (s.getF (SUP.IC_SRC_PRIO m) = s.getF (SUP.IC_SRC_PRIO n) ∧ n ≤ m)) ∧
    (∀ (plat : Bool) n, s.deliverable c.val plat n = true ↔ s.flag (SUP.IC_SRC_EN n) = true ∧ s.flag (SUP.IC_SRC_PLAT n) = plat ∧
      s.getF (SUP.IC_SRC_TARGET n) = c.val ∧ 1 ≤ s.getF (SUP.IC_SRC_PRIO n) ∧ s.srcPending n = true ∧
      s.getF (SUP.IC_FLOOR_FLOOR c.val (if plat then 1 else 0)) ≤ s.getF (SUP.IC_SRC_PRIO n) ∧
      ∀ k, s.getF (SUP.IC_SRC_PRIO n) ≤ k → (s.rd (SUP.IC_INSVC c.val (if plat then 1 else 0))).testBit k = false) ∧
    (∀ (plat : Bool) n p x, s.supRuns c.val = true → s.chosen c.val plat = some n → p = s.getF (SUP.IC_SRC_PRIO n) →
      x = s.supc c.val → (if plat then x.lvl ≠ .platform ∨ x.gateP = true
        else (x.lvl = .app ∨ (x.lvl = .kernel ∧ x.gateK = true)) ∧ s.chosen c.val true = none) →
      Completes s (.interruptTake c) fun t =>
        Trapped s c.val (if plat then .platform else .kernel) x.regs.pc.toNat (2 ^ 31 + p * 2 ^ 16 + n) 0 (16 + p) t ∧
        t.rd (SUP.IC_INSVC c.val (if plat then 1 else 0)) = (s.rd (SUP.IC_INSVC c.val (if plat then 1 else 0)) ||| 2 ^ p) ∧
        t.getF (SUP.IC_INS_SRC c.val (if plat then 1 else 0) (p - 1)) = n ∧ n ∉ t.sup.swi ∧
        RegsBut (fun a => a = SUP.IC_INSVC c.val (if plat then 1 else 0) ∨ a = SUP.IC_INS c.val (if plat then 1 else 0) (p - 1)) s t ∧
        Only [.regs, .sup] s t) ∧
    (s.supRuns c.val = false ∨ (s.chosen c.val true = none ∧ s.chosen c.val false = none) ∨
      ((s.supc c.val).lvl = .platform ∧ (s.supc c.val).gateP = false) → Completes s (.interruptTake c) fun t => t = s) ∧
    (∀ (plat : Bool) (p : Fin 16), Completes s (.insvcEnd c plat p) fun t =>
      (∀ k, 1 ≤ k → k < 16 → (t.rd (SUP.IC_INSVC c.val (if plat then 1 else 0))).testBit k =
        ((s.rd (SUP.IC_INSVC c.val (if plat then 1 else 0))).testBit k && decide (k ≠ p.val))) ∧
      RegsBut (fun a => a = SUP.IC_INSVC c.val (if plat then 1 else 0)) s t ∧ Only [.regs] s t) ∧
    (∀ n : BitVec 10, (512 ≤ n.toNat → Completes s (.swiSet n) fun t =>
        t.srcPending n.toNat = true ∧ (∀ m, m ∈ t.sup.swi ↔ m ∈ s.sup.swi ∨ m = n.toNat) ∧
        t.sup = { s.sup with swi := t.sup.swi } ∧ Only [.sup] s t) ∧
      (n.toNat < 512 → Completes s (.swiSet n) fun t => t = s) ∧
      (Completes s (.swiClr n) fun t => (512 ≤ n.toNat → t.srcPending n.toNat = false) ∧
        (∀ m, m ∈ t.sup.swi ↔ m ∈ s.sup.swi ∧ m ≠ n.toNat) ∧ t.sup = { s.sup with swi := t.sup.swi } ∧ Only [.sup] s t))

/-- R571, R572, R575, R579, R580, R583, R584, R585, R587, R589, R591: what trips, arms, stand-downs and commits make of a
publication, when its state changes, and what its attributes are sent as. What of it is the model's own reading or choice: log
entries 86, 87, 88, 89 and 90. -/
def Obligations.StateChangesHeldTripsAndSafeValues : Prop :=
  ∀ (s : State) (n : Nat), n < 4352 → s.pub.act ≤ 1 →
    (∀ x prov tick, s.pubLive n = false → s.pubTrip n x prov tick = s ∧ s.pubArm n x prov tick = s ∧
      s.pubStdn n x tick (some (prov, tick)) = s) ∧
    (∀ x tick, s.pubLive n = true → s.classOf (s.pubOwner n) = 0 →
      (s.rd (PUB.TOP (s.pubOwner n / 32))).testBit (s.pubOwner n % 32) = false → ∃ t, s.pubTrip n x true tick = t ∧
        (t.pb n) = { s.pb n with held := some ⟨x % 2 ^ 32, tick⟩ } ∧ t.flag (PUB.PSTATE_HELD n) = true ∧
        t.rd PUB.HELD = (s.rd PUB.HELD + 1) % 2 ^ 32 ∧ (∀ m, m ≠ n → t.pb m = s.pb m) ∧
        RegsBut (fun a => a = PUB.HELD ∨ a = PUB.PSTATE n) s t ∧ Only [.regs, .pub] s t) ∧
    (∀ x prov tick, s.pubLive n = true → prov = false ∨ s.classOf (s.pubOwner n) ≠ 0 ∨
      (s.rd (PUB.TOP (s.pubOwner n / 32))).testBit (s.pubOwner n % 32) = true → ∃ u : State,
        s.pubTrip n x prov tick = (u.pubChange n tick (some (prov, tick))).ownerChanges (s.pubOwner n) tick ∧
        smapGet (fun _ => none) (u.pb n).base 0 = some (x % 2 ^ 32, Config.unsentQuality n 0) ∧
        (∀ a, a ≠ 0 → smapGet (fun _ => none) (u.pb n).base a = smapGet (fun _ => none) (s.pb n).base a) ∧
        (u.pb n).mark = prov ∧ (s.ownerSafe (s.pubOwner n) = false → (u.pb n).safe = false) ∧ (u.pb n).sent = (s.pb n).sent ∧
        Only [.pub] s u) ∧
    (∀ x prov tick, s.pubLive n = true → ∃ u : State, s.pubArm n x prov tick = u.pubChange n tick (some (prov, tick)) ∧
      u.flag (PUB.PSTATE_ARMED n) = true ∧ u.rd (PUB.ARMID n) = x % 2 ^ 32 ∧ u.pb n = { s.pb n with mark := prov } ∧
      RegsBut (fun a => a = PUB.PSTATE n ∨ a = PUB.ARMID n) s u ∧ Only [.regs, .pub] s u) ∧
    (∀ x prov tick, s.pubLive n = true → s.flag (PUB.PSTATE_ARMED n) = true → s.rd (PUB.ARMID n) = x % 2 ^ 32 → ∃ u : State,
      s.pubStdn n x tick (some (prov, tick)) = u.pubChange n tick (some (prov, tick)) ∧ u.flag (PUB.PSTATE_ARMED n) = false ∧
      u.pb n = { s.pb n with mark := prov } ∧ RegsBut (fun a => a = PUB.PSTATE n) s u ∧ Only [.regs, .pub] s u) ∧
    (∀ x tick from_, s.pubLive n = true → s.flag (PUB.PSTATE_ARMED n) = false ∨ s.rd (PUB.ARMID n) ≠ x % 2 ^ 32 → ∃ t,
      s.pubStdn n x tick from_ = t ∧ t.rd PUB.STDN_MISS = (s.rd PUB.STDN_MISS + 1) % 2 ^ 32 ∧
      t.flag PUB.STATUS_STDN_MISS = true ∧ RegsBut (fun a => a = PUB.STDN_MISS ∨ a = PUB.STATUS) s t ∧ Only [.regs] s t) ∧
    (∀ tick prov vs, s.pubLive n = true → s.pubKind n < 3 → s.staging n = some vs → s.mc.bad = [] → s.mc.trainFailed = false →
      ∃ u : State, s.pubCommit (s.pubOwner n) [n] prov tick =
        (u.pubChange n tick (some (prov, tick))).ownerChanges (s.pubOwner n) tick ∧
      (∀ a v q, vs = [(a, v, q)] → smapGet (fun _ => none) (u.pb n).base a = some (v, q)) ∧ (u.pb n).mark = prov ∧
      (s.ownerSafe (s.pubOwner n) = false → (u.pb n).safe = false) ∧ (u.pb n).sent = (s.pb n).sent ∧ Only [.pub] s u) ∧
    (∀ tick prov, s.pubLive n = true → s.staging n = none → ∃ t u, s.pubCommit (s.pubOwner n) [n] prov tick = t ∧
      t = u.ownerChanges (s.pubOwner n) tick ∧ u.rd PUB.STAGEERR = (s.rd PUB.STAGEERR + 1) % 2 ^ 32 ∧
      u.flag PUB.STATUS_STAGE_ERR = true ∧ RegsBut (fun a => a = PUB.STAGEERR ∨ a = PUB.STATUS) s u ∧ Only [.regs] s u) ∧
    (∀ tick from_, s.pubOn n = false ∨ s.pubGoose n = false → s.pubChange n tick from_ = s) ∧
    (∀ tick from_, s.pubNews n = false → ∃ t, s.pubChange n tick from_ = t ∧ t.regs = s.regs ∧ t.swc = s.swc ∧ t.mem = s.mem ∧
      (∀ m, m ≠ n → t.pb m = s.pb m) ∧ (t.pb n).ticks = (s.pb n).ticks ∧ (t.pb n).started = (s.pb n).started ∧
      (∀ (a : Nat) (v : SentVal), (t.pb n).sent[a]? = some v → ∃ w : SentVal, (s.pb n).sent[a]? = some w ∧ w.value = v.value ∧ w.quality = v.quality)) ∧
    (∀ tick from_, s.pubOn n = true → s.pubGoose n = true → s.pubNews n = true →
      tick ∈ (s.pb n).ticks ∨ s.flag (PUB.PSTATE_DEFERRED n) = true → ∃ t, s.pubChange n tick from_ = t ∧
        t.flag (PUB.PSTATE_DEFERRED n) = true ∧ t.flag PUB.STATUS_DEFER = true ∧
        t.rd PUB.DEFER = (s.rd PUB.DEFER + 1) % 2 ^ 32 ∧ (t.pb n).sent = (s.pb n).sent ∧ (t.pb n).waiting = s.pubVals n ∧
        RegsBut (fun a => a = PUB.PSTATE n ∨ a = PUB.STATUS ∨ a = PUB.DEFER) s t ∧ Only [.regs, .pub] s t) ∧
    (∀ tick from_, s.pubOn n = true → s.pubGoose n = true → s.pubNews n = true → tick ∉ (s.pb n).ticks →
      s.flag (PUB.PSTATE_DEFERRED n) = false → ∃ t w : State, s.pubChange n tick from_ = t ∧
        RegsBut (fun a => a = PUB.STNUM n ∨ a = PUB.SQNUM n) s w ∧ Only [.regs] s w ∧ (t.pb n).sent = w.pubVals n ∧
        t.rd (PUB.STNUM n) =
          (if (s.pb n).started then (if s.rd (PUB.STNUM n) = 2 ^ 32 - 1 then 1 else (s.rd (PUB.STNUM n) + 1) % 2 ^ 64) else 1) ∧
        t.rd (PUB.SQNUM n) = 0 ∧ (t.pb n).started = true ∧ tick ∈ (t.pb n).ticks ∧
        (∀ k, from_ = some (true, k) → t.flag (PUB.PSTATE_PEND n) = true) ∧
        (∀ k, from_ = some (false, k) → t.flag (PUB.PSTATE_PEND n) = false) ∧
        (from_ = none → t.flag (PUB.PSTATE_PEND n) = s.flag (PUB.PSTATE_PEND n)) ∧
        (s.publishes (s.pubOwner n) = false → t.swc = s.swc) ∧
        (s.publishes (s.pubOwner n) = true → s.pairTenant (s.pubOwner n) = false → s.pubF PUB.W0_AUTH_EN n = 0 → s.mc.bad = [] →
          s.mc.trainFailed = false → ∃ b, b.length = s.pubF PUB.W5_TLEN n ∧ t.swc.toSwitch = s.swc.toSwitch ++
            [⟨b, { inPort := 11, vid := tagVid b, pcp := tagPcp b, tc := s.pubF PUB.W5_TC n }⟩])) ∧
    (∀ k verdict h, s.pubsOf (s.pubOwner n) = [n] → (s.pb n).held = some h → h.tick = k →
      (verdict = 2 ∨ (verdict = 3 ∧ s.pubF PUB.W0_HOLDPOL n = 1) → ∃ t, s.pubVerdict (s.pubOwner n) k verdict = t ∧
        (t.pb n).held = none ∧ t.flag (PUB.PSTATE_HELD n) = false ∧ t.rd PUB.HDROP = (s.rd PUB.HDROP + 1) % 2 ^ 32 ∧
        t.flag PUB.STATUS_HDROP = true ∧ (t.pb n).sent = (s.pb n).sent ∧ t.swc = s.swc) ∧
      (verdict ≠ 2 → verdict ≠ 3 ∨ s.pubF PUB.W0_HOLDPOL n ≠ 1 → ∃ u : State,
        s.pubVerdict (s.pubOwner n) k verdict = u.tripOut n h.data (tickAdd k 1) none ∧
        (u.pb n).held = none ∧ u.flag (PUB.PSTATE_HELD n) = false ∧ u.rd PUB.HREL = (s.rd PUB.HREL + 1) % 2 ^ 32)) ∧
    (∀ a (m : AttrMap),
      (∀ f, s.forceOn (attrPoint n a) = some f → s.attrVal n a m false = ⟨f.value, 0x400, false⟩) ∧
      (s.forceOn (attrPoint n a) = none → s.pubSafe n = true → s.pubKind n ≠ 2 ∨ 2 ≤ a → m.safeMode = false →
        s.attrVal n a m false = ⟨m.safeVal, 1, true⟩) ∧
      (∀ v, s.forceOn (attrPoint n a) = none → s.pubSafe n = true →
        m.safeMode = true ∧ s.pubGoose n = true ∨ s.pubKind n = 2 ∧ a < 2 →
        (s.pb n).sent[a]? = some v → s.attrVal n a m false = ⟨v.value, 1, true⟩) ∧
      (s.forceOn (attrPoint n a) = none → s.pubSafe n = true → s.pubKind n ≠ 2 → s.pubGoose n = false →
        s.attrVal n a m false = ⟨m.safeVal, 1, true⟩) ∧
      (∀ v q, s.forceOn (attrPoint n a) = none → s.pubSafe n = false → s.pointSubst n a = false → s.pubKind n ≠ 2 →
        (s.pb n).mark = true → m.qoff ≠ 0xFFFF ∨ s.pubKind n = 3 →
        smapGet (fun _ => none) (s.pb n).base a = some (v, q) → s.attrVal n a m false = ⟨v, markQuality q, false⟩) ∧
      (∀ v q, s.forceOn (attrPoint n a) = none → s.pubSafe n = false → s.pointSubst n a = false → s.pubKind n ≠ 2 →
        (s.pb n).mark = false → smapGet (fun _ => none) (s.pb n).base a = some (v, q) →
        s.attrVal n a m false = ⟨v, q, false⟩))

/-- R279, R280, R571, R573, R581, R583, R588, R589, R596, R597, R598, R602: repeats, epochs and entries, the correction log,
software stand-downs, received GOOSE and ALIVE. What of it is the model's own reading or choice: log entries 92, 94, 142 and 143. -/
def Obligations.PublicationCommandsActAsListed : Prop :=
  ∀ s : State, s.awake = true → s.pub.act ≤ 1 →
    (∀ n : Fin 4352, s.pubOn n.val = false ∨ s.pubGoose n.val = false ∨ (s.pb n.val).started = false →
      Completes s (.gooseRepeat n) fun t => t = s) ∧
    (∀ (n : Fin 4352) d, s.repeatAt n.val = some d → s.boundaryIn < s.todCycles (d - s.tab.mono).toNat →
      Completes s (.gooseRepeat n) fun t => t = s) ∧
    (∀ (n : Fin 4352) d k u tick next, s.repeatAt n.val = some d → k = s.todCycles (d - s.tab.mono).toNat →
      k < s.boundaryIn → NoneDue s k → u = after s k → tick = u.repeatTick n.val →
      next = min (2 * (s.pb n.val).ival) (s.pubF PUB.W1_T0 n.val) →
      (u.slotsFull n.val tick = false → (s.pb n.val).deferred = [] → Completes s (.gooseRepeat n) fun t =>
        t.rd (PUB.SQNUM n.val) =
          (if s.rd (PUB.SQNUM n.val) = 2 ^ 32 - 1 then 1 else (s.rd (PUB.SQNUM n.val) + 1) % 2 ^ 64) ∧
        t.rd (PUB.STNUM n.val) = s.rd (PUB.STNUM n.val) ∧ (t.pb n.val).sent = (s.pb n.val).sent ∧
        (t.pb n.val).ival = next ∧ (t.pb n.val).due = d + msUnit next ∧
        (t.pb n.val).nextK 1 tick = (s.pb n.val).nextK 1 tick + 1 ∧
        (∀ m, m ≠ n.val → t.pb m = s.pb m) ∧
        (s.pairTenant (s.pubOwner n.val) = false → Only [.regs, .pub, .swc, .mc] u t)) ∧
      (u.slotsFull n.val tick = true → (s.pb n.val).deferred = [] → tickReached u.tickNow (tickAdd tick 1) = false →
        Completes s (.gooseRepeat n) fun t => t.rd (PUB.SQNUM n.val) = s.rd (PUB.SQNUM n.val) ∧
          t.rd RDE.SLOT_DEFER = (s.rd RDE.SLOT_DEFER + 1) % 2 ^ 32 ∧ t.flag RDE.STATUS_SLOT_DEFER = true ∧
          (t.pb n.val).deferred = [(2 * next, tickAdd tick 1)] ∧ (t.pb n.val).ival = next ∧
          RegsBut (fun a => a = RDE.SLOT_DEFER ∨ a = RDE.STATUS) u t ∧ Only [.regs, .pub] u t) ∧
      (∀ x xs, u.slotsFull n.val tick = false → (s.pb n.val).deferred = x :: xs → tickReached u.tickNow x.2 = false →
        Completes s (.gooseRepeat n) fun t => (t.pb n.val).deferred = x :: xs ++ [(2 * next, tick)] ∧
          (t.pb n.val).ival = next ∧ (∀ m, m ≠ n.val → t.pb m = s.pb m) ∧ Only [.pub] u t)) ∧
    (∀ who, s.regReach who = true → Completes s (.clogPop who) fun t =>
      (∀ e es, s.pub.clog = e :: es → (t.port64 who).resp = .data e.tick ∧ t.pub = { s.pub with clog := es }) ∧
      (s.pub.clog = [] → (t.port64 who).resp = .data 0 ∧ t.pub = s.pub) ∧ Only [.pub, .ports64] s t) ∧
    (Completes s .pubFlip fun t => t.pub.act = 1 - s.pub.act ∧
      (∀ n, n < 4352 → t.rd (PUB.STNUM n) = s.rd (PUB.STNUM n) ∨ (s.getF (PUB.W0_EN s.pub.act n) = 0 ∧
        s.getF (PUB.W0_EN (1 - s.pub.act) n) = 1)) ∧
      (∀ n, n < 4352 → s.getF (PUB.W0_EN s.pub.act n) = 1 ∨ s.getF (PUB.W0_EN (1 - s.pub.act) n) = 0 → t.pb n = s.pb n) ∧
      ∀ n, n < 4352 → t.getF (PUB.PSTATE_ARMED n) = s.getF (PUB.PSTATE_ARMED n)) ∧
    (∀ (e : Fin 2) (n : Fin 4352) (w : Fin 8) (v : Word), (e.val = s.pub.act → Completes s (.pubEntryWrite e n w v) fun t =>
        t.flag PUB.STATUS_EPOCH_REFUSED = true ∧ t.rd (PUB.W0 e.val n.val + 4 * w.val) = s.rd (PUB.W0 e.val n.val + 4 * w.val) ∧
        RegsBut (fun a => a = PUB.STATUS) s t ∧ Only [.regs] s t) ∧
      (e.val ≠ s.pub.act → w ≠ 0 → w ≠ 1 → Completes s (.pubEntryWrite e n w v) fun t =>
        t.rd (PUB.W0 e.val n.val + 4 * w.val) = s.plain (PUB.W0 e.val n.val + 4 * w.val) v.toNat ∧
        RegsBut (fun a => a = PUB.W0 e.val n.val + 4 * w.val) s t ∧ Only [.regs] s t) ∧
      (e.val ≠ s.pub.act → Completes s (.pubEntryWrite e n 1 v) fun t =>
        (s.getF (PUB.W0_KIND e.val n.val) < 3 → bits (t.rd (PUB.W1 e.val n.val)) 11 8 = 0 ∧
          bits (t.rd (PUB.W1 e.val n.val)) 31 28 = bits v.toNat 31 28 ∧
          bits (t.rd (PUB.W1 e.val n.val)) 7 0 = bits v.toNat 7 0 ∧
          bits (t.rd (PUB.W1 e.val n.val)) 27 12 =
            (if bits v.toNat 31 28 + 1 ≤ bits v.toNat 27 12 ∧ bits v.toNat 27 12 ≤ 60000 then bits v.toNat 27 12
              else bits (s.rd (PUB.W1 e.val n.val)) 27 12)) ∧
        (3 ≤ s.getF (PUB.W0_KIND e.val n.val) →
          bits (t.rd (PUB.W1 e.val n.val)) 27 24 =
            (if 1 ≤ bits v.toNat 27 24 ∧ bits v.toNat 27 24 ≤ 8 then bits v.toNat 27 24
              else bits (s.rd (PUB.W1 e.val n.val)) 27 24) ∧
          bits (t.rd (PUB.W1 e.val n.val)) 23 8 =
            (if bits v.toNat 23 8 = 0 then bits (s.rd (PUB.W1 e.val n.val)) 23 8 else bits v.toNat 23 8)) ∧
        RegsBut (fun a => a = PUB.W1 e.val n.val) s t ∧ Only [.regs] s t) ∧
      (e.val ≠ s.pub.act → v.getLsbD 31 = false → Completes s (.pubEntryWrite e n 0 v) fun t =>
        t.rd (PUB.W0 e.val n.val) = s.plain (PUB.W0 e.val n.val) v.toNat ∧
        RegsBut (fun a => a = PUB.W0 e.val n.val) s t ∧ Only [.regs] s t) ∧
      (e.val ≠ s.pub.act → v.getLsbD 31 = true → s.getF (PUB.W5_TLEN e.val n.val) < 60 ∨ 1500 < s.getF (PUB.W5_TLEN e.val n.val) ∨
        s.flag (CYC.TBIND_VALID (bits (s.plain (PUB.W0 e.val n.val) v.toNat) 25 16)) = false ∨
        s.getF (PUB.W1_NATTR e.val n.val) = 0 →
        Completes s (.pubEntryWrite e n 0 v) fun t => t.flag PUB.STATUS_CFG_REFUSED = true ∧
          t.rd (PUB.W0 e.val n.val) = s.rd (PUB.W0 e.val n.val) ∧ RegsBut (fun a => a = PUB.STATUS) s t ∧ Only [.regs] s t)) ∧
    (Completes s .pubCntClr fun t => (∀ a ∈ [PUB.HELD, PUB.HREL, PUB.HDROP, PUB.CORR, PUB.DEFER, PUB.STDN_MISS, PUB.RXNOMATCH,
      PUB.RXREJ, PUB.STAGEERR], t.rd a = 0) ∧ RegsBut (inSlot 7) s t ∧ Only [.regs] s t) ∧
    (∀ n : Fin 4352, (s.pubKind n.val = 2 → Completes s (.pubScmdStdn n) fun t =>
        t = s.pubStdn n.val (s.rd PUB.SCMD_ID) s.tickNow none) ∧
      (s.pubKind n.val ≠ 2 → Completes s (.pubScmdStdn n) fun t => t = s)) ∧
    (s.pub.inbox = [] → Completes s .gooseReceive fun t => t = s) ∧
    (∀ f fs, s.pub.inbox = f :: fs → (∀ m, m < 4096 → s.rxMatch m f.bytes (gooseOf f.bytes) = false) →
      Completes s .gooseReceive fun t => t.rd PUB.RXNOMATCH = (s.rd PUB.RXNOMATCH + 1) % 2 ^ 32 ∧
        t.pub = { s.pub with inbox := fs } ∧ RegsBut (fun a => a = PUB.RXNOMATCH) s t ∧ Only [.regs, .pub] s t) ∧
    (∀ f fs m, s.pub.inbox = f :: fs → m < 4096 → s.rxMatch m f.bytes (gooseOf f.bytes) = true →
      (∀ k, k < 4096 → k ≠ m → s.rxMatch k f.bytes (gooseOf f.bytes) = false) →
      ((gooseOf f.bytes).confRev ≠ s.rd (PUB.RXW3 m) → Completes s .gooseReceive fun t =>
        t.rd PUB.RXREJ = (s.rd PUB.RXREJ + 1) % 2 ^ 32 ∧ t.flag PUB.STATUS_RXREJ = true ∧ t.mem = s.mem ∧
        t.pub = { s.pub with inbox := fs }) ∧
      ((gooseOf f.bytes).confRev = s.rd (PUB.RXW3 m) → s.flag (PUB.RXW0_AUTH_EN m) = true →
        (({ s with pub := { s.pub with inbox := fs } } : State).authVerify (s.getF (PUB.RXW0_KEYSLOT m)) f.bytes
          (etherOff f.bytes + 2)).2 = false → Completes s .gooseReceive fun t =>
        t.rd PUB.RXREJ = (s.rd PUB.RXREJ + 1) % 2 ^ 32 ∧ t.mem = s.mem ∧ t.pub = { s.pub with inbox := fs }) ∧
      ((gooseOf f.bytes).confRev = s.rd (PUB.RXW3 m) → (gooseOf f.bytes).sim = false → s.flag (PUB.RXW0_AUTH_EN m) = false →
        (∀ x ∈ s.rxMap m, x.beyond f.bytes.length = false) →
        inFreeSram (s.rd (PUB.RXW5 m) * 256) (16 + 8 * s.getF (PUB.RXW0_NATTR m)) = true → s.mc.bad = [] → s.mc.inj = none →
        Completes s .gooseReceive fun t =>
          t.rxSub m = { last := some ((gooseOf f.bytes).stNum, (gooseOf f.bytes).sqNum)
                        lives := s.tab.mono + msUnit (gooseOf f.bytes).tal } ∧
          t.readLe (s.rd (PUB.RXW5 m) * 256) 4 = (gooseOf f.bytes).stNum % 2 ^ 32 ∧
          t.readLe (s.rd (PUB.RXW5 m) * 256 + 4) 4 = (gooseOf f.bytes).sqNum % 2 ^ 32 ∧
          t.readLe (s.rd (PUB.RXW5 m) * 256 + 8) 4 = evTod f.info.rxNs % 2 ^ 32 ∧
          (t.readLe (s.rd (PUB.RXW5 m) * 256 + 12) 4).testBit 0 = false ∧
          (∀ a x, (s.rxMap m)[a]? = some x → s.forceOn (rxPoint m a) = none → x.typ ≤ 4 →
            t.readLe (s.rd (PUB.RXW5 m) * 256 + 16 + 8 * a) 4 = decodeVal f.bytes x % 2 ^ 32 ∧
            (x.qoff ≠ 0xFFFF → t.readLe (s.rd (PUB.RXW5 m) * 256 + 20 + 8 * a) 4 =
              decodeQuality (beAt f.bytes x.qoff 2) % 2 ^ 32)) ∧
          (∀ a x y, (s.rxMap m)[a]? = some x → s.forceOn (rxPoint m a) = some y →
            t.readLe (s.rd (PUB.RXW5 m) * 256 + 16 + 8 * a) 4 = y.value % 2 ^ 32) ∧
          (∀ a, a < s.rd (PUB.RXW5 m) * 256 ∨ s.rd (PUB.RXW5 m) * 256 + 16 + 8 * s.getF (PUB.RXW0_NATTR m) ≤ a →
            t.readByte a = s.readByte a) ∧ Only [.mem, .pub, .cyc, .regs] s t)) ∧
    (∀ m : Fin 4096, ((s.rxSub m.val).last = none ∨ (s.rxSub m.val).expired = true ∨ s.flag (PUB.RXW0_EN m.val) = false →
        Completes s (.gooseTalExpire m) fun t => t = s) ∧
      (∀ d, s.talAt m.val = some d → s.boundaryIn < s.todCycles (d - s.tab.mono).toNat →
        Completes s (.gooseTalExpire m) fun t => t = s) ∧
      (∀ l r d k u, r = s.rd (PUB.RXW5 m.val) * 256 → (s.rxSub m.val).last = some l → s.talAt m.val = some d →
        k = s.todCycles (d - s.tab.mono).toNat → k < s.boundaryIn → NoneDue s k → u = after s k →
        inFreeSram r (16 + 8 * s.getF (PUB.RXW0_NATTR m.val)) = true →
        Completes s (.gooseTalExpire m) fun t => t.rxSub m.val = { s.rxSub m.val with expired := true } ∧
          t.readLe (r + 12) 4 = (s.readLe (r + 12) 4 ||| 1) ∧
          (∀ a, a < s.getF (PUB.RXW0_NATTR m.val) → t.readLe (r + 16 + 8 * a) 4 = s.readLe (r + 16 + 8 * a) 4 ∧
            (s.forceOn (rxPoint m.val a) = none → t.readLe (r + 20 + 8 * a) 4 % 4 = 1)) ∧
          (∀ a, a < r + 12 ∨ r + 16 + 8 * s.getF (PUB.RXW0_NATTR m.val) ≤ a → t.readByte a = s.readByte a) ∧
          (∀ v, s.rxTenants m.val = [v] → (s.tenant v).evq.length < 64 → (s.tenant v).gap = false →
            (t.tenant v).evq = (s.tenant v).evq ++ [⟨2 ^ 30 + m.val * 2 ^ 16 + 2, l.1, evTod u.tab.ns, l.2⟩]) ∧
          Only [.mem, .pub, .mc, .cyc, .regs] u t)) ∧
    (s.sys.railOut = none → Completes s .aliveToggle fun t => Only [.pub] s t ∧ t.pub = { s.pub with
      alive := s.flag PUB.CTL_ALIVE_EN && s.flag CYC.CTL_EN && !s.cyc.wdHalt && !s.pub.alive })

/-- R46, R613, R621, R622, R623, R624, R627, R629, R630, R631, R632, R634: what the commands of a record unit do in each of its
states. What of it is the model's own reading or choice: log entries 8, 95, 97 and 98. -/
def Obligations.RecordUnitsFollowTheirStates : Prop :=
  ∀ (s : State) (u : Fin 16),
    (s.sys.power = .lull → ∀ (v : Word) (c : Instr) (a w : Nat),
      (c = .capArm u ∧ a = CAP.UCMD u.val ∧ w = 1) ∨ (c = .capDisarm u ∧ a = CAP.UCMD u.val ∧ w = 2) ∨
      (c = .capSwTrig u ∧ a = CAP.UCMD u.val ∧ w = 4) ∨ (c = .capRdptrWrite u v ∧ a = CAP.URDPTR u.val ∧ w = v.toNat) ∨
      (c = .capRidxWrite u v ∧ a = CAP.UDIRIDX u.val ∧ w = v.toNat) ∨
      (c = .capEnable u v ∧ a = CAP.UCFG u.val ∧ w = v.toNat % 2 ^ 31 + 2 ^ 31) ∨
      (c = .capDisable u v ∧ a = CAP.UCFG u.val ∧ w = v.toNat % 2 ^ 31) →
      Completes s c fun t => t.sys = { s.sys with gated := s.sys.gated ++ [(a, w)] } ∧ Only [.sys] s t) ∧
    (s.sys.power = .run →
      (s.capSt u.val = 5 → Completes s (.capArm u) fun t =>
        t.capSt u.val = (if s.dirFull u.val = false ∧ min (2 ^ s.getF (CAP.URSIZE_RSIZE u.val) / 4) (2 ^ 20) +
          ptrDist (s.rd (CAP.URDPTR u.val)) (s.rd (CAP.UENDPTR u.val)) ≤ 2 ^ s.getF (CAP.URSIZE_RSIZE u.val) then 1 else 4) ∧
        (s.dirFull u.val = true → t.flag (CAP.USTATUS_DIRFULL u.val) = true) ∧ (t.cu u.val).rows = [] ∧
        t.rd (CAP.UWRPTR u.val) = s.rd (CAP.UENDPTR u.val) ∧ (∀ w, w ≠ u.val → t.cu w = s.cu w) ∧
        RegsBut (fun a => a = CAP.USTATE u.val ∨ a = CAP.USTATUS u.val ∨ a = CAP.UWRPTR u.val) s t ∧ Only [.regs, .cap] s t) ∧
      (s.capSt u.val ≠ 5 → Completes s (.capArm u) fun t => t = s) ∧
      (s.capSt u.val = 1 ∨ s.capSt u.val = 4 → Completes s (.capDisarm u) fun t => t.capSt u.val = 5 ∧ (t.cu u.val).rows = [] ∧
        t.rd (CAP.UWRPTR u.val) = s.rd (CAP.UENDPTR u.val) ∧ (∀ w, w ≠ u.val → t.cu w = s.cu w) ∧
        RegsBut (fun a => a = CAP.USTATE u.val ∨ a = CAP.UWRPTR u.val) s t ∧ Only [.regs, .cap] s t) ∧
      (s.capSt u.val ≠ 1 → s.capSt u.val ≠ 4 → Completes s (.capDisarm u) fun t => t = s) ∧
      (Completes s (.capSwTrig u) fun t =>
        (s.capSt u.val = 1 → (t.cu u.val) = { s.cu u.val with ext := (s.cu u.val).ext ++ [⟨s.tab.ns, 0xFF, 0⟩] } ∧ t.regs = s.regs) ∧
        (s.capSt u.val = 2 ∨ s.capSt u.val = 3 → t.rd (CAP.URETRIG u.val) = (s.rd (CAP.URETRIG u.val) + 1) % 2 ^ 32 ∧
          (t.cu u.val) = { s.cu u.val with retrig := (s.cu u.val).retrig + 1 }) ∧
        (s.capSt u.val = 4 ∨ s.capSt u.val = 5 → t.rd (CAP.UMISSED u.val) = (s.rd (CAP.UMISSED u.val) + 1) % 2 ^ 32 ∧
          t.flag (CAP.USTATUS_MISSED u.val) = true ∧ t.cap = s.cap) ∧
        (s.capSt u.val = 0 → t = s) ∧ (∀ w, w ≠ u.val → t.cu w = s.cu w) ∧
        RegsBut (fun a => a = CAP.URETRIG u.val ∨ a = CAP.UMISSED u.val ∨ a = CAP.USTATUS u.val) s t ∧ Only [.regs, .cap] s t) ∧
      (∀ v : Word, s.flag (CAP.UCFG_EN u.val) = false → ∀ new, new = s.plain (CAP.UCFG u.val) (v.toNat % 2 ^ 31 + 2 ^ 31) →
        ((s.wr (CAP.UCFG u.val) (new % 2 ^ 31)).capMayEnable u.val = false → Completes s (.capEnable u v) fun t =>
          t.flag (CAP.USTATUS_REFUSED u.val) = true ∧ t.flag (CAP.UCFG_EN u.val) = false ∧ t.capSt u.val = s.capSt u.val ∧
          RegsBut (fun a => a = CAP.UCFG u.val ∨ a = CAP.USTATUS u.val) s t ∧ Only [.regs] s t) ∧
        ((s.wr (CAP.UCFG u.val) (new % 2 ^ 31)).capMayEnable u.val = true → Completes s (.capEnable u v) fun t =>
          t.rd (CAP.UCFG u.val) = new ∧ (t.cu u.val).terms.length = 8 ∧ (t.cu u.val).rows = [] ∧
          t.capSt u.val = (if s.dirFull u.val = false ∧ min (2 ^ s.getF (CAP.URSIZE_RSIZE u.val) / 4) (2 ^ 20) +
            ptrDist (s.rd (CAP.URDPTR u.val)) (s.rd (CAP.UENDPTR u.val)) ≤ 2 ^ s.getF (CAP.URSIZE_RSIZE u.val) then 1 else 4) ∧
          (∀ w, w ≠ u.val → t.cu w = s.cu w) ∧ Only [.regs, .cap] s t) ∧
        (s.gridOn (bits new 27 24) = false → (s.wr (CAP.UCFG u.val) (new % 2 ^ 31)).capMayEnable u.val = false) ∧
        (s.rd (CAP.URBASE u.val) % 2 ^ s.getF (CAP.URSIZE_RSIZE u.val) ≠ 0 →
          (s.wr (CAP.UCFG u.val) (new % 2 ^ 31)).capMayEnable u.val = false)) ∧
      (∀ v : Word, s.flag (CAP.UCFG_EN u.val) = true →
        (Completes s (.capEnable u v) fun t => t.capSt u.val = s.capSt u.val ∧ t.flag (CAP.UCFG_EN u.val) = true ∧
          t.getF (CAP.UCFG_AUTO u.val) = v.toNat / 2 ^ 30 % 2 ∧ t.rd (CAP.UCFG u.val) % 2 ^ 30 = s.rd (CAP.UCFG u.val) % 2 ^ 30 ∧
          (s.plain (CAP.UCFG u.val) (v.toNat % 2 ^ 31 + 2 ^ 31) % 2 ^ 30 ≠ s.rd (CAP.UCFG u.val) % 2 ^ 30 →
            t.flag (CAP.USTATUS_REFUSED u.val) = true) ∧ t.cap = s.cap ∧
          RegsBut (fun a => a = CAP.UCFG u.val ∨ a = CAP.USTATUS u.val) s t ∧ Only [.regs] s t) ∧
        (Completes s (.capDisable u v) fun t => t.capSt u.val = 0 ∧ t.flag (CAP.UCFG_EN u.val) = false ∧ t.cu u.val = {} ∧
          t.getF (CAP.USTATE_TERMS u.val) = 0 ∧ t.rd (CAP.UWRPTR u.val) = s.rd (CAP.UENDPTR u.val) ∧
          (∀ w, w ≠ u.val → t.cu w = s.cu w) ∧ Only [.regs, .cap] s t)) ∧
      (∀ v : Word, s.flag (CAP.UCFG_EN u.val) = false → Completes s (.capDisable u v) fun t =>
        t.rd (CAP.UCFG u.val) = s.plain (CAP.UCFG u.val) (v.toNat % 2 ^ 31) ∧
        RegsBut (fun a => a = CAP.UCFG u.val) s t ∧ Only [.regs] s t) ∧
      (∀ v : Word, Completes s (.capRdptrWrite u v) fun t =>
        (if 0 < ptrDist (s.rd (CAP.URDPTR u.val)) (v.toNat % 2 ^ 31) ∧ ptrDist (s.rd (CAP.URDPTR u.val)) (v.toNat % 2 ^ 31) ≤
            ptrDist (s.rd (CAP.URDPTR u.val)) (s.rd (CAP.UENDPTR u.val))
          then (s.capSt u.val ≠ 1 ∨ v.toNat % 2 ^ 31 ≠ s.rd (CAP.UENDPTR u.val) →
              t.rd (CAP.URDPTR u.val) = v.toNat % 2 ^ 31 ∧ RegsBut (fun a => a = CAP.URDPTR u.val) s t ∧ t.cap = s.cap) ∧
            (s.capSt u.val = 1 → v.toNat % 2 ^ 31 = s.rd (CAP.UENDPTR u.val) →
              t.rd (CAP.URDPTR u.val) = t.rd (CAP.UENDPTR u.val))
          else t.flag (CAP.USTATUS_REFUSED u.val) = true ∧ RegsBut (fun a => a = CAP.USTATUS u.val) s t) ∧ Only [.regs, .cap] s t) ∧
      (∀ (v : Word) (d : Nat → Nat), (d = fun x => (x + 128 - s.getF (CAP.UDIRIDX_RIDX u.val)) % 128) →
        Completes s (.capRidxWrite u v) fun t =>
        (if 0 < d (v.toNat % 128) ∧ d (v.toNat % 128) ≤ d (s.getF (CAP.UDIRIDX_WIDX u.val))
          then t.getF (CAP.UDIRIDX_RIDX u.val) = v.toNat % 128 ∧ RegsBut (fun a => a = CAP.UDIRIDX u.val) s t ∧
            t.getF (CAP.UDIRIDX_WIDX u.val) = s.getF (CAP.UDIRIDX_WIDX u.val)
          else t.flag (CAP.USTATUS_REFUSED u.val) = true ∧ RegsBut (fun a => a = CAP.USTATUS u.val) s t) ∧ Only [.regs] s t)) ∧
    (s.awake = true →
      (s.capSt u.val ≠ 3 → Completes s (.capRecordClose u) fun t => t = s) ∧
      (∀ a g x xs, s.capSt u.val = 3 → (s.cu u.val).trig = some g → (s.cu u.val).rows = x :: xs → g.term < 256 →
        a = s.getF (CAP.UDIRBASE_DIRBASE u.val) * 4096 + s.getF (CAP.UDIRIDX_WIDX u.val) % 64 * 64 → isDram a = true →
        Completes s (.capRecordClose u) fun t =>
          t.readLe a 4 = (g.term * 256 + (if (s.cu u.val).trunc then 1 else 0) + (if (s.cu u.val).shortPre then 2 else 0) +
            (if (x :: xs).any (·.lost) then 4 else 0)) % 2 ^ 32 ∧
          t.readLe (a + 4) 4 = x.ptr % 2 ^ 32 ∧ t.readLe (a + 8) 4 = ptrDist x.ptr (s.rd (CAP.UWRPTR u.val)) ∧
          t.readLe (a + 12) 4 = (xs.length + 1) % 2 ^ 32 ∧ t.readLe (a + 36) 4 = g.frac % 2 ^ 32 ∧
          t.readLe (a + 60) 4 = ((s.cu u.val).seq + 1) % 2 ^ 32 ∧
          (∀ q, q < a ∨ a + 64 ≤ q → t.readByte q = s.readByte q) ∧
          t.getF (CAP.UDIRIDX_WIDX u.val) = (s.getF (CAP.UDIRIDX_WIDX u.val) + 1) % 128 ∧
          t.rd (CAP.UENDPTR u.val) = s.rd (CAP.UWRPTR u.val) ∧ t.flag (CAP.USTATUS_RECORD u.val) = true ∧
          t.rd (CAP.URECS u.val) = (s.rd (CAP.URECS u.val) + 1) % 2 ^ 32 ∧ (t.cu u.val).rows = [] ∧
          (s.flag (CAP.UCFG_AUTO u.val) = false → t.capSt u.val = 5) ∧
          (s.flag (CAP.UCFG_AUTO u.val) = true → t.capSt u.val = 1 ∨ t.capSt u.val = 4) ∧
          (∀ w, w ≠ u.val → t.cu w = s.cu w) ∧ Only [.regs, .cap, .mem, .mc] s t) ∧
      (s.capSt u.val = 4 → s.capMayArm u.val = true → s.rd (CAP.UWRPTR u.val) = s.rd (CAP.UENDPTR u.val) →
        Completes s (.capRearm u) fun t => t.capSt u.val = 1 ∧
        (t.cu u.val).rows = [] ∧ (∀ w, w ≠ u.val → t.cu w = s.cu w) ∧ Only [.regs, .cap] s t) ∧
      (s.capSt u.val ≠ 4 ∨ s.capMayArm u.val = false → Completes s (.capRearm u) fun t => t = s))

/-- R637, R640, R642, R644, R645, R646, R647, R648, R649, R650, R651, R654, R655, R656, R657, R658, R666, R740: a burst is served,
the arbiter's choice, and what the other commands of common memory do. What of it is the model's own reading or choice: log entries
99, 100 and 101. -/
def Obligations.MemoryServesBurstsAndItsCommands : Prop :=
  ∀ s : State, s.awake = true →
    (∀ (b : Burst) (a : Nat), a = b.addr.toNat → b.bad = [] → s.burstOk b = true → s.memReady a = true → s.mc.bad = [] →
      s.mc.inj = none → s.mc.trainFailed = false → Completes s (.memRequest [b]) fun t => ∃ first data,
        t.mc.served = [⟨b.port.val, first, data, false⟩] ∧ b.start < first ∧
        (∀ n, b.kind = .read n → data = s.readBytes a (32 * n) ∧ t.mem = s.mem) ∧
        (∀ bs k i, b.kind = .write bs → k < bs.length → i < 32 → data = [] ∧
          t.readByte (a + 32 * k + i) = (((bs[k]?).bind fun x => x[i]?).bind id).getD (s.readByte (a + 32 * k + i))) ∧
        (∀ x i, b.kind = .atomic x → i < 32 → data = s.readBytes a 32 ∧
          t.readByte (a + i) = ((x[i]?).bind id).getD (s.readByte (a + i))) ∧
        (∀ q, q < a ∨ a + 32 * (match b.kind with
          | .atomic _ => 1
          | _ => b.beats) ≤ q → t.readByte q = s.readByte q) ∧
        (∀ k, bankOf a = some k → smapGet (fun _ => 96) t.mc.last k = b.port.val) ∧
        RegsBut (inSlot 10) s t ∧ Only [.regs, .mem, .mc, .free] s t) ∧
    (∀ (b : Burst) (x : List (Option Byte)), b.kind = .write [x] → b.bad = [0] → b.port.val < 64 → s.burstOk b = true →
      s.memReady b.addr.toNat = true → Completes s (.memRequest [b]) fun t =>
        t.mem = s.mem ∧ t.rd MEM.PAR = (s.rd MEM.PAR + 1) % 2 ^ 32 ∧ t.flag MEM.STATUS_PARITY = true ∧
        (b.tv = true → b.preroll = false → (t.tenant b.burgee.val).late = some (0x19, b.addr.toNat / 64 * 64)) ∧
        (∃ first, t.mc.served = [⟨b.port.val, first, [], true⟩]) ∧ Only [.regs, .mc, .cyc, .free] s t) ∧
    (∀ (b : Burst) bs, s.memReady b.addr.toNat = false → Completes s (.memRequest (b :: bs)) fun t =>
      t.mc = { s.mc with waiting := s.mc.waiting ++ [b :: bs] } ∧ Only [.mc] s t) ∧
    (∀ last rs g, arbBest last rs = some g → g ∈ rs ∧ ∀ r ∈ rs, r.eff < g.eff ∨ (r.eff = g.eff ∧ (r.base < g.base ∨
      (r.base = g.base ∧ rrDist last g.b.port.val ≤ rrDist last r.b.port.val)))) ∧
    (∀ last n rs g, arbDecide last n rs none = some g → g ∈ rs ∧ g.since < n ∧
      ∀ r ∈ rs, r.since < n → g.base < r.base → g.b.port.val ∉ r.lower) ∧
    (∀ last n rs g h, arbDecide last n rs (some h) = some g → g ∈ rs ∧ g.since < n ∧ h.base < g.base ∧ h.base + 2 ≤ g.eff) ∧
    (∀ a : BitVec 40, s.memReady a.toNat = true → s.mc.trainFailed = false →
      (if isDram a.toNat then s.flag MEM.CTL_DSCRUB_EN = true else isSram a.toNat = true ∧ s.flag MEM.CTL_SSCRUB_EN = true) →
      Completes s (.scrubRead a) fun t => t.mem = s.mem ∧ RegsBut (inSlot 10) s t ∧ Only [.regs, .mc] s t ∧
        (smapGet (fun _ => 0) s.mc.bad (a.toNat / 8) = 1 → smapGet (fun _ => 0) t.mc.bad (a.toNat / 8) = 0 ∧
          (isDram a.toNat = true → t.rd MEM.DCE = (s.rd MEM.DCE + 1) % 2 ^ 32 ∧ t.flag MEM.STATUS_DRAM_CE = true) ∧
          (isDram a.toNat = false → t.rd MEM.SCE = (s.rd MEM.SCE + 1) % 2 ^ 32 ∧ t.flag MEM.STATUS_SRAM_CE = true)) ∧
        (smapGet (fun _ => 0) s.mc.bad (a.toNat / 8) = 2 → t.mc.bad = s.mc.bad ∧
          (isDram a.toNat = true → t.rd MEM.DUE = (s.rd MEM.DUE + 1) % 2 ^ 32 ∧ t.flag MEM.STATUS_DRAM_UE = true) ∧
          (isDram a.toNat = false → t.rd MEM.SUE = (s.rd MEM.SUE + 1) % 2 ^ 32 ∧ t.flag MEM.STATUS_SRAM_UE = true)) ∧
        (smapGet (fun _ => 0) s.mc.bad (a.toNat / 8) = 0 → t = s)) ∧
    (∀ r : Fin 4, Completes s (.dramRefresh r) fun t => t.getF MEM.STATE_REFRATE = r.val ∧
      RegsBut (fun a => a = MEM.STATE) s t ∧ t.flag MEM.STATE_SRAM_RDY = s.flag MEM.STATE_SRAM_RDY ∧
      t.flag MEM.STATE_DRAM_RDY = s.flag MEM.STATE_DRAM_RDY ∧ Only [.regs] s t) ∧
    (Completes s .memInjArm fun t =>
      t.mc = { s.mc with inj := some (s.getF MEM.INJ_ADDR, s.getF MEM.INJ_KIND) } ∧ Only [.mc] s t) ∧
    (∀ k w, s.mc.inj = some (w, k) → (s.storeWord w).mc.inj = none ∧
      smapGet (fun _ => 0) (s.storeWord w).mc.bad w = k ∧ (s.storeWord w).flag MEM.STATUS_INJ_DONE = true) ∧
    (Completes s .memLogClr fun t => t.rd MEM.ERR_ADDR = 0 ∧ t.rd MEM.ERR_INFO = 0 ∧
      RegsBut (fun a => a = MEM.ERR_ADDR ∨ a = MEM.ERR_INFO) s t ∧ Only [.regs] s t) ∧
    (Completes s .memCntClr fun t => (∀ a ∈ [MEM.SCE, MEM.SUE, MEM.DCE, MEM.DUE, MEM.PAR, MEM.HOG, MEM.PREEMPT], t.rd a = 0) ∧
      t.rd MEM.ERR_INFO = s.rd MEM.ERR_INFO ∧ t.rd MEM.STATUS = s.rd MEM.STATUS ∧ RegsBut (inSlot 10) s t ∧ Only [.regs] s t) ∧
    (Canonical s → s.mc.waiting = [] → s.dbg.run = none →
      (s.flag MEM.STATE_SRAM_RDY = false → Completes s .sramZeroDone fun t => t.flag MEM.STATE_SRAM_RDY = true ∧
        (∀ a, t.readByte a = if isSram a then 0 else s.readByte a) ∧
        RegsBut (fun a => a = MEM.STATE) s t ∧ Only [.regs, .mem, .mc] s t) ∧
      (s.flag MEM.STATE_SRAM_RDY = true → Completes s .sramZeroDone fun t => t = s) ∧
      (s.flag MEM.STATE_DRAM_RDY = false → s.mc.trainFailed = false →
        (Completes s .dramZeroDone fun t => t.flag MEM.STATE_DRAM_RDY = true ∧
          (∀ a, t.readByte a = if isDram a then 0 else s.readByte a) ∧
          RegsBut (fun a => a = MEM.STATE) s t ∧ Only [.regs, .mem, .mc] s t) ∧
        (Completes s .dramTrainFail fun t => t.flag MEM.STATUS_TRAIN_FAIL = true ∧ t.flag MEM.STATE_DRAM_RDY = false ∧
          (∀ who a n, isDram a = true → t.memReady a = true ∧ (t.memRead who a n).2 = none) ∧ t.mem = s.mem ∧
          RegsBut (fun a => a = MEM.STATUS) s t ∧ Only [.regs, .mc] s t)) ∧
      (s.flag MEM.STATE_DRAM_RDY = true ∨ s.mc.trainFailed = true → (Completes s .dramZeroDone fun t => t = s) ∧
        Completes s .dramTrainFail fun t => t = s)) ∧
    (s.sys.power = .lull → Completes s .selfRefreshEntry fun t => t.mc = { s.mc with selfRefresh := true } ∧ Only [.mc] s t) ∧
    (s.sys.power ≠ .lull → Completes s .selfRefreshEntry fun t => t = s)

/-- R669, R673, R675, R679, R681, R682, R683, R685, R687, R689, R691: rings, copies, completions and host frames of the data movers.
What of it is the model's own reading or choice: log entries 102, 103 and 104. -/
def Obligations.MoversCopyCompleteAndCarryFrames : Prop :=
  ∀ (s : State) (m : Fin 16), s.awake = true →
    (∀ v : Word, (2 ^ s.getF (DMV.MCFG_RSIZE m.val) <
          (v.toNat % 131072 + 131072 - s.rd (DMV.MHEAD m.val)) % 131072 → Completes s (.dmvTailWrite m v) fun t =>
        t.flag (DMV.MSTATUS_REFUSED m.val) = true ∧ t.rd (DMV.MTAIL m.val) = s.rd (DMV.MTAIL m.val) ∧
        RegsBut (fun a => a = DMV.MSTATUS m.val) s t ∧ Only [.regs] s t) ∧
      ((v.toNat % 131072 + 131072 - s.rd (DMV.MHEAD m.val)) % 131072 ≤ 2 ^ s.getF (DMV.MCFG_RSIZE m.val) →
        Completes s (.dmvTailWrite m v) fun t => t.rd (DMV.MTAIL m.val) = v.toNat % 131072 ∧
          RegsBut (fun a => a = DMV.MTAIL m.val) s t ∧ Only [.regs] s t)) ∧
    (s.moverRuns m.val 0 = false ∨ s.rd (DMV.MTAIL m.val) = s.rd (DMV.MHEAD m.val) ∨ (s.mover m.val).job ≠ none →
      Completes s (.dmvCopy m) fun t => t = s) ∧
    (∀ a d, s.moverRuns m.val 0 = true → s.moverOwns m.val ≠ 0 → (s.mover m.val).job = none →
      a = s.descAddr m.val (s.rd (DMV.MHEAD m.val)) → rangeRegion a 32 = some .ram → s.memReady a = true → s.mc.bad = [] →
      s.mc.inj = none → s.mc.trainFailed = false → d = copyDesc (s.readBytes a 32) →
      (∀ e, d.error = some e → Completes s (.dmvCopy m) fun t => (t.mover m.val) = { s.mover m.val with job := some ⟨e.num, 0⟩ } ∧
        t.moverSt m.val = 2 ∧ t.mem = s.mem ∧ RegsBut (fun q => q = DMV.MSTATE m.val) s t ∧ Only [.regs, .dmv] s t) ∧
      (d.op ≠ 1 → d.error = some .desc) ∧ (d.op = 1 → d.len = 0 ∨ 2 ^ 30 < d.len → d.error = some .len) ∧
      (d.error = none → d.swap = 0 → d.swrap = 0 → d.dwrap = 0 → isSram d.src = true → isSram (d.src + d.len - 1) = true →
        isSram d.dst = true → isSram (d.dst + d.len - 1) = true → s.memReady d.src = true → Completes s (.dmvCopy m) fun t =>
          (∀ i, i < d.len → t.readByte (d.dst + i) = s.readByte (d.src + i)) ∧
          (∀ q, q < d.dst ∨ d.dst + d.len ≤ q → t.readByte q = s.readByte q) ∧
          (t.mover m.val) = { s.mover m.val with job := some ⟨0, d.len⟩ } ∧ t.moverSt m.val = 2 ∧
          RegsBut (fun q => q = DMV.MSTATE m.val) s t ∧ Only [.regs, .dmv, .mem] s t)) ∧
    ((s.mover m.val).job = none → Completes s (.dmvDescComplete m) fun t => t = s) ∧
    (∀ a j, (s.mover m.val).job = some j → j.err < 8 → a = s.descAddr m.val (s.rd (DMV.MHEAD m.val)) →
      rangeRegion a 32 = some .ram → s.memReady a = true → s.memReady (a + 28) = true →
      s.mc.bad = [] → s.mc.inj = none → Completes s (.dmvDescComplete m) fun t =>
        t.readLe (a + 28) 4 = j.moved % 2 ^ 32 ∧ (t.readLe a 4).testBit 31 = true ∧ bits (t.readLe a 4) 27 24 = j.err ∧
        bits (t.readLe a 4) 23 0 = bits (s.readLe a 4) 23 0 ∧
        (∀ q, q < a ∨ (a + 4 ≤ q ∧ q < a + 28) ∨ a + 32 ≤ q → t.readByte q = s.readByte q) ∧
        t.rd (DMV.MHEAD m.val) = (s.rd (DMV.MHEAD m.val) + 1) % 131072 ∧
        t.rd (DMV.MDESCS m.val) = (s.rd (DMV.MDESCS m.val) + 1) % 2 ^ 32 ∧ (t.mover m.val).job = none ∧
        (j.err = 0 → t.moverSt m.val = 1 ∧ ((s.readLe a 4).testBit 4 = true → t.flag (DMV.MSTATUS_DONE m.val) = true)) ∧
        (j.err ≠ 0 → t.moverSt m.val = 3 ∧ t.getF (DMV.MSTATE_ERRCODE m.val) = j.err ∧ t.flag (DMV.MSTATUS_ERR m.val) = true) ∧
        (∀ n, n ≠ m.val → t.mover n = s.mover n) ∧ Only [.regs, .dmv, .mem] s t) ∧
    (Completes s (.dmvResume m) fun t => (s.moverSt m.val = 3 → t.moverSt m.val = 1) ∧ (s.moverSt m.val ≠ 3 → t = s) ∧
      t.getF (DMV.MSTATE_ERRCODE m.val) = s.getF (DMV.MSTATE_ERRCODE m.val) ∧
      RegsBut (fun a => a = DMV.MSTATE m.val) s t ∧ Only [.regs] s t) ∧
    (Completes s (.dmvDisable m) fun t => t.flag (DMV.MCFG_EN m.val) = false ∧
      (s.flag (DMV.MCFG_EN m.val) = true → t.moverSt m.val = 0 ∧ t.mover m.val = {}) ∧
      (s.flag (DMV.MCFG_EN m.val) = false → t.dmv = s.dmv ∧ t.moverSt m.val = s.moverSt m.val) ∧
      t.rd (DMV.MHEAD m.val) = s.rd (DMV.MHEAD m.val) ∧ (∀ n, n ≠ m.val → t.mover n = s.mover n) ∧ t.mem = s.mem ∧
      RegsBut (fun a => a = DMV.MCFG m.val ∨ a = DMV.MSTATE m.val ∨ a = DMV.MSTATUS m.val) s t ∧ Only [.regs, .dmv] s t) ∧
    ((s.mover m.val).rx = [] ∨ s.moverRuns m.val 1 = false → Completes s (.dmvRxFrame m) fun t => t = s) ∧
    (∀ f fs, (s.mover m.val).rx = f :: fs → s.moverRuns m.val 1 = true → s.moverOwns m.val = 0 →
      Completes s (.dmvRxFrame m) fun t => t.rd (DMV.MRXNOBUF m.val) = (s.rd (DMV.MRXNOBUF m.val) + 1) % 2 ^ 32 ∧
        t.flag (DMV.MSTATUS_RXNOBUF m.val) = true ∧ (t.mover m.val) = { s.mover m.val with rx := fs } ∧ t.mem = s.mem ∧
        RegsBut (fun a => a = DMV.MRXNOBUF m.val ∨ a = DMV.MSTATUS m.val) s t ∧ Only [.regs, .dmv] s t) ∧
    (∀ f fs a b, (s.mover m.val).rx = f :: fs → s.moverRuns m.val 1 = true → s.moverOwns m.val ≠ 0 →
      1 ≤ f.bytes.length → f.bytes.length ≤ s.getF (DMV.MCFG_BUFSZ m.val) → f.bytes.length < 65536 →
      a = s.descAddr m.val (s.rd (DMV.MHEAD m.val)) → rangeRegion a 32 = some .ram → s.memReady a = true →
      s.memReady (a + 28) = true → s.mc.bad = [] → s.mc.inj = none → s.mc.trainFailed = false →
      b = bits (s.readLe (a + 12) 4) 7 0 * 2 ^ 32 + s.readLe (a + 8) 4 / 64 * 64 →
      (rangeRegion b f.bytes.length = none → Completes s (.dmvRxFrame m) fun t => t.moverSt m.val = 3 ∧
        t.getF (DMV.MSTATE_ERRCODE m.val) = 3 ∧ t.flag (DMV.MSTATUS_ERR m.val) = true ∧ t.mem = s.mem ∧
        t.rd (DMV.MHEAD m.val) = (s.rd (DMV.MHEAD m.val) + 1) % 131072 ∧ (t.mover m.val) = { s.mover m.val with rx := fs } ∧
        RegsBut (fun q => q = DMV.MSTATE m.val ∨ q = DMV.MSTATUS m.val ∨ q = DMV.MHEAD m.val) s t ∧ Only [.regs, .dmv] s t) ∧
      (isSram b = true → isSram (b + f.bytes.length - 1) = true → s.memReady b = true →
        (∃ q, (true, q) ∈ s.dmv.failed ∧ b < q + 32 ∧ q < b + f.bytes.length) → Completes s (.dmvRxFrame m) fun t =>
          t.rd (DMV.MRXTRUNC m.val) = (s.rd (DMV.MRXTRUNC m.val) + 1) % 2 ^ 32 ∧ t.flag (DMV.MSTATUS_ERR m.val) = true ∧
          t.flag (DMV.MSTATUS_RXTRUNC m.val) = true ∧ (t.mover m.val) = { s.mover m.val with rx := fs } ∧
          (∀ q, q < b ∨ b + f.bytes.length ≤ q → t.readByte q = s.readByte q) ∧
          RegsBut (fun q => q = DMV.MRXTRUNC m.val ∨ q = DMV.MSTATUS m.val) s t ∧ Only [.regs, .dmv, .mem] s t) ∧
      (isSram b = true → isSram (b + f.bytes.length - 1) = true → s.memReady b = true → b + f.bytes.length ≤ a ∨ a + 32 ≤ b →
      (∀ q, (true, q) ∈ s.dmv.failed → b < q + 32 → b + f.bytes.length ≤ q) →
      Completes s (.dmvRxFrame m) fun t => t.readBytes b f.bytes.length = f.bytes ∧
        t.readLe a 4 = 2 ^ 31 + 2 ^ 30 + 2 ^ 29 + f.bytes.length ∧ bits (t.readLe (a + 4) 4) 15 0 = f.bytes.length ∧
        t.readLe (a + 16) 4 = f.info.rxNs % 1000000000 ∧ bits (t.readLe (a + 24) 4) 11 0 = f.info.vid % 4096 ∧
        (∀ q, (q < a ∨ a + 32 ≤ q) → (q < b ∨ b + f.bytes.length ≤ q) → t.readByte q = s.readByte q) ∧
        t.rd (DMV.MHEAD m.val) = (s.rd (DMV.MHEAD m.val) + 1) % 131072 ∧
        t.rd (DMV.MRXFRAMES m.val) = (s.rd (DMV.MRXFRAMES m.val) + 1) % 2 ^ 32 ∧
        (t.mover m.val) = { s.mover m.val with rx := fs } ∧ Only [.regs, .dmv, .mem] s t)) ∧
    (s.moverRuns m.val 2 = false → Completes s (.dmvTxFrame m) fun t => t = s) ∧
    (∀ a b n bad, s.moverRuns m.val 2 = true → s.moverOwns m.val ≠ 0 → a = s.descAddr m.val (s.rd (DMV.MHEAD m.val)) →
      rangeRegion a 32 = some .ram → s.memReady a = true → s.mc.bad = [] → s.mc.inj = none → s.mc.trainFailed = false →
      (s.readLe a 4).testBit 29 = true → n = s.readLe a 4 % 65536 → n ≠ 0 →
      b = bits (s.readLe (a + 12) 4) 7 0 * 2 ^ 32 + s.readLe (a + 8) 4 → isSram b = true → isSram (b + n - 1) = true →
      s.memReady b = true →
      (bad = true ↔ ∃ q, (false, q) ∈ s.dmv.failed ∧ b < q + 32 ∧ q < b + n) → Completes s (.dmvTxFrame m) fun t =>
        t.swc.toSwitch = s.swc.toSwitch ++ [⟨s.readBytes b n,
          { inPort := 11
            vid := tagVid (s.readBytes b n)
            pcp := tagPcp (s.readBytes b n)
            tc := bits (s.readLe a 4) 24 22
            tsReq := (s.readLe a 4).testBit 21
            csumIns := (s.readLe a 4).testBit 20
            errMark := bad }⟩] ∧ (bad = true → t.flag (DMV.MSTATUS_ERR m.val) = true) ∧
        t.readLe a 4 = (s.readLe a 4 ||| 2 ^ 31) ∧ (∀ q, q < a ∨ a + 4 ≤ q → t.readByte q = s.readByte q) ∧
        t.rd (DMV.MHEAD m.val) = (s.rd (DMV.MHEAD m.val) + 1) % 131072 ∧
        t.rd (DMV.MDESCS m.val) = (s.rd (DMV.MDESCS m.val) + 1) % 2 ^ 32 ∧ t.dmv.movers = s.dmv.movers ∧
        Only [.regs, .mem, .swc, .dmv] s t) ∧
    (Completes s .dmvCntClr fun t => t.rd DMV.RXNOMAP = 0 ∧ (∀ n, n < 16 → t.rd (DMV.MDESCS n) = 0 ∧ t.rd (DMV.MRXFRAMES n) = 0 ∧
      t.rd (DMV.MRXTRUNC n) = 0 ∧ t.rd (DMV.MRXNOBUF n) = 0 ∧ t.rd (DMV.MHEAD n) = s.rd (DMV.MHEAD n)) ∧
      RegsBut (inSlot 9) s t ∧ Only [.regs] s t)

/-- R22, R53, R672, R694, R695, R696, R697, R700, R701, R702, R718, R719, R720, R721, R726: the key store, its users and expiry,
zeroising, measurement registers and tenant digests. What of it is the model's own reading or choice: log entries 7, 106 and 107. -/
def Obligations.KeysMeasurementsAndDigestsFollowTheirRules : Prop :=
  ∀ (s : State) (who : Requester) (n : Fin 8192) (i : Fin 16) (x : Fin 1024) (slot : Fin 2) (u : State), s.awake = true →
    u = s.unhold who →
    (∀ c ∈ [Instr.keyWrite who n, .keyRead who n, .keyErase who n, .keyLink who n, .secZeroise who, .secCntClr who,
        .mrExtend who i, .tdigWrite who x slot, .tdigRead who x slot, .engHmacInit who n, .ensignGo who, .lcScrap who 0x4C43],
      ((∃ m, who = .mover m) ∨ who = .nvs → Completes s c fun t => (t.port64 who).resp = .accessFault ∧ Only [.ports64] s t) ∧
      ((∃ k, who = .sup k) ∨ who = .debug → s.regReach who = false → Completes s c fun t =>
        (t.port64 who).resp = .denied ∧ Only [.ports64] s t)) ∧
    ((∃ k, who = .sup k) ∨ who = .debug → s.regReach who = true → s.platform who = false →
      (∀ c ∈ [Instr.keyWrite who n, .keyRead who n, .keyErase who n, .keyLink who n], Completes s c fun t =>
        t.flag SEC.STATUS_LEVEL_REFUSED = true ∧ (s.sec.keyRun = none → t.getF SEC.KEY_RES_CODE = 1) ∧
        RegsBut (fun a => a = SEC.STATUS ∨ a = SEC.KEY_RES) u t ∧ Only [.regs] u t) ∧
      (∀ c ∈ [Instr.secZeroise who, .secCntClr who], Completes s c fun t => t.flag SEC.STATUS_LEVEL_REFUSED = true ∧
        RegsBut (fun a => a = SEC.STATUS) u t ∧ Only [.regs] u t) ∧
      (i.val < 4 → Completes s (.mrExtend who i) fun t => t.flag SEC.STATUS_LEVEL_REFUSED = true ∧
        RegsBut (fun a => a = SEC.STATUS) u t ∧ Only [.regs] u t) ∧
      (∀ c ∈ [Instr.tdigWrite who x slot, .tdigRead who x slot], Completes s c fun t => t.flag SEC.STATUS_LEVEL_REFUSED = true ∧
        t.getF SEC.TDIG_RES_CODE = 1 ∧ RegsBut (fun a => a = SEC.STATUS ∨ a = SEC.TDIG_RES) u t ∧ Only [.regs] u t)) ∧
    (∀ k : Fin 4, who = .sup k → s.platform who = true →
      (∀ c ∈ [Instr.keyWrite who n, .keyRead who n, .keyErase who n, .keyLink who n],
        (s.sec.keyRun ≠ none → Completes s c fun t => t = u) ∧
        (s.sec.keyRun = none → s.sec.lcRun ≠ none → Completes s c fun t => t.getF SEC.KEY_RES_CODE = 2 ∧
          RegsBut (fun a => a = SEC.KEY_RES) u t ∧ Only [.regs] u t)) ∧
      (s.sec.keyRun = none → s.sec.lcRun = none →
        (s.keysReachable = false → ∀ c ∈ [Instr.keyWrite who n, .keyLink who n], Completes s c fun t =>
          t.getF SEC.KEY_RES_CODE = 2 ∧ RegsBut (fun a => a = SEC.KEY_RES) u t ∧ Only [.regs] u t) ∧
        (∀ g us key, s.keysReachable = true → g = s.getF SEC.KEY_ATTR_ALG → us = s.getF SEC.KEY_ATTR_USAGE → key = s.keyData →
          (3 < g ∨ (g = 3 ∧ (us.testBit 0 = true ∨ us.testBit 1 = true)) ∨ ((g = 1 ∨ g = 2) ∧ us.testBit 2 = true) ∨
            (g = 3 ∧ (keyInt key = 0 ∨ p256.n ≤ keyInt key)) → Completes s (.keyWrite who n) fun t =>
              t.getF SEC.KEY_RES_CODE = 3 ∧ RegsBut (fun a => a = SEC.KEY_RES) u t ∧ Only [.regs] u t) ∧
          (g ≤ 3 → (g = 3 → us.testBit 0 = false ∧ us.testBit 1 = false ∧ 1 ≤ keyInt key ∧ keyInt key < p256.n) →
            (g = 1 ∨ g = 2 → us.testBit 2 = false) → Completes s (.keyWrite who n) fun t => Only [.sec] u t ∧
              t.sec = { s.sec with keyRun := some ⟨n.val,
                { key := key, alg := g, usage := us, owned := s.flag SEC.KEY_ATTR_OWNED, owner := s.getF SEC.KEY_ATTR_OWNER, expiry := s.rd SEC.KEY_EXP, keyId := s.rd SEC.KEY_ID, nextEn := s.flag SEC.KEY_NEXT_NEXT_EN, next := s.getF SEC.KEY_NEXT_NEXT, valid := true, expired := false }⟩ })) ∧
        (s.keysReachable = true → Completes s (.keyLink who n) fun t => Only [.sec] u t ∧ t.sec = { s.sec with
          keyRun := some ⟨n.val, { s.keySlot n.val with
            expiry := s.rd SEC.KEY_EXP, nextEn := s.flag SEC.KEY_NEXT_NEXT_EN, next := s.getF SEC.KEY_NEXT_NEXT }⟩ }) ∧
        (Completes s (.keyErase who n) fun t => Only [.sec] u t ∧ t.sec = { s.sec with keyRun := some ⟨n.val, {}⟩ }) ∧
        (∀ y, y = s.keySlot n.val → y.alg < 8 → y.owner < 1024 → y.usage < 8 → y.next < 8192 → Completes s (.keyRead who n) fun t =>
          t.getF SEC.KEY_ATTR_ALG = y.alg ∧ t.flag SEC.KEY_ATTR_OWNED = y.owned ∧ t.getF SEC.KEY_ATTR_OWNER = y.owner ∧
          t.flag SEC.KEY_ATTR_VALID = y.valid ∧ t.flag SEC.KEY_ATTR_EXPIRED = y.expired ∧ t.getF SEC.KEY_ATTR_USAGE = y.usage ∧
          t.rd SEC.KEY_EXP = y.expiry % 2 ^ 64 ∧ t.rd SEC.KEY_ID = y.keyId % 2 ^ 64 ∧ t.flag SEC.KEY_NEXT_NEXT_EN = y.nextEn ∧
          t.getF SEC.KEY_NEXT_NEXT = y.next ∧ t.getF SEC.KEY_RES_CODE = 0 ∧ t.sec = { s.sec with keyD := [] } ∧
          RegsBut (fun a => a = SEC.KEY_ATTR ∨ a = SEC.KEY_EXP ∨ a = SEC.KEY_ID ∨ a = SEC.KEY_NEXT ∨ a = SEC.KEY_RES) s t ∧
          Only [.regs, .sec] u t)) ∧
      (Completes s (.secZeroise who) fun t => (∀ m, t.keySlot m = {}) ∧ t.sec = { s.sec with
        slots := [], keyRun := s.sec.keyRun.map fun r => { r with new := {} }, zeroising := true } ∧ Only [.sec] u t) ∧
      (Completes s (.secCntClr who) fun t => t.rd SEC.KEYUNAVAIL = 0 ∧ RegsBut (fun a => a = SEC.KEYUNAVAIL) u t ∧ Only [.regs] u t) ∧
      (Completes s (.mrExtend who i) fun t => t.mrBytes i.val = sha384 (s.mrBytes i.val ++ s.xBytes 0 12) ∧
        (∀ j, j ≠ i.val → j < 16 → t.mrBytes j = s.mrBytes j) ∧
        RegsBut (fun a => SEC.MR i.val 0 ≤ a ∧ a < SEC.MR i.val 0 + 48) u t ∧ Only [.regs] u t) ∧
      ((s.activeSlot x.val = slot.val ∧ (s.tenSt x.val = .active ∨ s.tenSt x.val = .moving)) ∨
        s.getF (CYC.XCHG_XSTATE x.val) ≠ 0 → Completes s (.tdigWrite who x slot) fun t => t.getF SEC.TDIG_RES_CODE = 2 ∧
          RegsBut (fun a => a = SEC.TDIG_RES) u t ∧ Only [.regs] u t) ∧
      (s.activeSlot x.val ≠ slot.val ∨ (s.tenSt x.val ≠ .active ∧ s.tenSt x.val ≠ .moving) →
        s.getF (CYC.XCHG_XSTATE x.val) = 0 → Completes s (.tdigWrite who x slot) fun t => t.getF SEC.TDIG_RES_CODE = 0 ∧
          t.tdigBytes x.val slot.val = s.xBytes 0 12 ∧
          (∀ y (z : Fin 2), y ≠ x.val ∨ z ≠ slot → t.tdigBytes y z.val = s.tdigBytes y z.val) ∧
          RegsBut (fun a => a = SEC.TDIG_RES) u t ∧ Only [.regs, .sec] u t) ∧
      (Completes s (.tdigRead who x slot) fun t => t.xBytes 0 12 = s.tdigBytes x.val slot.val ∧ t.getF SEC.TDIG_RES_CODE = 0 ∧
        RegsBut (fun a => a = SEC.TDIG_RES ∨ (SEC.X_D 0 ≤ a ∧ a < SEC.X_D 12)) u t ∧ Only [.regs] u t)) ∧
    (s.sec.keyRun = none → ∀ good, Completes s (.keyCommit good) fun t => t = s) ∧
    (∀ r, s.sec.keyRun = some r → (Completes s (.keyCommit true) fun t => t.keySlot r.slot = r.new ∧ t.sec.keyRun = none ∧
        t.sec.keyD = [] ∧ (∀ m, m ≠ r.slot → t.keySlot m = s.keySlot m) ∧ t.getF SEC.KEY_RES_CODE = 0 ∧
        RegsBut (fun a => a = SEC.KEY_RES) s t ∧ Only [.regs, .sec] s t) ∧
      (Completes s (.keyCommit false) fun t => t.sec = { s.sec with keyRun := none, keyD := [] } ∧ t.getF SEC.KEY_RES_CODE = 4 ∧
        RegsBut (fun a => a = SEC.KEY_RES) s t ∧ Only [.regs, .sec] s t)) ∧
    (smapWf (fun _ => {}) s.sec.slots = true → Completes s .keyExpire fun t => RegsBut (fun a => a = SEC.STATUS) s t ∧
      Only [.regs, .sec] s t ∧ t.sec = { s.sec with slots := t.sec.slots } ∧
      (∀ m, t.keySlot m = if (s.keySlot m).expiry ≠ 0 ∧ tickReached s.tab.tickNum (s.keySlot m).expiry = true then
        { s.keySlot m with expired := true } else s.keySlot m) ∧
      (∀ m, (s.keySlot m).expired = false → (s.keySlot m).expiry ≠ 0 → tickReached s.tab.tickNum (s.keySlot m).expiry = true →
        t.flag SEC.STATUS_KEY_EXPIRED = true)) ∧
    (Completes s .zeroiseDone fun t => (s.sec.zeroising = false → t = s) ∧ (s.sec.zeroising = true →
      t.flag SEC.STATUS_ZERO_DONE = true ∧ t.sec = { s.sec with zeroising := false } ∧
      RegsBut (fun a => a = SEC.STATUS) s t ∧ Only [.regs, .sec] s t)) ∧
    (∀ (m : Nat) (y : KeyUser), s.keyUsable m y = true ↔ s.keysReachable = true ∧ (s.keySlot m).valid = true ∧
      (s.keySlot m).expired = false ∧ (match y with
        | .tx o => (s.keySlot m).usage.testBit 0 = true ∧ (s.keySlot m).owned = true ∧ (s.keySlot m).owner = o ∧ (s.keySlot m).alg ≤ 2
        | .rx => (s.keySlot m).usage.testBit 1 = true ∧ (s.keySlot m).owned = false ∧ (s.keySlot m).alg ≤ 2
        | .supHmac => (s.keySlot m).usage.testBit 2 = true ∧ (s.keySlot m).owned = false ∧ (s.keySlot m).alg = 0
        | .supSign => (s.keySlot m).usage.testBit 2 = true ∧ (s.keySlot m).owned = false ∧ (s.keySlot m).alg = 3))

/-- R22, R707, R708, R709, R710, R711, R712, R722, R723, R724: the engine's operations, the life-cycle commands and Ensign statements.
What of it is the model's own reading or choice: log entries 106, 108 and 109. -/
def Obligations.EngineLifeCycleAndEnsignFollowTheirTables : Prop :=
  ∀ (s : State) (who : Requester) (k : Fin 4) (n : Fin 8192) (u : State), s.awake = true → who = .sup k → u = s.unhold who →
    (s.kernel who = true →
      (∀ c ∈ [Instr.engHmacInit who n, .engHmacFinal who 0, .engSign256 who n, .engVerify256 who, .engVerify384 who],
        (s.sec.eng ≠ none → Completes s c fun t => t = u) ∧
        (s.sec.eng = none → s.sec.lcRun ≠ none → Completes s c fun t => t.getF SEC.ENG_RES_CODE = 2 ∧
          RegsBut (fun a => a = SEC.ENG_RES) u t ∧ Only [.regs] u t)) ∧
      (s.sec.eng = none → s.sec.lcRun = none →
        (Completes s (.engHmacInit who n) fun t => Only [.sec] u t ∧
          (s.keyUsable n.val .supHmac = true → t.sec = { s.sec with hmac := some (leBytes 32 (s.keySlot n.val).key, []), eng := some ⟨0, []⟩ }) ∧
          (s.keyUsable n.val .supHmac = false → t.sec = { s.sec with eng := some ⟨2, []⟩ })) ∧
        (∀ d : Fin 4, (s.sec.hmac = none → Completes s (.engHmacFinal who d) fun t =>
            t.sec = { s.sec with eng := some ⟨4, []⟩ } ∧ Only [.sec] u t) ∧
          (∀ key msg, s.sec.hmac = some (key, msg) → Completes s (.engHmacFinal who d) fun t => Only [.sec] u t ∧
            t.sec.hmac = none ∧ ∃ ws, t.sec.eng = some ⟨0, ws⟩ ∧
              wordBytes ws = hmac256 key (msg.take (msg.length - d.val)))) ∧
        (Completes s (.engSign256 who n) fun t => Only [.sec, .free] u t ∧
          (s.keyUsable n.val .supSign = false → t.sec = { s.sec with eng := some ⟨2, []⟩ }) ∧
          (s.keyUsable n.val .supSign = true → ∃ e ws, 1 ≤ e ∧ e < p256.n ∧ t.sec = { s.sec with eng := some ⟨0, ws⟩ } ∧
            wordBytes ws = beBytes 32 (ecdsaSign p256 (keyInt (s.keySlot n.val).key) e (ofBe (s.xBytes 0 8))).1 ++
              beBytes 32 (ecdsaSign p256 (keyInt (s.keySlot n.val).key) e (ofBe (s.xBytes 0 8))).2)) ∧
        (Completes s (.engVerify256 who) fun t => Only [.sec] u t ∧ t.sec = { s.sec with eng := some ⟨(if ecdsaVerify p256
          (ofBe (s.xBytes 12 8)) (ofBe (s.xBytes 20 8)) (ofBe (s.xBytes 0 8)) (ofBe (s.xBytes 36 8)) (ofBe (s.xBytes 44 8))
          then 0 else 3), []⟩ }) ∧
        (Completes s (.engVerify384 who) fun t => Only [.sec] u t ∧ t.sec = { s.sec with eng := some ⟨(if ecdsaVerify p384
          (ofBe (s.xBytes 12 12)) (ofBe (s.xBytes 24 12)) (ofBe (s.xBytes 0 12)) (ofBe (s.xBytes 36 12)) (ofBe (s.xBytes 48 12))
          then 0 else 3), []⟩ })) ∧
      (∀ v : Word, Completes s (.engDin who v) fun t => Only [.sec] u t ∧
        t.sec = { s.sec with hmac := s.sec.hmac.map fun h => (h.1, h.2 ++ leBytes 4 v.toNat) }) ∧
      (s.sec.ens = none → s.sec.lcRun = none → Completes s (.ensignGo who) fun t => Only [.sec] u t ∧ ∃ r,
        t.sec = { s.sec with ens := some r } ∧ r.mono = min (s.rd SEC.MONO + 1) (2 ^ 64 - 1) ∧ r.body.length = 896 ∧
        r.body.take 4 = [0x45, 0x4E, 0x53, 0x47] ∧ (r.body.drop 32).take 8 = beBytes 8 r.mono ∧
        (r.body.drop 24).take 4 = beBytes 4 s.lcWord ∧ (r.body.drop 80).take 48 = s.aggregate) ∧
      (s.sec.ens ≠ none → Completes s (.ensignGo who) fun t => t = u) ∧
      (s.sec.ens = none → s.sec.lcRun ≠ none → Completes s (.ensignGo who) fun t => t.getF SEC.ENS_RES_CODE = 2 ∧
        RegsBut (fun a => a = SEC.ENS_RES) u t ∧ Only [.regs] u t)) ∧
    (Completes s .engComplete fun t => (s.sec.eng = none → t = s) ∧ (∀ r, s.sec.eng = some r → r.code < 8 → r.words.length ≤ 16 →
      t.sec = { s.sec with eng := none } ∧ t.getF SEC.ENG_RES_CODE = r.code ∧ t.flag SEC.STATUS_ENG_DONE = true ∧
      (∀ i w, r.words[i]? = some w → t.rd (SEC.X_D i) = w % 2 ^ 64) ∧
      RegsBut (fun a => a = SEC.ENG_RES ∨ a = SEC.STATUS ∨ (SEC.X_D 0 ≤ a ∧ a < SEC.X_D 64)) s t ∧ Only [.regs, .sec] s t)) ∧
    (s.kernel who = true → s.platform who = false → ∀ key, ∀ c ∈ [Instr.lcProvision who key, .lcOwnerRoot who key, .lcField who key,
      .lcRma who key, .lcScrap who key, .lcRelock who key, .lcChallenge who key], Completes s c fun t =>
        t.flag SEC.STATUS_LEVEL_REFUSED = true ∧ RegsBut (fun a => a = SEC.STATUS ∨ a = SEC.LC_RES) u t ∧ Only [.regs] u t) ∧
    (s.platform who = true →
      (∀ key : BitVec 16, key ≠ 0x4C43 ∨ s.sec.lcRun ≠ none → ∀ c ∈ [Instr.lcProvision who key, .lcOwnerRoot who key,
        .lcField who key, .lcRma who key, .lcScrap who key, .lcRelock who key, .lcChallenge who key], Completes s c fun t =>
          t.getF SEC.LC_RES_CODE = 2 ∧ t.flag SEC.STATUS_LC_REFUSED = true ∧
          RegsBut (fun a => a = SEC.STATUS ∨ a = SEC.LC_RES) u t ∧ Only [.regs] u t) ∧
      (s.sec.lcRun = none →
        (∀ (c : Instr) (op : LcOp) (ok : Bool),
          (c = .lcProvision who 0x4C43 ∧ op = .provision ∧ ok = decide (s.getF SEC.LC_STATE = 0)) ∨
          (c = .lcField who 0x4C43 ∧ op = .field ∧ ok = (decide (s.getF SEC.LC_STATE = 1) && s.flag SEC.LC_OWNER_SET)) ∨
          (c = .lcScrap who 0x4C43 ∧ op = .scrap ∧ ok = true) →
          (ok = true → Completes s c fun t => t.sec = { s.sec with lcRun := some ⟨op, 0⟩ } ∧ t.getF SEC.LC_RES_CODE = 0 ∧
            RegsBut (fun a => a = SEC.LC_RES) u t ∧ Only [.regs, .sec] u t) ∧
          (ok = false → Completes s c fun t => t.getF SEC.LC_RES_CODE = 3 ∧ t.flag SEC.STATUS_LC_REFUSED = true ∧
            RegsBut (fun a => a = SEC.STATUS ∨ a = SEC.LC_RES) u t ∧ Only [.regs] u t)) ∧
        (s.secBusy = false → s.getF SEC.LC_STATE = 1 → s.flag SEC.LC_OWNER_SET = false →
          Completes s (.lcOwnerRoot who 0x4C43) fun t => t.sec = { s.sec with ownerRoot := s.keyData } ∧
            t.flag SEC.LC_OWNER_SET = true ∧ t.getF SEC.LC_STATE = 1 ∧
            RegsBut (fun a => a = SEC.LC ∨ a = SEC.LC_RES) u t ∧ Only [.regs, .sec] u t) ∧
        (s.getF SEC.LC_STATE ≠ 1 ∨ s.flag SEC.LC_OWNER_SET = true → Completes s (.lcOwnerRoot who 0x4C43) fun t =>
          t.getF SEC.LC_RES_CODE = 3 ∧ t.flag SEC.STATUS_LC_REFUSED = true ∧ Only [.regs] u t) ∧
        (s.secBusy = false → s.getF SEC.LC_STATE = 2 → s.flag SEC.LC_UNLOCKED = true → Completes s (.lcRelock who 0x4C43) fun t =>
          t.flag SEC.LC_UNLOCKED = false ∧ t.flag SEC.LC_FIELDKEYS = s.flag SEC.LC_FIELDKEYS ∧ t.getF SEC.LC_STATE = 2 ∧
          RegsBut (fun a => a = SEC.LC ∨ a = SEC.LC_RES) s t ∧ t.sec = s.sec ∧ Only [.regs, .sec] u t) ∧
        (s.getF SEC.LC_STATE ≠ 2 ∨ s.flag SEC.LC_UNLOCKED = false → Completes s (.lcRelock who 0x4C43) fun t =>
          t.getF SEC.LC_RES_CODE = 3 ∧ t.flag SEC.STATUS_LC_REFUSED = true ∧ Only [.regs] u t) ∧
        (s.secBusy = false → Completes s (.lcChallenge who 0x4C43) fun t => ∃ c, t.sec = { s.sec with challenge := some c } ∧
          t.xBytes 0 8 = leBytes 32 c ∧ Only [.regs, .sec, .free] u t) ∧
        (s.secBusy = true → Completes s (.lcChallenge who 0x4C43) fun t =>
          t.sec = { s.sec with lcRun := some ⟨.challenge, 0⟩ } ∧ Only [.regs, .sec] u t) ∧
        (2 < s.getF SEC.LC_STATE → Completes s (.lcRma who 0x4C43) fun t => t.getF SEC.LC_RES_CODE = 3 ∧ Only [.regs] u t) ∧
        (s.getF SEC.LC_STATE ≤ 2 → s.flag SEC.LC_OWNER_SET = false → Completes s (.lcRma who 0x4C43) fun t =>
          t.sec = { s.sec with lcRun := some ⟨.rma, 0⟩ } ∧ Only [.regs, .sec] u t) ∧
        (s.getF SEC.LC_STATE ≤ 2 → s.flag SEC.LC_OWNER_SET = true → Completes s (.lcRma who 0x4C43) fun t => t.sec.challenge = none ∧
          ((∃ c, s.sec.challenge = some c ∧ s.xBytes 0 8 = s.rmaToken c) → t.sec.lcRun = some ⟨.rma, 0⟩) ∧
          ((∀ c, s.sec.challenge = some c → s.xBytes 0 8 ≠ s.rmaToken c) → t.getF SEC.LC_RES_CODE = 4 ∧
            t.sec = { s.sec with challenge := none } ∧ t.flag SEC.STATUS_LC_REFUSED = true)))) ∧
    (Completes s (.ensignDone false) fun t => (s.sec.ens = none → t = s) ∧ (s.sec.ens ≠ none → t.getF SEC.ENS_RES_CODE = 2 ∧
      t.sec = { s.sec with ens := none } ∧ t.rd SEC.MONO = s.rd SEC.MONO ∧ Only [.regs, .sec] s t)) ∧
    (∀ r, s.sec.ens = some r → r.body.length = 896 → Completes s (.ensignDone true) fun t => t.rd SEC.MONO = r.mono % 2 ^ 64 ∧
      t.getF SEC.ENS_RES_CODE = 0 ∧ t.flag SEC.STATUS_ENS_DONE = true ∧ t.sec = { s.sec with ens := none } ∧
      (wordBytes ((List.range 248).map fun i => t.rd (SEC.ENS_BUF i))).take 896 = r.body ∧
      (∃ e, 1 ≤ e ∧ e < p384.n ∧ (wordBytes ((List.range 248).map fun i => t.rd (SEC.ENS_BUF i))).drop 896 =
        beBytes 48 (ecdsaSign p384 r.key e (ofBe (sha384 r.body))).1 ++ beBytes 48 (ecdsaSign p384 r.key e (ofBe (sha384 r.body))).2) ∧
      RegsBut (inSlot 12) s t ∧ Only [.regs, .sec, .free] s t)

/-- R22, R728, R730, R731, R732, R734, R737, R746, R754, R756, R773: the reset kinds: what each returns, what it keeps and where it
leaves the module. Among the effects named, only the fields are R732's; which parts beside the register file a CLR empties follows
R731. What of it is the model's own reading or choice: log entries 10, 110, 111 and 119. -/
def Obligations.ResetsReturnAndKeepWhatTheirTableSays : Prop :=
  ∀ s : State, Canonical s → s.sec.keyRun = none → s.sec.ens = none → s.sys.nvs = none →
    ((s.sys.power = .run ∨ s.sys.power = .lull ∨ s.sys.power = .calm → Completes s .pin (HeldBy s 1)) ∧
      (s.sys.power = .held → Completes s .pin fun t => CauseSet s 1 t ∧ RegsBut (fun a => a = SYS.RST_CAUSE) s t ∧ Only [.regs] s t)) ∧
    (s.awake = true →
      Completes s (.debugReset 0x4442) (HeldBy s 4) ∧
      (∀ key : BitVec 16, key ≠ 0x4442 → Completes s (.debugReset key) fun t => t = s) ∧
      (s.flag SYS.WDT_CFG_EN = true → s.wdFrozen = false → Completes s .wdtExpire (HeldBy s 2)) ∧
      (s.flag SYS.WDT_CFG_EN = false ∨ s.wdFrozen = true → Completes s .wdtExpire fun t => t = s) ∧
      ∀ who u, s.regReach who = true → u = s.unhold who →
        (∀ c ∈ [Instr.ssr who 0x5253, .resetClr who 0x5253], s.platform who = false → Completes s c fun t =>
          t.flag SYS.STATUS_LEVEL_REFUSED = true ∧ RegsBut (fun a => a = SYS.STATUS) u t ∧ Only [.regs] u t) ∧
        (∀ key : BitVec 16, key ≠ 0x5253 → s.platform who = true →
          ∀ c ∈ [Instr.ssr who key, .resetClr who key], Completes s c fun t => t = u) ∧
        (s.platform who = true → Completes s (.ssr who 0x5253) (HeldBy s 3) ∧
          Completes s (.resetClr who 0x5253) fun t =>
            (∀ n ∈ s.validTenants, s.tenSt n ≠ .empty → t.tenSt n = .stopped) ∧
            t.cyc.cores = [] ∧ t.cyc.waiters = [] ∧ t.cyc.wdHalt = false ∧
            FieldsAtReset [.c, .t] (fun a => ∃ n, a = CYC.TSTATE n) t) ∧
        (∀ v : Word, (s.flag SYS.WDT_CFG_EN = false → Completes s (.wdtKick who v) fun t => t = u) ∧
          (s.flag SYS.WDT_CFG_EN = true →
            (s.sys.wdKick = .idle → v.toNat % 65536 = 0x6B6B → Completes s (.wdtKick who v) fun t =>
              t.sys = { s.sys with wdKick := .first } ∧ Only [.sys] u t) ∧
            (s.sys.wdKick = .first → v.toNat % 65536 = 0xB6B6 → Completes s (.wdtKick who v) fun t => t.sys = { s.sys with
              wdKick := .idle, wdLeft := s.getF SYS.WDT_CFG_TIMEOUT * msScale,
              wdSince := if s.wdFrozen then none else some s.tab.mono } ∧ Only [.sys] u t) ∧
            ((s.sys.wdKick = .idle ∧ v.toNat % 65536 ≠ 0x6B6B) ∨ (s.sys.wdKick = .first ∧ v.toNat % 65536 ≠ 0xB6B6) →
              Completes s (.wdtKick who v) (HeldBy s 2))))) ∧
    (∀ damaged, (s.sys.power = .held → s.sys.porHeld = true → Completes s (.por damaged) fun t => t = s) ∧
      (s.sys.power ≠ .held ∨ s.sys.porHeld = false → Completes s (.por damaged) fun t =>
        t.sys = { SysState.reset with power := .held, porHeld := true, nvsWritten := s.sys.nvsWritten } ∧ t.tab = TabState.reset ∧ t.pcx = PcxState.reset ∧
        t.swc = SwcState.reset ∧ t.rde = RdeState.reset ∧ t.svc = SvcState.reset ∧ t.cyc = CycState.reset ∧ t.pub = PubBlock.reset ∧
        t.cap = CapState.reset ∧ t.dmv = DmvState.reset ∧ t.sup = SupState.reset ∧ t.dbg = DbgState.reset ∧ t.mc = MemCtl.reset ∧
        FieldsAtReset [.s, .c, .t, .l, .p] (fun a => a = SEC.STATUS ∨ a = SEC.LC) t ∧ FieldsKept [.s, .c, .t, .l, .p] (fun _ => False) s t ∧
        t.flag SEC.LC_FIELDKEYS = (decide (s.getF SEC.LC_STATE = 2) && !s.flag SEC.LC_UNLOCKED) ∧
        (damaged ≠ [] → t.flag SEC.STATUS_NVS_ERR = true) ∧
        (∀ n, t.keySlot n = if n ∈ damaged.map (·.val) then { s.keySlot n with valid := false } else s.keySlot n) ∧
        t.sec.ownerRoot = s.sec.ownerRoot ∧ t.sec.fieldRoot = s.sec.fieldRoot ∧
        (∀ a, t.readByte a = if physRegion a = some .readOnly then s.readByte a else memDefault a))) ∧
    ((s.sys.power ≠ .held → Completes s .resetRelease fun t => t = s) ∧
      (s.sys.power = .held → Completes s .resetRelease fun t => t.sys.power = .run ∧ t.sys.porHeld = false ∧ t.sup = s.sup ∧ t.mem = s.mem ∧
        t.flag MEM.STATE_SRAM_RDY = s.mc.sramInit ∧ t.flag MEM.STATE_DRAM_RDY = s.mc.dramInit ∧
        (s.flag DBG.CTL_HALTRST = false → RegsBut (fun a => a = MEM.STATE) s t ∧ Only [.regs, .tab, .sys] s t) ∧
        (s.flag DBG.CTL_HALTRST = true → (∀ n, n < 65 → t.halted n = true ∧ t.getF (DBG.NSTATE_CAUSE n) = 6) ∧
          t.flag DBG.STATUS_HALT = true ∧ (∀ n, n < 64 → t.flag (CYC.CSTATUS_HALTED n) = true) ∧ Only [.regs, .tab, .sys] s t))) ∧
    (s.awake = true → ∀ good,
      (s.sec.lcRun = none ∨ s.secBusy = true → Completes s (.lcComplete good) fun t => t = s) ∧
      (∀ r, s.sec.lcRun = some r → s.secBusy = false →
        (good = false → Completes s (.lcComplete good) fun t => t.sec = { s.sec with lcRun := none } ∧
          t.getF SEC.LC_RES_CODE = 5 ∧ t.flag SEC.STATUS_LC_REFUSED = true ∧ t.getF SEC.LC_STATE = s.getF SEC.LC_STATE ∧
          RegsBut (fun a => a = SEC.STATUS ∨ a = SEC.LC_RES) s t ∧ Only [.regs, .sec] s t) ∧
        (good = true → r.op.recorded = true → Completes s (.lcComplete good) fun t =>
          t.sys.power = .held ∧ t.sys.porHeld = false ∧ CauseSet s 5 t ∧ t.flag DBG.AUTH_SET = false ∧ t.sec.lcRun = none ∧
          FieldsAtReset [.s, .c, .t, .l] (fun a => a = SYS.RST_CAUSE) t ∧
          t.getF SEC.LC_STATE = (match r.op with
            | .provision => 1 | .field => 2 | .rma => 3 | .scrap => 4 | _ => s.getF SEC.LC_STATE) ∧
          (r.op = .field → t.flag SEC.LC_FIELDKEYS = true) ∧
          (r.op = .rma ∨ r.op = .scrap → (∀ n, t.keySlot n = {}) ∧ t.sec.ownerRoot = 0 ∧ t.sec.fieldRoot = 0) ∧
          (r.op ≠ .scrap → t.mem = s.mem) ∧
          (r.op = .scrap → ∀ a, t.readByte a = if 0x2000000000 ≤ a ∧ a < 0x2040000000 then memDefault a else s.readByte a)) ∧
        (good = true → r.op = .ownerRoot → Completes s (.lcComplete good) fun t => t.sec = { s.sec with lcRun := none, ownerRoot := r.value } ∧
          t.flag SEC.LC_OWNER_SET = true ∧ RegsBut (fun a => a = SEC.LC) s t ∧ Only [.regs, .sec] s t) ∧
        (good = true → r.op = .relock → Completes s (.lcComplete good) fun t => t.sec = { s.sec with lcRun := none } ∧
          t.flag SEC.LC_UNLOCKED = false ∧ RegsBut (fun a => a = SEC.LC) s t ∧ Only [.regs, .sec] s t)))

/-- R22, R46, R737, R738, R739, R740, R742, R743, R744, R746, R749, R754, R758, R788, R797: power states, wake, the watchdog's other
events, the boot ROM, the NVS controller and the supplies. What of it is the model's own reading or choice: log entries 112, 113,
114, 115, 116 and 117. -/
def Obligations.PowerStatesBootAndNvsFollowTheirRules : Prop :=
  ∀ s : State, Canonical s → s.sec.keyRun = none → s.sec.ens = none →
    (s.awake = true → ∀ who u, s.regReach who = true → u = s.unhold who →
      (s.platform who = false → (∀ c ∈ [Instr.pwrLull who 0x5057, .pwrRun who 0x5057, .pwrCalm who 0x5057, .wdtEnable who 0, .coreRelease who 0],
        Completes s c fun t => t.flag SYS.STATUS_LEVEL_REFUSED = true ∧ RegsBut (fun a => a = SYS.STATUS) u t ∧ Only [.regs] u t)) ∧
      (s.platform who = true →
        (∀ key : BitVec 16, key ≠ 0x5057 → ∀ c ∈ [Instr.pwrLull who key, .pwrRun who key, .pwrCalm who key], Completes s c fun t => t = u) ∧
        (s.sys.entering = true ∨ s.flag CYC.CTL_EN = true ∨
            (∃ n ∈ s.validTenants, s.tenSt n = .active ∨ s.tenSt n = .moving ∨ s.tenSt n = .resetting) →
          Completes s (.pwrLull who 0x5057) fun t => t.flag SYS.STATUS_PWR_REFUSED = true ∧
            RegsBut (fun a => a = SYS.STATUS) u t ∧ Only [.regs] u t) ∧
        (s.sys.power = .run → s.sys.entering = false → s.flag CYC.CTL_EN = false →
            (∀ n ∈ s.validTenants, s.tenSt n ≠ .active ∧ s.tenSt n ≠ .moving ∧ s.tenSt n ≠ .resetting) →
          Completes s (.pwrLull who 0x5057) fun t => t.sys = { s.sys with power := .lull } ∧ t.getF SYS.PWR_STATE_STATE = 1 ∧
            (∀ st, st < 2048 → s.flag (SVC.STRCFG_EN st) = true → t.streamSt st = .lost) ∧
            RegsBut (fun a => a = SYS.PWR_STATE ∨ inSlot 5 a ∨ inSlot 8 a) u t ∧ Only [.regs, .cap, .sys] u t) ∧
        (s.sys.power ≠ .lull ∨ s.sys.entering = true → Completes s (.pwrRun who 0x5057) fun t =>
          t.flag SYS.STATUS_PWR_REFUSED = true ∧ RegsBut (fun a => a = SYS.STATUS) u t ∧ Only [.regs] u t) ∧
        (s.sys.power = .lull → s.sys.entering = false → Completes s (.pwrRun who 0x5057) fun t =>
          ∃ x, t = s.sys.gated.foldl (fun v w => v.gatedWrite w.1 w.2) x ∧ x.sys = { s.sys with power := .run, gated := [] } ∧
            x.getF SYS.PWR_STATE_STATE = 0 ∧ RegsBut (fun a => a = SYS.PWR_STATE) u x ∧ Only [.regs, .sys] u x) ∧
        (s.sys.entering = true → Completes s (.pwrCalm who 0x5057) fun t => t.flag SYS.STATUS_PWR_REFUSED = true ∧
          RegsBut (fun a => a = SYS.STATUS) u t ∧ Only [.regs] u t) ∧
        (s.sys.entering = false → Completes s (.pwrCalm who 0x5057) fun t => t.sys = { s.sys with entering := true, wake := false } ∧
          t.getF SYS.PWR_STATE_STATE = 2 ∧ RegsBut (fun a => a = SYS.PWR_STATE) u t ∧ Only [.regs, .sys] u t) ∧
        (∀ v : Word, Completes s (.wdtEnable who v) fun t => t.flag SYS.WDT_CFG_EN = true ∧
          (s.flag SYS.WDT_CFG_EN = true → t.sys = s.sys) ∧
          (s.flag SYS.WDT_CFG_EN = false → t.sys = { s.sys with
            wdKick := .idle, wdLeft := t.getF SYS.WDT_CFG_TIMEOUT * msScale,
            wdSince := if s.wdFrozen then none else some s.tab.mono }) ∧
          RegsBut (fun a => a = SYS.WDT_CFG) u t ∧ Only [.regs, .sys] u t) ∧
        (∀ v : Word, Completes s (.coreRelease who v) fun t => t.supc 0 = s.supc 0 ∧
          (∀ c ∈ [1, 2, 3], t.flag ⟨SYS.CORE_REL, c, 1⟩ = ((s.rd SYS.CORE_REL).testBit c || v.toNat.testBit c) ∧
            t.supc c = if (s.rd SYS.CORE_REL).testBit c || v.toNat.testBit c then { s.supc c with running := true } else s.supc c) ∧
          RegsBut (fun a => a = SYS.CORE_REL) u t ∧ Only [.regs, .sup] u t))) ∧
    (s.awake = true →
      (s.sys.entering = false ∨ s.sys.nvs ≠ none ∨ s.sec.lcRun ≠ none ∨ s.sec.eng ≠ none → Completes s .calmEnter fun t => t = s) ∧
      (s.sys.entering = true → s.sys.nvs = none → s.sec.lcRun = none → s.sec.eng = none →
        (s.sys.wake = false → Completes s .calmEnter fun t => t.sys = { s.sys with power := .calm, entering := false, wake := false } ∧
          t.mc = MemCtl.reset ∧ (∀ a, t.readByte a = if physRegion a = some .readOnly then s.readByte a else memDefault a) ∧
          RegsBut (fun a => a = TAB.HO_ELAPSED) s t ∧ Only [.regs, .tab, .mem, .sys, .mc, .free] s t) ∧
        (s.sys.wake = true → Completes s .calmEnter fun t => Awoken s t)) ∧
      (s.flag SYS.WDT_CFG_EN = true → s.wdFrozen = false → Completes s .wdtHalf fun t => t.flag SYS.STATUS_WDT_HALF = true ∧
        RegsBut (fun a => a = SYS.STATUS) s t ∧ Only [.regs, .sys] s t) ∧
      (s.flag SYS.WDT_CFG_EN = false ∨ s.wdFrozen = true → Completes s .wdtHalf fun t => t = s) ∧
      (Completes s .unmapLogClear fun t => t.flag SYS.STATUS_UNMAP = false ∧ t.rd SYS.UNMAP_ADDR = 0 ∧ t.rd SYS.UNMAP_INFO = 0 ∧
        RegsBut (fun a => a = SYS.STATUS ∨ a = SYS.UNMAP_ADDR ∨ a = SYS.UNMAP_INFO) s t ∧ Only [.regs] s t) ∧
      (s.sys.nvs ≠ none → Completes s .nvsRefresh fun t => t = s) ∧
      (s.sys.nvs = none → Completes s .nvsRefresh fun t => s.sys.nvsWritten ≤ t.sys.nvsWritten ∧
        t.sys.nvsWritten % 4096 = s.sys.nvsWritten % 4096 ∧
        t.sys = { s.sys with nvsWritten := t.sys.nvsWritten } ∧ Only [.sys, .free] s t) ∧
      s.view SUP.NVS_WEAR = min 255 (s.sys.nvsWritten * 100 / (30000 * 2 ^ 30))) ∧
    (s.sys.nvs = none → (∀ rising, s.flag ⟨SYS.WAKE_CFG, (if rising then 0 else 1), 1⟩ = true →
        (s.sys.power = .calm → Completes s (.wakeGpio rising) (Awoken s)) ∧
        (s.sys.power ≠ .calm → s.sys.entering = true → Completes s (.wakeGpio rising) fun t => t.sys = { s.sys with wake := true } ∧ Only [.sys] s t) ∧
        (s.sys.power ≠ .calm → s.sys.entering = false → Completes s (.wakeGpio rising) fun t => t = s)) ∧
      (∀ rising, s.flag ⟨SYS.WAKE_CFG, (if rising then 0 else 1), 1⟩ = false → Completes s (.wakeGpio rising) fun t => t = s) ∧
      (s.flag SYS.WAKE_CFG_TIMER_EN = false → Completes s .wakeTimer fun t => t = s) ∧
      (s.flag SYS.WAKE_CFG_TIMER_EN = true → s.sys.power = .calm → Completes s .wakeTimer (Awoken s))) ∧
    (s.awake = true → ∀ who u, s.regReach who = true → u = s.unhold who →
      (∀ c ∈ [Instr.nvsWrite who, .nvsErase who, .nvsBkd who 0, .nvsBkd who 1, .nvsBkd who 2, .nvsBkd who 3],
        (s.sys.nvs ≠ none → Completes s c fun t => t = u) ∧
        (s.sys.nvs = none → s.platform who = false → Completes s c fun t => t.getF SUP.NVS_RES_CODE = 1 ∧
          RegsBut (fun a => a = SUP.NVS_RES) u t ∧ Only [.regs] u t)) ∧
      (s.sys.nvs = none → s.platform who = true →
        (∀ (c : Instr) (op : NvsOp), (c = .nvsWrite who ∧ op = .write) ∨ (c = .nvsErase who ∧ op = .erase) →
          (s.getF SUP.NVS_ADDR_ADDR % 4096 ≠ 0 ∨ s.getF SUP.NVS_LEN_LEN % 4096 ≠ 0 ∨
              2 ^ 30 < s.getF SUP.NVS_ADDR_ADDR + s.getF SUP.NVS_LEN_LEN → Completes s c fun t => t.getF SUP.NVS_RES_CODE = 2 ∧
            RegsBut (fun a => a = SUP.NVS_RES) u t ∧ Only [.regs] u t) ∧
          (s.getF SUP.NVS_ADDR_ADDR % 4096 = 0 → s.getF SUP.NVS_LEN_LEN % 4096 = 0 →
              s.getF SUP.NVS_ADDR_ADDR + s.getF SUP.NVS_LEN_LEN ≤ 2 ^ 30 → Completes s c fun t => t.sys = { s.sys with
                nvs := some ⟨op, s.getF SUP.NVS_ADDR_ADDR, s.getF SUP.NVS_LEN_LEN, s.getF SUP.NVS_SRC_SRC⟩ } ∧
            t.getF SUP.NVS_RES_CODE = 0 ∧ RegsBut (fun a => a = SUP.NVS_RES) u t ∧ Only [.regs, .sys] u t)) ∧
        ∀ k : Fin 4,
          (s.getF SUP.NVS_SRC_SRC % 8 ≠ 0 → Completes s (.nvsBkd who k) fun t => t.getF SUP.NVS_RES_CODE = 2 ∧ Only [.regs] u t) ∧
          (s.getF SUP.NVS_SRC_SRC % 8 = 0 → 1 < s.getF SEC.LC_STATE ∨ (s.getF SUP.BOOTSVN_BKD_SET).testBit k.val = true →
            Completes s (.nvsBkd who k) fun t => t.getF SUP.NVS_RES_CODE = 3 ∧ Only [.regs] u t) ∧
          (s.getF SUP.NVS_SRC_SRC % 8 = 0 → s.getF SEC.LC_STATE ≤ 1 → (s.getF SUP.BOOTSVN_BKD_SET).testBit k.val = false →
            Completes s (.nvsBkd who k) fun t => t.sys = { s.sys with
              nvs := some ⟨.bkd k.val, s.getF SUP.NVS_ADDR_ADDR, s.getF SUP.NVS_LEN_LEN, s.getF SUP.NVS_SRC_SRC⟩ } ∧
              t.getF SUP.NVS_RES_CODE = 0 ∧ RegsBut (fun a => a = SUP.NVS_RES) u t ∧ Only [.regs, .sys] u t))) ∧
    (s.awake = true → (s.sys.nvs = none → ∀ good, Completes s (.nvsCmdDone good) fun t => t = s) ∧
      (∀ r u b, s.sys.nvs = some r → ({ s with sys := { s.sys with nvs := none } } : State).nvsBytes r = (u, some b) →
        (Completes s (.nvsCmdDone true) fun t => t.sys.nvs = none ∧ t.sys.nvsWritten = s.sys.nvsWritten + r.writes ∧ t.getF SUP.NVS_RES_CODE = 0 ∧ t.flag SUP.STATUS_NVS_DONE = true ∧
          (∀ k, k < 4 → r.op = .bkd k → b.length = 48 → t.flag ⟨SUP.BOOTSVN, 16 + k, 1⟩ = true ∧
            wordBytes ((List.range 12).map fun w => t.rd (SUP.BKD k w)) = b ∧ t.mem = u.mem) ∧
          ((∀ k, r.op ≠ .bkd k) → t.readBytes (nvsBase + r.addr) b.length = b ∧
            ∀ a, a < nvsBase + r.addr ∨ nvsBase + r.addr + b.length ≤ a → t.readByte a = u.readByte a)) ∧
        (Completes s (.nvsCmdDone false) fun t => t.sys.nvs = none ∧ t.getF SUP.NVS_RES_CODE = 4 ∧ t.flag SUP.STATUS_NVS_ERR = true)) ∧
      (∀ r u, s.sys.nvs = some r → ({ s with sys := { s.sys with nvs := none } } : State).nvsBytes r = (u, none) →
        ∀ good, Completes s (.nvsCmdDone good) fun t => t.sys.nvs = none ∧ t.getF SUP.NVS_RES_CODE = 5 ∧
          t.flag SUP.STATUS_NVS_ERR = true ∧ t.mem = u.mem)) ∧
    (s.awake = true → (s.atBoot = false → Completes s .bootRom fun t => t = s) ∧
      (s.atBoot = true → s.sec.lcRun = none → s.sec.rmaZero = false →
        (s.getF SEC.LC_STATE = 4 → Completes s .bootRom fun t => t.getF SYS.BOOT_RESULT = 3 ∧ (t.supc 0).idle = true ∧
          RegsBut (fun a => a = SYS.BOOT) s t ∧ Only [.regs, .sup] s t) ∧
        (s.getF SEC.LC_STATE ≠ 4 → (∀ c ∈ [1, 2], s.readLe (nvsBase + (c - 1) * 0x4000000) 4 ≠ 0x53504E42) → Completes s .bootRom fun t =>
          t.getF SYS.BOOT_RESULT = 2 ∧ (t.supc 0).idle = true ∧ t.flag SYS.WDT_CFG_EN = true ∧
          (s.flag SYS.WDT_CFG_EN = false → t.getF SYS.WDT_CFG_TIMEOUT = 2000) ∧
          (s.scanning = false → t.out = s.out ++ [.uart0 2]) ∧ t.mem = s.mem ∧
          RegsBut (fun a => a = SYS.BOOT ∨ a = SYS.WDT_CFG) s t) ∧
        (s.flag SYS.WDT_CFG_EN = false →
          s.bootWatchdog = ((s.setF SYS.WDT_CFG_TIMEOUT 2000).setF SYS.WDT_CFG_EN 1).wdtRestart) ∧
        (s.getF SEC.LC_STATE ≠ 4 → s.bootWatchdog.bootCopies [1, 2] = .wait → Completes s .bootRom fun t => t = s.bootWatchdog) ∧
        (∀ u e, s.getF SEC.LC_STATE ≠ 4 → s.bootWatchdog.bootCopies [1, 2] = .jump u e →
          Completes s .bootRom fun t => (t.supc 0).regs.pc = BitVec.ofNat 64 e ∧ (t.supc 0).lvl = .platform ∧ (t.supc 0).xen = false ∧
            t.getF SYS.BOOT_RESULT = 1 ∧ t.mem = u.mem))) ∧
    (∀ aon, Completes s (.railOutOfRange aon) fun t => t.sys.aonGood = (s.sys.aonGood && aon) ∧
      (∀ n, s.sys.railOut = some n → t.sys.railOut = some n) ∧ (s.sys.railOut = none → ∃ n, n ≤ 1 ∧ t.sys.railOut = some n) ∧
      Only [.sys, .free] s t)

/-- R22, R760, R761, R762, R763, R764, R765, R766, R768, R771, R772, R775: the test access port, accesses of DBGACC, the unlock of debug,
and halting, resuming and stepping cores. What of it is the model's own reading or choice: log entries 74, 81, 82, 83 and 84. -/
def Obligations.DebugPortScansAccessesUnlocksAndHalts : Prop :=
  ∀ s : State,
    (s.sys.power ≠ .calm → Completes s .tapReset fun t => t.sys = { s.sys with
        tap := .idcode, scan := s.sys.scan.filter fun c => !isControl c } ∧ Only [.sys] s t) ∧
    (s.sys.power = .calm → ∀ c ∈ [Instr.tapReset, .tapIdcode, .tapClamp, .tapHighz, .tapBypass, .dbgChallenge], Completes s c fun t => t = s) ∧
    (s.tapLive = true →
      (∀ (c : Instr) (i : TapInstr), (c = .tapIdcode ∧ i = .idcode) ∨ (c = .tapClamp ∧ i = .clamp) ∨ (c = .tapHighz ∧ i = .highz) ∨
        (c = .tapBypass ∧ i = .bypass) → Completes s c fun t => t.sys = { s.sys with tap := i } ∧ Only [.sys] s t) ∧
      (∀ (f : ScanOp → Instr) (i : TapInstr), (f = Instr.tapSamplePreload ∧ i = .sample) ∨ (f = Instr.tapExtest ∧ i = .extest) →
        (∀ x, Completes s (f (.update x)) fun t => t.sys.tap = i ∧ Only [.sys] s t ∧
          t.sys = { s.sys with tap := i, scan := t.sys.scan } ∧ ∀ c, c ∈ t.sys.scan ↔ c < 126 ∧ x.toNat.testBit c = true) ∧
        (∀ x, Completes s (f (.capture x)) fun t => t.sys.tap = i ∧ Only [.sys] s t ∧
          t.sys = { s.sys with tap := i, captured := t.sys.captured } ∧
          ∀ c, 30 ≤ c → c < 126 → (c ∈ t.sys.captured ↔ x.toNat.testBit c = true))) ∧
      (∀ l : Fin 8, s.sys.tap = .extest ∨ s.sys.tap = .clamp → s.sys.aonGood = true →
        s.safeOutBall l.val = if s.sys.scan.contains (3 + 2 * l.val) then .ofBool (s.sys.scan.contains (2 + 2 * l.val)) else .hiZ) ∧
      (s.scanning = true → ∀ p, s.laneTx p = false)) ∧
    (∀ (c : Instr) (x : DbgAcc) (a : BitVec 40), (c = .dbgRead32 a ∧ x = ⟨false, false, a.toNat, 0⟩) ∨
        (c = .dbgRead64 a ∧ x = ⟨false, true, a.toNat, 0⟩) ∨ (∃ v, c = .dbgWrite32 a v ∧ x = ⟨true, false, a.toNat, v.toNat⟩) ∨
        (∃ v, c = .dbgWrite64 a v ∧ x = ⟨true, true, a.toNat, v.toNat⟩) →
      s.tapLive = true → s.dbg.run = none →
        (s.dbgLock = 3 → Completes s c fun t => t.sys = { s.sys with tap := .bypass } ∧ Only [.sys] s t) ∧
        (s.dbgLock = 1 → Completes s c fun t => t.dbg.status = .locked ∧ t.dbg.run = none ∧ t.sys = { s.sys with tap := .acc } ∧
          Only [.sys, .dbg, .free] s t) ∧
        (s.dbgOpen = true → s.awake = true →
          (a.toNat % x.bytes ≠ 0 → Completes s c fun t => t.dbg.status = .error ∧ Only [.sys, .dbg, .free] s t) ∧
          (a.toNat % x.bytes = 0 → (isDram a.toNat || isSram a.toNat) = true → s.memReady a.toNat = true → s.mc.bad = [] →
              s.mc.inj = none → s.mc.trainFailed = false →
            (x.write = true → Completes s c fun t => t.dbg.status = .ok ∧ t.readLe a.toNat x.bytes = x.data % 256 ^ x.bytes ∧
              (∀ b, b < a.toNat ∨ a.toNat + x.bytes ≤ b → t.readByte b = s.readByte b) ∧ Only [.mem, .sys, .dbg, .free] s t) ∧
            (x.write = false → s.validTenants = [] → Completes s c fun t => t.dbg.status = .ok ∧
              t.dbg.data % 256 ^ x.bytes = s.readLe a.toNat x.bytes ∧ Only [.sys, .dbg, .free] s t)))) ∧
    (s.tapLive = true → (s.awake = false ∨ s.dbgLock ≠ 1 →
        Completes s .dbgChallenge (fun t => t.sys = { s.sys with tap := .bypass } ∧ Only [.sys] s t) ∧
        ∀ r, Completes s (.dbgResponse r) fun t => t.sys = { s.sys with tap := .bypass } ∧ Only [.sys] s t) ∧
      (s.awake = true → s.dbgLock = 1 →
        (s.dbg.holdoff = true → Completes s .dbgChallenge fun t => t.dbg = s.dbg ∧ Only [.sys] s t) ∧
        (s.dbg.holdoff = false → Completes s .dbgChallenge fun t => (∃ x, t.dbg = { s.dbg with chal := some x }) ∧ Only [.sys, .dbg, .free] s t) ∧
        (∀ r : BitVec 256, (s.responseOk r.toNat = true ↔ s.flag DBG.AUTH_SET = true ∧
            s.keyUsable (s.getF DBG.AUTH_SLOT) .supHmac = true ∧ ∃ c, s.dbg.chal = some c ∧
              r.toNat = ofBe (hmac256 (leBytes 32 (s.keySlot (s.getF DBG.AUTH_SLOT)).key) (serialBytes ++ beBytes 32 c))) ∧
          (s.responseOk r.toNat = true → Completes s (.dbgResponse r) fun t => t.flag SEC.LC_UNLOCKED = true ∧
            t.flag SEC.LC_FIELDKEYS = false ∧ t.getF SEC.LC_STATE = s.getF SEC.LC_STATE ∧ t.dbgLock = 2 ∧ t.keysReachable = false ∧
            t.dbg = { s.dbg with chal := none } ∧ RegsBut (fun a => a = SEC.LC) s t ∧ Only [.regs, .sys, .dbg] s t) ∧
          (s.responseOk r.toNat = false → Completes s (.dbgResponse r) fun t => t.flag DBG.STATUS_UNLOCK_FAIL = true ∧
            t.dbg = { s.dbg with chal := none, holdoff := true } ∧ RegsBut (fun a => a = DBG.STATUS) s t ∧ Only [.regs, .sys, .dbg] s t)))) ∧
    (Completes s .dbgChalHoldoffEnd fun t => t.dbg = { s.dbg with holdoff := false } ∧ Only [.dbg] s t) ∧
    (s.awake = true → ∀ n : Fin 68,
      (s.halted n.val = true → Completes s (.dbgHalt n) fun t => t = s) ∧
      (s.halted n.val = false → s.betweenPoints n.val = false → Completes s (.dbgHalt n) (CoreHalted s n.val 1)) ∧
      (s.halted n.val = false → s.betweenPoints n.val = true → Completes s (.dbgHalt n) fun t => n.val ∈ t.dbg.want ∧ Only [.dbg] s t) ∧
      (s.halted n.val = false → Completes s (.dbgResume n) fun t => n.val ∉ t.dbg.want ∧ Only [.dbg] s t) ∧
      (s.halted n.val = true → Completes s (.dbgResume n) fun t => t.halted n.val = false ∧ n.val ∈ t.dbg.pass ∧ n.val ∉ t.dbg.want ∧
        n.val ∉ t.dbg.step ∧ RegsBut (fun a => a = DBG.NSTATE n.val) s t ∧ Only [.regs, .cyc, .sys, .dbg] s t) ∧
      (Completes s (.dbgStep n) fun t => (s.halted n.val = true → n.val ∈ t.dbg.step) ∧ (s.halted n.val = false → t = s) ∧ Only [.dbg] s t) ∧
      (s.halted n.val = true ∨ (n.val < 64 ∧ s.cyc.wdHalt = true) ∨ s.atBreakpoint n.val = false →
        Completes s (.breakpointHit n) fun t => t = s) ∧
      (s.halted n.val = false → (n.val < 64 → s.cyc.wdHalt = false) → s.atBreakpoint n.val = true →
        Completes s (.breakpointHit n) (CoreHalted s n.val 3)) ∧
      ∀ who, s.regReach who = true →
        (s.halted n.val = false → Completes s (.cregAccess who n none) (fun t => (t.port64 who).resp = .data 0 ∧ Only [.ports64] s t) ∧
          ∀ v, Completes s (.cregAccess who n (some v)) fun t => (t.port64 who).resp = .done ∧ Only [.ports64] s t) ∧
        (s.halted n.val = true → 64 ≤ n.val → s.flag (DBG.CREG_SEL_SPACE n.val) = false →
          (∀ g : Fin 32, s.getF (DBG.CREG_SEL_REG n.val) = g.val →
            (Completes s (.cregAccess who n none) fun t =>
              (t.port64 who).resp = .data ((s.supc (n.val - 64)).regs.getG g.val) ∧ Only [.ports64] s t) ∧
            ∀ v : DWord, Completes s (.cregAccess who n (some v)) fun t =>
              (t.supc (n.val - 64)).regs.getG g.val = (if g.val = 0 then 0 else v.toNat) ∧
              (∀ j, j ≠ g.val → (t.supc (n.val - 64)).regs.getG j = (s.supc (n.val - 64)).regs.getG j) ∧
              (∀ c, c ≠ n.val - 64 → t.supc c = s.supc c) ∧ Only [.ports64, .sup] s t))) ∧
    (s.awake = true → ∀ who v u, s.regReach who = true → u = s.unhold who →
      (s.platform who = false ∨ s.flag DBG.AUTH_SET = true → Completes s (.dbgAuthWrite who v) fun t => t = u) ∧
      (s.platform who = true → s.flag DBG.AUTH_SET = false → Completes s (.dbgAuthWrite who v) fun t =>
        t.getF DBG.AUTH_SLOT = v.toNat % 8192 ∧ t.flag DBG.AUTH_SET = true ∧ RegsBut (fun a => a = DBG.AUTH) u t ∧ Only [.regs] u t))

end
end

