-- ==== Sys2Proof/Laws/Crypto.lean ====
section
/-!
SUPPORT. Laws/Crypto.lean: bytes and words stand for one another, and how long a hash is.
-/

namespace Sys2Proof.Machine

@[simp] theorem leBytes_length (n v : Nat) : (leBytes n v).length = n := by
  induction n generalizing v with
  | zero => rfl
  | succ n ih => simp [leBytes, ih]

@[simp] theorem beBytes_length (n v : Nat) : (beBytes n v).length = n := by simp [beBytes]

@[simp] theorem sliceD_length {α : Type} (d : α) (xs : List α) (i n : Nat) : (sliceD d xs i n).length = n := by simp [sliceD]

/-- Bytes in little-endian order are the number's own. -/
theorem leBytes_ofLe (b : List Byte) : leBytes b.length (ofLe b) = b := by
  induction b with
  | nil => rfl
  | cons x xs ih =>
    have hx := x.isLt
    have h : (x.toNat + 256 * ofLe xs) / 256 = ofLe xs := by omega
    simp only [List.length_cons, leBytes, ofLe, h, ih]
    congr 1
    apply BitVec.eq_of_toNat_eq
    simp [BitVec.toNat_ofNat]
    omega

/-- The number of bytes in little-endian order. -/
theorem ofLe_leBytes (n v : Nat) : ofLe (leBytes n v) = v % 256 ^ n := by
  induction n generalizing v with
  | zero => simp [leBytes, ofLe, Nat.mod_one]
  | succ n ih =>
    simp only [leBytes, ofLe, ih, BitVec.toNat_ofNat]
    rw [show (256 : Nat) ^ (n + 1) = 256 * 256 ^ n by ring, Nat.mod_mul]

theorem ofLe_lt (b : List Byte) : ofLe b < 256 ^ b.length := by
  induction b with
  | nil => simp [ofLe]
  | cons x xs ih =>
    have hx := x.isLt
    simp only [ofLe, List.length_cons, pow_succ]
    omega

/-- Network order is little-endian order from the other end. -/
theorem ofBe_eq (b : List Byte) : ofBe b = ofLe b.reverse := by
  have e (l : List Byte) : l.reverse.foldl (fun a x => a * 256 + x.toNat) 0 = ofLe l := by
    induction l with
    | nil => rfl
    | cons x xs ih => simp only [List.reverse_cons, List.foldl_append, ih, List.foldl_cons, List.foldl_nil, ofLe]; omega
  rw [ofBe, ← e b.reverse, List.reverse_reverse]

/-- Whole words of bytes are their bytes. -/
theorem wordBytes_slices (b : List Byte) (k : Nat) (h : b.length = 4 * k) :
    wordBytes ((List.range k).map fun i => ofLe (sliceD 0 b (4 * i) 4)) = b := by
  induction k generalizing b with
  | zero => simp [wordBytes, List.eq_nil_of_length_eq_zero (by simpa using h)]
  | succ k ih =>
    match b, h with
    | x0 :: x1 :: x2 :: x3 :: bs, h =>
      have hl : bs.length = 4 * k := by simp at h; omega
      rw [List.range_succ_eq_map]
      have h0 : sliceD 0 (x0 :: x1 :: x2 :: x3 :: bs) (4 * 0) 4 = [x0, x1, x2, x3] := by simp [sliceD, List.range_succ]
      have hs (i : Nat) : sliceD 0 (x0 :: x1 :: x2 :: x3 :: bs) (4 * (i + 1)) 4 = sliceD 0 bs (4 * i) 4 := by
        simp only [sliceD]
        apply List.map_congr_left
        intro j _
        rw [show 4 * (i + 1) + j = (4 * i + j) + 4 by ring]
        simp
      have hw := ih bs hl
      simp only [wordBytes] at hw
      have h4 := leBytes_ofLe [x0, x1, x2, x3]
      simp only [List.length_cons, List.length_nil] at h4
      simp only [wordBytes, List.map_cons, List.map_map, List.flatMap_cons, h0, h4, Function.comp_def, hs]
      rw [hw]
      rfl

/-! ## Hashes -/

theorem shaRound_length (f : ShaForm) (v : List Nat) (k w : Nat) : (shaRound f v k w).length = v.length := by
  unfold shaRound
  split <;> simp

theorem shaBlock_length (f : ShaForm) (h : List Nat) (b : List Byte) : (shaBlock f h b).length = h.length := by
  have e (l : List (Nat × Nat)) (v : List Nat) : (l.foldl (fun v kw => shaRound f v kw.1 kw.2) v).length = v.length := by
    induction l generalizing v with
    | nil => rfl
    | cons x xs ih => simp [ih, shaRound_length]
  simp [shaBlock, e]

theorem shaBlocks_length (f : ShaForm) (n : Nat) (h : List Nat) (b : List Byte) : (shaBlocks f n h b).length = h.length := by
  induction n generalizing h b with
  | zero => rfl
  | succ n ih => simp [shaBlocks, ih, shaBlock_length]

@[simp] theorem sha256_length (b : List Byte) : (sha256 b).length = 32 := by
  simp [sha256, shaWords, shaBlocks_length, sha256Init, List.length_flatMap]

@[simp] theorem sha384_length (b : List Byte) : (sha384 b).length = 48 := by
  simp [sha384, shaWords, shaBlocks_length, sha384Init, List.length_flatMap]

@[simp] theorem hmac256_length (key msg : List Byte) : (hmac256 key msg).length = 32 := by simp [hmac256, hmacOver]

@[simp] theorem hmac384_length (key msg : List Byte) : (hmac384 key msg).length = 48 := by simp [hmac384, hmacOver]

end Sys2Proof.Machine
end

