-- ==== Sys2Proof/Laws/Events.lean ====
section
/-!
SUPPORT. Laws/Events.lean: what passing time does where nothing, or one thing, falls due.
-/

namespace Sys2Proof.Machine

variable (s : State)

theorem filter_nil_of_le {l : List (Nat × TimeEvent)} {n : Nat} (h : l.filter (fun x => decide (x.1 ≤ n)) = [])
    (p : Nat × TimeEvent → Bool) (hp : ∀ x, p x = true → x.1 ≤ n) : l.filter p = [] := by
  rw [List.filter_eq_nil_iff] at *
  exact fun x hx hpx => h x hx (decide_eq_true (hp x hpx))

/-- Where nothing is due in the present cycle, nothing happens in it. -/
theorem State.fireDue_none (h : s.upcoming.filter (fun x => decide (x.1 ≤ 0)) = []) : s.fireDue = s := by
  unfold State.fireDue
  rw [filter_nil_of_le h _ (fun x hx => by simpa using hx)]
  rfl

/-- A run of no cycles: what is due happens, and no more. -/
theorem State.runFor_zero : s.runFor 0 = s.fireDue := by
  unfold State.runFor State.pass
  rw [show (s.fireDue.upcoming.filter fun e => decide (0 < e.1 ∧ e.1 ≤ 0)) = [] from
    List.filter_eq_nil_iff.2 fun x _ hx => by simp at hx; omega]
  rfl

/-- Where nothing falls due within `n` cycles, they only pass. -/
theorem State.runFor_none {n : Nat} (hn : 0 < n) (h : s.upcoming.filter (fun x => decide (x.1 ≤ n)) = []) :
    s.runFor n = s.advance n := by
  unfold State.runFor
  rw [s.fireDue_none (filter_nil_of_le h _ fun x hx => by simp at hx; omega)]
  unfold State.pass
  rw [filter_nil_of_le h _ fun x hx => by simp at hx; omega]
  simp only [List.map_nil, List.min?_nil]
  rw [if_neg (by omega)]

/-- Where one thing falls due within `n` cycles, at their end, the cycles pass and it happens. -/
theorem State.runFor_only {n : Nat} {e : TimeEvent} (hn : 0 < n)
    (h : s.upcoming.filter (fun x => decide (x.1 ≤ n)) = [(n, e)]) : s.runFor n = (s.advance n).happen e := by
  have hz : s.upcoming.filter (fun x => decide (x.1 ≤ 0)) = [] := by
    rw [List.filter_eq_nil_iff]
    intro x hx h0
    have : x ∈ s.upcoming.filter (fun x => decide (x.1 ≤ n)) := by
      simp at h0; simp [hx, h0]
    rw [h, List.mem_singleton] at this
    subst this; simp at h0; omega
  have he : s.upcoming.filter (fun x => decide (0 < x.1 ∧ x.1 ≤ n)) = [(n, e)] := by
    rw [← h]
    apply List.filter_congr
    intro x hx
    have : x.1 ≠ 0 := fun h0 => by
      rw [List.filter_eq_nil_iff] at hz
      exact hz x hx (by simp [h0])
    simp; omega
  unfold State.runFor
  rw [s.fireDue_none hz]
  unfold State.pass
  simp only [he, List.map_cons, List.map_nil, List.min?_cons, List.min?_nil, Option.elim, Nat.sub_self, List.filter_cons,
    List.filter_nil, decide_true, if_true, List.foldl_cons, List.foldl_nil]
  cases n with
  | zero => omega
  | succ n =>
    unfold State.pass
    rw [show (((s.advance (n + 1)).happen e).upcoming.filter fun e => decide (0 < e.1 ∧ e.1 ≤ 0)) = [] from
      List.filter_eq_nil_iff.2 fun x _ hx => by simp at hx; omega]
    simp

/-- Where one thing is due now, it happens. -/
theorem State.fireDue_only {e : TimeEvent} (h : s.upcoming.filter (fun x => decide (x.1 ≤ 0)) = [(0, e)]) :
    s.fireDue = s.happen e := by
  unfold State.fireDue
  rw [show (s.upcoming.filter fun e => decide (e.1 = 0)) = s.upcoming.filter (fun x => decide (x.1 ≤ 0)) from
    List.filter_congr fun x _ => by simp, h]
  rfl

end Sys2Proof.Machine
end

