-- ==== Sys2Proof/Laws/SMap.lean ====
section
/-!
SUPPORT. Laws/SMap.lean: reading after writing, and the canonical form, of sparse data. The reading laws hold of every list; only
what is said of the form needs the form.
-/

namespace Sys2Proof.Machine

variable {V : Type} [DecidableEq V] {d : Nat → V}

omit [DecidableEq V] in
theorem smapGet_drop_ne (m : SMap V) {k j : Nat} (h : j ≠ k) : smapGet d (smapDrop m k) j = smapGet d m j := by
  induction m with
  | nil => rfl
  | cons p m ih =>
    obtain ⟨a, x⟩ := p
    simp only [smapDrop]
    split
    · simp only [smapGet, ih]; rw [if_neg (by omega)]
    · simp only [smapGet, ih]

omit [DecidableEq V] in
theorem smapGet_drop_self (m : SMap V) (k : Nat) : smapGet d (smapDrop m k) k = d k := by
  induction m with
  | nil => rfl
  | cons p m ih =>
    obtain ⟨a, x⟩ := p
    simp only [smapDrop]
    split
    · exact ih
    · simp only [smapGet]; rw [if_neg (by assumption)]; exact ih

theorem smapGet_cell_ne (m : SMap V) {k j : Nat} (v : V) (h : j ≠ k) :
    smapGet d (smapCell d k v ++ m) j = smapGet d m j := by
  unfold smapCell
  split
  · rfl
  · simp only [List.cons_append, List.nil_append, smapGet]
    rw [if_neg (by omega)]

theorem smapGet_cell_self (m : SMap V) {k : Nat} (v : V) (h : smapGet d m k = d k) :
    smapGet d (smapCell d k v ++ m) k = v := by
  unfold smapCell
  split
  · rw [List.nil_append, h]; exact (by assumption : v = d k).symm
  · simp [smapGet]

/-- A read of the key just written gives the value written. -/
@[simp] theorem smapGet_set_self (m : SMap V) (k : Nat) (v : V) : smapGet d (smapSet d m k v) k = v := by
  induction m with
  | nil => simpa [smapSet] using smapGet_cell_self (d := d) [] v rfl
  | cons p m ih =>
    obtain ⟨a, x⟩ := p
    simp only [smapSet]
    split
    · simp only [smapGet]; rw [if_neg (by omega)]; exact ih
    · split
      · exact smapGet_cell_self _ v (smapGet_drop_self m k)
      · refine smapGet_cell_self _ v ?_
        simp only [smapGet]; rw [if_neg (by assumption)]; exact smapGet_drop_self m k

/-- A write leaves every other key alone. -/
theorem smapGet_set_ne (m : SMap V) {k j : Nat} (v : V) (h : j ≠ k) :
    smapGet d (smapSet d m k v) j = smapGet d m j := by
  induction m with
  | nil => simpa [smapSet] using smapGet_cell_ne (d := d) [] v h
  | cons p m ih =>
    obtain ⟨a, x⟩ := p
    simp only [smapSet]
    split
    · simp only [smapGet, ih]
    · split
      · rw [smapGet_cell_ne _ v h, smapGet_drop_ne _ h]
        simp only [smapGet]; rw [if_neg (by omega)]
      · rw [smapGet_cell_ne _ v h]
        simp only [smapGet, smapGet_drop_ne _ h]

/-- What a key reads as after a write. -/
theorem smapGet_set (m : SMap V) (k j : Nat) (v : V) :
    smapGet d (smapSet d m k v) j = if j = k then v else smapGet d m j := by
  split
  · subst_vars; exact smapGet_set_self m _ v
  · exact smapGet_set_ne m v (by assumption)

@[simp] theorem smapGet_upd_self (m : SMap V) (k : Nat) (f : V → V) :
    smapGet d (smapUpd d m k f) k = f (smapGet d m k) := smapGet_set_self m k _

theorem smapGet_upd_ne (m : SMap V) {k j : Nat} (f : V → V) (h : j ≠ k) :
    smapGet d (smapUpd d m k f) j = smapGet d m j := smapGet_set_ne m _ h

theorem smapWfFrom_mono {lo lo' : Nat} {m : SMap V} (h : lo ≤ lo') (hw : smapWfFrom d lo' m = true) :
    smapWfFrom d lo m = true := by
  cases m with
  | nil => rfl
  | cons p m =>
    simp only [smapWfFrom, Bool.and_eq_true, decide_eq_true_eq] at hw ⊢
    exact ⟨⟨h.trans hw.1.1, hw.1.2⟩, hw.2⟩

theorem smapDrop_wfFrom {lo k : Nat} {m : SMap V} (hw : smapWfFrom d lo m = true) :
    smapWfFrom d lo (smapDrop m k) = true := by
  induction m generalizing lo with
  | nil => rfl
  | cons p m ih =>
    obtain ⟨a, x⟩ := p
    simp only [smapWfFrom, Bool.and_eq_true, decide_eq_true_eq] at hw
    simp only [smapDrop]
    split
    · exact smapWfFrom_mono (by omega) (ih hw.2)
    · simp only [smapWfFrom, Bool.and_eq_true, decide_eq_true_eq]
      exact ⟨hw.1, ih hw.2⟩

theorem smapCell_append_wf {lo k : Nat} {v : V} {m : SMap V} (hk : lo ≤ k)
    (hw : smapWfFrom d (k + 1) m = true) : smapWfFrom d lo (smapCell d k v ++ m) = true := by
  unfold smapCell
  split
  · exact smapWfFrom_mono (by omega) hw
  · simp [smapWfFrom, *]

theorem smapSet_wfFrom {lo : Nat} {m : SMap V} {k : Nat} {v : V} (hw : smapWfFrom d lo m = true)
    (hk : lo ≤ k) : smapWfFrom d lo (smapSet d m k v) = true := by
  induction m generalizing lo with
  | nil =>
    have := smapCell_append_wf (d := d) (lo := lo) (v := v) (m := []) hk rfl
    simpa [smapSet] using this
  | cons p m ih =>
    obtain ⟨a, x⟩ := p
    simp only [smapWfFrom, Bool.and_eq_true, decide_eq_true_eq] at hw
    obtain ⟨⟨h1, h2⟩, h3⟩ := hw
    simp only [smapSet]
    split
    · simp only [smapWfFrom, Bool.and_eq_true, decide_eq_true_eq]
      exact ⟨⟨h1, h2⟩, ih h3 (by omega)⟩
    · split
      · subst_vars; exact smapCell_append_wf hk (smapDrop_wfFrom h3)
      · refine smapCell_append_wf hk ?_
        simp only [smapWfFrom, Bool.and_eq_true, decide_eq_true_eq]
        exact ⟨⟨by omega, h2⟩, smapDrop_wfFrom h3⟩

/-- A write keeps the canonical form. -/
theorem smapSet_wf {m : SMap V} (k : Nat) (v : V) (hw : smapWf d m = true) : smapWf d (smapSet d m k v) = true :=
  smapSet_wfFrom hw (Nat.zero_le _)

theorem smapMap_wfFrom {lo : Nat} {m : SMap V} (f : Nat → V → V) (hw : smapWfFrom d lo m = true) :
    smapWfFrom d lo (smapMap d f m) = true := by
  induction m generalizing lo with
  | nil => rfl
  | cons p m ih =>
    simp only [smapWfFrom, Bool.and_eq_true, decide_eq_true_eq] at hw
    exact smapCell_append_wf hw.1.1 (ih hw.2)

/-- Changing every listed value keeps the canonical form. -/
theorem smapMap_wf {m : SMap V} (f : Nat → V → V) (hw : smapWf d m = true) : smapWf d (smapMap d f m) = true :=
  smapMap_wfFrom f hw

theorem smapFilter_wfFrom {lo : Nat} {m : SMap V} (p : Nat × V → Bool) (hw : smapWfFrom d lo m = true) :
    smapWfFrom d lo (m.filter p) = true := by
  induction m generalizing lo with
  | nil => rfl
  | cons q m ih =>
    simp only [smapWfFrom, Bool.and_eq_true, decide_eq_true_eq] at hw
    simp only [List.filter_cons]
    split
    · simp only [smapWfFrom, Bool.and_eq_true, decide_eq_true_eq]
      exact ⟨hw.1, ih hw.2⟩
    · exact smapWfFrom_mono (by omega) (ih hw.2)

/-- Dropping entries keeps the canonical form. -/
theorem smapFilter_wf {m : SMap V} (p : Nat × V → Bool) (hw : smapWf d m = true) : smapWf d (m.filter p) = true :=
  smapFilter_wfFrom p hw

end Sys2Proof.Machine
end

