-- ==== Sys2Proof/Laws/State.lean ====
section
/-!
SUPPORT. Laws/State.lean: what each update of the state leaves alone and what it changes, one lemma per field.
-/

namespace Sys2Proof.Machine

variable (s : State)

@[simp] theorem State.wr_pending (a v : Nat) : (s.wr a v).pending = s.pending := rfl
@[simp] theorem State.wr_regs (a v : Nat) : (s.wr a v).regs = smapSet regDefault s.regs a (BitVec.ofNat 64 v) := rfl
@[simp] theorem State.wr_mem (a v : Nat) : (s.wr a v).mem = s.mem := rfl
@[simp] theorem State.wr_ports64 (a v : Nat) : (s.wr a v).ports64 = s.ports64 := rfl
@[simp] theorem State.wr_tab (a v : Nat) : (s.wr a v).tab = s.tab := rfl
@[simp] theorem State.wr_pcx (a v : Nat) : (s.wr a v).pcx = s.pcx := rfl
@[simp] theorem State.wr_swc (a v : Nat) : (s.wr a v).swc = s.swc := rfl
@[simp] theorem State.wr_rde (a v : Nat) : (s.wr a v).rde = s.rde := rfl
@[simp] theorem State.wr_svc (a v : Nat) : (s.wr a v).svc = s.svc := rfl
@[simp] theorem State.wr_cyc (a v : Nat) : (s.wr a v).cyc = s.cyc := rfl
@[simp] theorem State.wr_pub (a v : Nat) : (s.wr a v).pub = s.pub := rfl
@[simp] theorem State.wr_cap (a v : Nat) : (s.wr a v).cap = s.cap := rfl
@[simp] theorem State.wr_dmv (a v : Nat) : (s.wr a v).dmv = s.dmv := rfl
@[simp] theorem State.wr_sup (a v : Nat) : (s.wr a v).sup = s.sup := rfl
@[simp] theorem State.wr_sec (a v : Nat) : (s.wr a v).sec = s.sec := rfl
@[simp] theorem State.wr_sys (a v : Nat) : (s.wr a v).sys = s.sys := rfl
@[simp] theorem State.wr_mc (a v : Nat) : (s.wr a v).mc = s.mc := rfl
@[simp] theorem State.wr_dbg (a v : Nat) : (s.wr a v).dbg = s.dbg := rfl
@[simp] theorem State.wr_out (a v : Nat) : (s.wr a v).out = s.out := rfl
@[simp] theorem State.wr_free (a v : Nat) : (s.wr a v).free = s.free := rfl

@[simp] theorem State.setF_pending (f : FieldRef) (v : Nat) : (s.setF f v).pending = s.pending := rfl
@[simp] theorem State.setF_mem (f : FieldRef) (v : Nat) : (s.setF f v).mem = s.mem := rfl
@[simp] theorem State.setF_ports64 (f : FieldRef) (v : Nat) : (s.setF f v).ports64 = s.ports64 := rfl
@[simp] theorem State.setF_tab (f : FieldRef) (v : Nat) : (s.setF f v).tab = s.tab := rfl
@[simp] theorem State.setF_pcx (f : FieldRef) (v : Nat) : (s.setF f v).pcx = s.pcx := rfl
@[simp] theorem State.setF_swc (f : FieldRef) (v : Nat) : (s.setF f v).swc = s.swc := rfl
@[simp] theorem State.setF_rde (f : FieldRef) (v : Nat) : (s.setF f v).rde = s.rde := rfl
@[simp] theorem State.setF_svc (f : FieldRef) (v : Nat) : (s.setF f v).svc = s.svc := rfl
@[simp] theorem State.setF_cyc (f : FieldRef) (v : Nat) : (s.setF f v).cyc = s.cyc := rfl
@[simp] theorem State.setF_pub (f : FieldRef) (v : Nat) : (s.setF f v).pub = s.pub := rfl
@[simp] theorem State.setF_cap (f : FieldRef) (v : Nat) : (s.setF f v).cap = s.cap := rfl
@[simp] theorem State.setF_dmv (f : FieldRef) (v : Nat) : (s.setF f v).dmv = s.dmv := rfl
@[simp] theorem State.setF_sup (f : FieldRef) (v : Nat) : (s.setF f v).sup = s.sup := rfl
@[simp] theorem State.setF_sec (f : FieldRef) (v : Nat) : (s.setF f v).sec = s.sec := rfl
@[simp] theorem State.setF_sys (f : FieldRef) (v : Nat) : (s.setF f v).sys = s.sys := rfl
@[simp] theorem State.setF_mc (f : FieldRef) (v : Nat) : (s.setF f v).mc = s.mc := rfl
@[simp] theorem State.setF_dbg (f : FieldRef) (v : Nat) : (s.setF f v).dbg = s.dbg := rfl
@[simp] theorem State.setF_out (f : FieldRef) (v : Nat) : (s.setF f v).out = s.out := rfl
@[simp] theorem State.setF_free (f : FieldRef) (v : Nat) : (s.setF f v).free = s.free := rfl

@[simp] theorem State.raise_pending (f : FieldRef) : (s.raise f).pending = s.pending := rfl
@[simp] theorem State.raise_mem (f : FieldRef) : (s.raise f).mem = s.mem := rfl
@[simp] theorem State.raise_ports64 (f : FieldRef) : (s.raise f).ports64 = s.ports64 := rfl
@[simp] theorem State.raise_tab (f : FieldRef) : (s.raise f).tab = s.tab := rfl
@[simp] theorem State.raise_pcx (f : FieldRef) : (s.raise f).pcx = s.pcx := rfl
@[simp] theorem State.raise_swc (f : FieldRef) : (s.raise f).swc = s.swc := rfl
@[simp] theorem State.raise_rde (f : FieldRef) : (s.raise f).rde = s.rde := rfl
@[simp] theorem State.raise_svc (f : FieldRef) : (s.raise f).svc = s.svc := rfl
@[simp] theorem State.raise_cyc (f : FieldRef) : (s.raise f).cyc = s.cyc := rfl
@[simp] theorem State.raise_pub (f : FieldRef) : (s.raise f).pub = s.pub := rfl
@[simp] theorem State.raise_cap (f : FieldRef) : (s.raise f).cap = s.cap := rfl
@[simp] theorem State.raise_dmv (f : FieldRef) : (s.raise f).dmv = s.dmv := rfl
@[simp] theorem State.raise_sup (f : FieldRef) : (s.raise f).sup = s.sup := rfl
@[simp] theorem State.raise_sec (f : FieldRef) : (s.raise f).sec = s.sec := rfl
@[simp] theorem State.raise_sys (f : FieldRef) : (s.raise f).sys = s.sys := rfl
@[simp] theorem State.raise_mc (f : FieldRef) : (s.raise f).mc = s.mc := rfl
@[simp] theorem State.raise_dbg (f : FieldRef) : (s.raise f).dbg = s.dbg := rfl
@[simp] theorem State.raise_out (f : FieldRef) : (s.raise f).out = s.out := rfl
@[simp] theorem State.raise_free (f : FieldRef) : (s.raise f).free = s.free := rfl

@[simp] theorem State.bumpBy_pending (a n : Nat) : (s.bumpBy a n).pending = s.pending := rfl
@[simp] theorem State.bumpBy_mem (a n : Nat) : (s.bumpBy a n).mem = s.mem := rfl
@[simp] theorem State.bumpBy_ports64 (a n : Nat) : (s.bumpBy a n).ports64 = s.ports64 := rfl
@[simp] theorem State.bumpBy_tab (a n : Nat) : (s.bumpBy a n).tab = s.tab := rfl
@[simp] theorem State.bumpBy_pcx (a n : Nat) : (s.bumpBy a n).pcx = s.pcx := rfl
@[simp] theorem State.bumpBy_swc (a n : Nat) : (s.bumpBy a n).swc = s.swc := rfl
@[simp] theorem State.bumpBy_rde (a n : Nat) : (s.bumpBy a n).rde = s.rde := rfl
@[simp] theorem State.bumpBy_svc (a n : Nat) : (s.bumpBy a n).svc = s.svc := rfl
@[simp] theorem State.bumpBy_cyc (a n : Nat) : (s.bumpBy a n).cyc = s.cyc := rfl
@[simp] theorem State.bumpBy_pub (a n : Nat) : (s.bumpBy a n).pub = s.pub := rfl
@[simp] theorem State.bumpBy_cap (a n : Nat) : (s.bumpBy a n).cap = s.cap := rfl
@[simp] theorem State.bumpBy_dmv (a n : Nat) : (s.bumpBy a n).dmv = s.dmv := rfl
@[simp] theorem State.bumpBy_sup (a n : Nat) : (s.bumpBy a n).sup = s.sup := rfl
@[simp] theorem State.bumpBy_sec (a n : Nat) : (s.bumpBy a n).sec = s.sec := rfl
@[simp] theorem State.bumpBy_sys (a n : Nat) : (s.bumpBy a n).sys = s.sys := rfl
@[simp] theorem State.bumpBy_mc (a n : Nat) : (s.bumpBy a n).mc = s.mc := rfl
@[simp] theorem State.bumpBy_dbg (a n : Nat) : (s.bumpBy a n).dbg = s.dbg := rfl
@[simp] theorem State.bumpBy_out (a n : Nat) : (s.bumpBy a n).out = s.out := rfl
@[simp] theorem State.bumpBy_free (a n : Nat) : (s.bumpBy a n).free = s.free := rfl

@[simp] theorem State.bump_pending (a : Nat) : (s.bump a).pending = s.pending := rfl
@[simp] theorem State.bump_mem (a : Nat) : (s.bump a).mem = s.mem := rfl
@[simp] theorem State.bump_ports64 (a : Nat) : (s.bump a).ports64 = s.ports64 := rfl
@[simp] theorem State.bump_tab (a : Nat) : (s.bump a).tab = s.tab := rfl
@[simp] theorem State.bump_pcx (a : Nat) : (s.bump a).pcx = s.pcx := rfl
@[simp] theorem State.bump_swc (a : Nat) : (s.bump a).swc = s.swc := rfl
@[simp] theorem State.bump_rde (a : Nat) : (s.bump a).rde = s.rde := rfl
@[simp] theorem State.bump_svc (a : Nat) : (s.bump a).svc = s.svc := rfl
@[simp] theorem State.bump_cyc (a : Nat) : (s.bump a).cyc = s.cyc := rfl
@[simp] theorem State.bump_pub (a : Nat) : (s.bump a).pub = s.pub := rfl
@[simp] theorem State.bump_cap (a : Nat) : (s.bump a).cap = s.cap := rfl
@[simp] theorem State.bump_dmv (a : Nat) : (s.bump a).dmv = s.dmv := rfl
@[simp] theorem State.bump_sup (a : Nat) : (s.bump a).sup = s.sup := rfl
@[simp] theorem State.bump_sec (a : Nat) : (s.bump a).sec = s.sec := rfl
@[simp] theorem State.bump_sys (a : Nat) : (s.bump a).sys = s.sys := rfl
@[simp] theorem State.bump_mc (a : Nat) : (s.bump a).mc = s.mc := rfl
@[simp] theorem State.bump_dbg (a : Nat) : (s.bump a).dbg = s.dbg := rfl
@[simp] theorem State.bump_out (a : Nat) : (s.bump a).out = s.out := rfl
@[simp] theorem State.bump_free (a : Nat) : (s.bump a).free = s.free := rfl

@[simp] theorem State.plainWrite_pending (a v : Nat) : (s.plainWrite a v).pending = s.pending := rfl
@[simp] theorem State.plainWrite_mem (a v : Nat) : (s.plainWrite a v).mem = s.mem := rfl
@[simp] theorem State.plainWrite_ports64 (a v : Nat) : (s.plainWrite a v).ports64 = s.ports64 := rfl
@[simp] theorem State.plainWrite_tab (a v : Nat) : (s.plainWrite a v).tab = s.tab := rfl
@[simp] theorem State.plainWrite_pcx (a v : Nat) : (s.plainWrite a v).pcx = s.pcx := rfl
@[simp] theorem State.plainWrite_swc (a v : Nat) : (s.plainWrite a v).swc = s.swc := rfl
@[simp] theorem State.plainWrite_rde (a v : Nat) : (s.plainWrite a v).rde = s.rde := rfl
@[simp] theorem State.plainWrite_svc (a v : Nat) : (s.plainWrite a v).svc = s.svc := rfl
@[simp] theorem State.plainWrite_cyc (a v : Nat) : (s.plainWrite a v).cyc = s.cyc := rfl
@[simp] theorem State.plainWrite_pub (a v : Nat) : (s.plainWrite a v).pub = s.pub := rfl
@[simp] theorem State.plainWrite_cap (a v : Nat) : (s.plainWrite a v).cap = s.cap := rfl
@[simp] theorem State.plainWrite_dmv (a v : Nat) : (s.plainWrite a v).dmv = s.dmv := rfl
@[simp] theorem State.plainWrite_sup (a v : Nat) : (s.plainWrite a v).sup = s.sup := rfl
@[simp] theorem State.plainWrite_sec (a v : Nat) : (s.plainWrite a v).sec = s.sec := rfl
@[simp] theorem State.plainWrite_sys (a v : Nat) : (s.plainWrite a v).sys = s.sys := rfl
@[simp] theorem State.plainWrite_mc (a v : Nat) : (s.plainWrite a v).mc = s.mc := rfl
@[simp] theorem State.plainWrite_dbg (a v : Nat) : (s.plainWrite a v).dbg = s.dbg := rfl
@[simp] theorem State.plainWrite_out (a v : Nat) : (s.plainWrite a v).out = s.out := rfl
@[simp] theorem State.plainWrite_free (a v : Nat) : (s.plainWrite a v).free = s.free := rfl

@[simp] theorem State.storeByte_pending (a : Nat) (v : Byte) : (s.storeByte a v).pending = s.pending := rfl
@[simp] theorem State.storeByte_regs (a : Nat) (v : Byte) : (s.storeByte a v).regs = s.regs := rfl
@[simp] theorem State.storeByte_mem (a : Nat) (v : Byte) : (s.storeByte a v).mem = smapSet memDefault s.mem a v := rfl
@[simp] theorem State.storeByte_ports64 (a : Nat) (v : Byte) : (s.storeByte a v).ports64 = s.ports64 := rfl
@[simp] theorem State.storeByte_tab (a : Nat) (v : Byte) : (s.storeByte a v).tab = s.tab := rfl
@[simp] theorem State.storeByte_pcx (a : Nat) (v : Byte) : (s.storeByte a v).pcx = s.pcx := rfl
@[simp] theorem State.storeByte_swc (a : Nat) (v : Byte) : (s.storeByte a v).swc = s.swc := rfl
@[simp] theorem State.storeByte_rde (a : Nat) (v : Byte) : (s.storeByte a v).rde = s.rde := rfl
@[simp] theorem State.storeByte_svc (a : Nat) (v : Byte) : (s.storeByte a v).svc = s.svc := rfl
@[simp] theorem State.storeByte_cyc (a : Nat) (v : Byte) : (s.storeByte a v).cyc = s.cyc := rfl
@[simp] theorem State.storeByte_pub (a : Nat) (v : Byte) : (s.storeByte a v).pub = s.pub := rfl
@[simp] theorem State.storeByte_cap (a : Nat) (v : Byte) : (s.storeByte a v).cap = s.cap := rfl
@[simp] theorem State.storeByte_dmv (a : Nat) (v : Byte) : (s.storeByte a v).dmv = s.dmv := rfl
@[simp] theorem State.storeByte_sup (a : Nat) (v : Byte) : (s.storeByte a v).sup = s.sup := rfl
@[simp] theorem State.storeByte_sec (a : Nat) (v : Byte) : (s.storeByte a v).sec = s.sec := rfl
@[simp] theorem State.storeByte_sys (a : Nat) (v : Byte) : (s.storeByte a v).sys = s.sys := rfl
@[simp] theorem State.storeByte_mc (a : Nat) (v : Byte) : (s.storeByte a v).mc = s.mc := rfl
@[simp] theorem State.storeByte_dbg (a : Nat) (v : Byte) : (s.storeByte a v).dbg = s.dbg := rfl
@[simp] theorem State.storeByte_out (a : Nat) (v : Byte) : (s.storeByte a v).out = s.out := rfl
@[simp] theorem State.storeByte_free (a : Nat) (v : Byte) : (s.storeByte a v).free = s.free := rfl
@[simp] theorem State.storeByte_rd (a : Nat) (v : Byte) (j : Nat) : (s.storeByte a v).rd j = s.rd j := rfl
@[simp] theorem State.storeByte_getF (a : Nat) (v : Byte) (j : FieldRef) : (s.storeByte a v).getF j = s.getF j := rfl
@[simp] theorem State.storeByte_flag (a : Nat) (v : Byte) (j : FieldRef) : (s.storeByte a v).flag j = s.flag j := rfl

@[simp] theorem State.setPort64_pending (who : Requester) (f : Port64 → Port64) : (s.setPort64 who f).pending = s.pending := rfl
@[simp] theorem State.setPort64_regs (who : Requester) (f : Port64 → Port64) : (s.setPort64 who f).regs = s.regs := rfl
@[simp] theorem State.setPort64_mem (who : Requester) (f : Port64 → Port64) : (s.setPort64 who f).mem = s.mem := rfl
@[simp] theorem State.setPort64_ports64 (who : Requester) (f : Port64 → Port64) : (s.setPort64 who f).ports64 = smapUpd (fun _ => {}) s.ports64 (reqPort who) f := rfl
@[simp] theorem State.setPort64_tab (who : Requester) (f : Port64 → Port64) : (s.setPort64 who f).tab = s.tab := rfl
@[simp] theorem State.setPort64_pcx (who : Requester) (f : Port64 → Port64) : (s.setPort64 who f).pcx = s.pcx := rfl
@[simp] theorem State.setPort64_swc (who : Requester) (f : Port64 → Port64) : (s.setPort64 who f).swc = s.swc := rfl
@[simp] theorem State.setPort64_rde (who : Requester) (f : Port64 → Port64) : (s.setPort64 who f).rde = s.rde := rfl
@[simp] theorem State.setPort64_svc (who : Requester) (f : Port64 → Port64) : (s.setPort64 who f).svc = s.svc := rfl
@[simp] theorem State.setPort64_cyc (who : Requester) (f : Port64 → Port64) : (s.setPort64 who f).cyc = s.cyc := rfl
@[simp] theorem State.setPort64_pub (who : Requester) (f : Port64 → Port64) : (s.setPort64 who f).pub = s.pub := rfl
@[simp] theorem State.setPort64_cap (who : Requester) (f : Port64 → Port64) : (s.setPort64 who f).cap = s.cap := rfl
@[simp] theorem State.setPort64_dmv (who : Requester) (f : Port64 → Port64) : (s.setPort64 who f).dmv = s.dmv := rfl
@[simp] theorem State.setPort64_sup (who : Requester) (f : Port64 → Port64) : (s.setPort64 who f).sup = s.sup := rfl
@[simp] theorem State.setPort64_sec (who : Requester) (f : Port64 → Port64) : (s.setPort64 who f).sec = s.sec := rfl
@[simp] theorem State.setPort64_sys (who : Requester) (f : Port64 → Port64) : (s.setPort64 who f).sys = s.sys := rfl
@[simp] theorem State.setPort64_mc (who : Requester) (f : Port64 → Port64) : (s.setPort64 who f).mc = s.mc := rfl
@[simp] theorem State.setPort64_dbg (who : Requester) (f : Port64 → Port64) : (s.setPort64 who f).dbg = s.dbg := rfl
@[simp] theorem State.setPort64_out (who : Requester) (f : Port64 → Port64) : (s.setPort64 who f).out = s.out := rfl
@[simp] theorem State.setPort64_free (who : Requester) (f : Port64 → Port64) : (s.setPort64 who f).free = s.free := rfl
@[simp] theorem State.setPort64_rd (who : Requester) (f : Port64 → Port64) (j : Nat) : (s.setPort64 who f).rd j = s.rd j := rfl
@[simp] theorem State.setPort64_getF (who : Requester) (f : Port64 → Port64) (j : FieldRef) : (s.setPort64 who f).getF j = s.getF j := rfl
@[simp] theorem State.setPort64_flag (who : Requester) (f : Port64 → Port64) (j : FieldRef) : (s.setPort64 who f).flag j = s.flag j := rfl

@[simp] theorem State.respond_pending (who : Requester) (r : Resp) : (s.respond who r).pending = s.pending := rfl
@[simp] theorem State.respond_regs (who : Requester) (r : Resp) : (s.respond who r).regs = s.regs := rfl
@[simp] theorem State.respond_mem (who : Requester) (r : Resp) : (s.respond who r).mem = s.mem := rfl
@[simp] theorem State.respond_tab (who : Requester) (r : Resp) : (s.respond who r).tab = s.tab := rfl
@[simp] theorem State.respond_pcx (who : Requester) (r : Resp) : (s.respond who r).pcx = s.pcx := rfl
@[simp] theorem State.respond_swc (who : Requester) (r : Resp) : (s.respond who r).swc = s.swc := rfl
@[simp] theorem State.respond_rde (who : Requester) (r : Resp) : (s.respond who r).rde = s.rde := rfl
@[simp] theorem State.respond_svc (who : Requester) (r : Resp) : (s.respond who r).svc = s.svc := rfl
@[simp] theorem State.respond_cyc (who : Requester) (r : Resp) : (s.respond who r).cyc = s.cyc := rfl
@[simp] theorem State.respond_pub (who : Requester) (r : Resp) : (s.respond who r).pub = s.pub := rfl
@[simp] theorem State.respond_cap (who : Requester) (r : Resp) : (s.respond who r).cap = s.cap := rfl
@[simp] theorem State.respond_dmv (who : Requester) (r : Resp) : (s.respond who r).dmv = s.dmv := rfl
@[simp] theorem State.respond_sup (who : Requester) (r : Resp) : (s.respond who r).sup = s.sup := rfl
@[simp] theorem State.respond_sec (who : Requester) (r : Resp) : (s.respond who r).sec = s.sec := rfl
@[simp] theorem State.respond_sys (who : Requester) (r : Resp) : (s.respond who r).sys = s.sys := rfl
@[simp] theorem State.respond_mc (who : Requester) (r : Resp) : (s.respond who r).mc = s.mc := rfl
@[simp] theorem State.respond_dbg (who : Requester) (r : Resp) : (s.respond who r).dbg = s.dbg := rfl
@[simp] theorem State.respond_out (who : Requester) (r : Resp) : (s.respond who r).out = s.out := rfl
@[simp] theorem State.respond_free (who : Requester) (r : Resp) : (s.respond who r).free = s.free := rfl
@[simp] theorem State.respond_rd (who : Requester) (r : Resp) (j : Nat) : (s.respond who r).rd j = s.rd j := rfl
@[simp] theorem State.respond_getF (who : Requester) (r : Resp) (j : FieldRef) : (s.respond who r).getF j = s.getF j := rfl
@[simp] theorem State.respond_flag (who : Requester) (r : Resp) (j : FieldRef) : (s.respond who r).flag j = s.flag j := rfl

@[simp] theorem State.onTab_pending (f : TabState → TabState) : (s.onTab f).pending = s.pending := rfl
@[simp] theorem State.onTab_regs (f : TabState → TabState) : (s.onTab f).regs = s.regs := rfl
@[simp] theorem State.onTab_mem (f : TabState → TabState) : (s.onTab f).mem = s.mem := rfl
@[simp] theorem State.onTab_ports64 (f : TabState → TabState) : (s.onTab f).ports64 = s.ports64 := rfl
@[simp] theorem State.onTab_tab (f : TabState → TabState) : (s.onTab f).tab = f s.tab := rfl
@[simp] theorem State.onTab_pcx (f : TabState → TabState) : (s.onTab f).pcx = s.pcx := rfl
@[simp] theorem State.onTab_swc (f : TabState → TabState) : (s.onTab f).swc = s.swc := rfl
@[simp] theorem State.onTab_rde (f : TabState → TabState) : (s.onTab f).rde = s.rde := rfl
@[simp] theorem State.onTab_svc (f : TabState → TabState) : (s.onTab f).svc = s.svc := rfl
@[simp] theorem State.onTab_cyc (f : TabState → TabState) : (s.onTab f).cyc = s.cyc := rfl
@[simp] theorem State.onTab_pub (f : TabState → TabState) : (s.onTab f).pub = s.pub := rfl
@[simp] theorem State.onTab_cap (f : TabState → TabState) : (s.onTab f).cap = s.cap := rfl
@[simp] theorem State.onTab_dmv (f : TabState → TabState) : (s.onTab f).dmv = s.dmv := rfl
@[simp] theorem State.onTab_sup (f : TabState → TabState) : (s.onTab f).sup = s.sup := rfl
@[simp] theorem State.onTab_sec (f : TabState → TabState) : (s.onTab f).sec = s.sec := rfl
@[simp] theorem State.onTab_sys (f : TabState → TabState) : (s.onTab f).sys = s.sys := rfl
@[simp] theorem State.onTab_mc (f : TabState → TabState) : (s.onTab f).mc = s.mc := rfl
@[simp] theorem State.onTab_dbg (f : TabState → TabState) : (s.onTab f).dbg = s.dbg := rfl
@[simp] theorem State.onTab_out (f : TabState → TabState) : (s.onTab f).out = s.out := rfl
@[simp] theorem State.onTab_free (f : TabState → TabState) : (s.onTab f).free = s.free := rfl
@[simp] theorem State.onTab_rd (f : TabState → TabState) (j : Nat) : (s.onTab f).rd j = s.rd j := rfl
@[simp] theorem State.onTab_getF (f : TabState → TabState) (j : FieldRef) : (s.onTab f).getF j = s.getF j := rfl
@[simp] theorem State.onTab_flag (f : TabState → TabState) (j : FieldRef) : (s.onTab f).flag j = s.flag j := rfl

@[simp] theorem State.onPort_pending (p : Nat) (f : PortState → PortState) : (s.onPort p f).pending = s.pending := rfl
@[simp] theorem State.onPort_regs (p : Nat) (f : PortState → PortState) : (s.onPort p f).regs = s.regs := rfl
@[simp] theorem State.onPort_mem (p : Nat) (f : PortState → PortState) : (s.onPort p f).mem = s.mem := rfl
@[simp] theorem State.onPort_ports64 (p : Nat) (f : PortState → PortState) : (s.onPort p f).ports64 = s.ports64 := rfl
@[simp] theorem State.onPort_tab (p : Nat) (f : PortState → PortState) : (s.onPort p f).tab = s.tab := rfl
@[simp] theorem State.onPort_swc (p : Nat) (f : PortState → PortState) : (s.onPort p f).swc = s.swc := rfl
@[simp] theorem State.onPort_rde (p : Nat) (f : PortState → PortState) : (s.onPort p f).rde = s.rde := rfl
@[simp] theorem State.onPort_svc (p : Nat) (f : PortState → PortState) : (s.onPort p f).svc = s.svc := rfl
@[simp] theorem State.onPort_cyc (p : Nat) (f : PortState → PortState) : (s.onPort p f).cyc = s.cyc := rfl
@[simp] theorem State.onPort_pub (p : Nat) (f : PortState → PortState) : (s.onPort p f).pub = s.pub := rfl
@[simp] theorem State.onPort_cap (p : Nat) (f : PortState → PortState) : (s.onPort p f).cap = s.cap := rfl
@[simp] theorem State.onPort_dmv (p : Nat) (f : PortState → PortState) : (s.onPort p f).dmv = s.dmv := rfl
@[simp] theorem State.onPort_sup (p : Nat) (f : PortState → PortState) : (s.onPort p f).sup = s.sup := rfl
@[simp] theorem State.onPort_sec (p : Nat) (f : PortState → PortState) : (s.onPort p f).sec = s.sec := rfl
@[simp] theorem State.onPort_sys (p : Nat) (f : PortState → PortState) : (s.onPort p f).sys = s.sys := rfl
@[simp] theorem State.onPort_mc (p : Nat) (f : PortState → PortState) : (s.onPort p f).mc = s.mc := rfl
@[simp] theorem State.onPort_dbg (p : Nat) (f : PortState → PortState) : (s.onPort p f).dbg = s.dbg := rfl
@[simp] theorem State.onPort_out (p : Nat) (f : PortState → PortState) : (s.onPort p f).out = s.out := rfl
@[simp] theorem State.onPort_free (p : Nat) (f : PortState → PortState) : (s.onPort p f).free = s.free := rfl
@[simp] theorem State.onPort_rd (p : Nat) (f : PortState → PortState) (j : Nat) : (s.onPort p f).rd j = s.rd j := rfl
@[simp] theorem State.onPort_getF (p : Nat) (f : PortState → PortState) (j : FieldRef) : (s.onPort p f).getF j = s.getF j := rfl
@[simp] theorem State.onPort_flag (p : Nat) (f : PortState → PortState) (j : FieldRef) : (s.onPort p f).flag j = s.flag j := rfl

@[simp] theorem State.onSwc_pending (f : SwcState → SwcState) : (s.onSwc f).pending = s.pending := rfl
@[simp] theorem State.onSwc_regs (f : SwcState → SwcState) : (s.onSwc f).regs = s.regs := rfl
@[simp] theorem State.onSwc_mem (f : SwcState → SwcState) : (s.onSwc f).mem = s.mem := rfl
@[simp] theorem State.onSwc_ports64 (f : SwcState → SwcState) : (s.onSwc f).ports64 = s.ports64 := rfl
@[simp] theorem State.onSwc_tab (f : SwcState → SwcState) : (s.onSwc f).tab = s.tab := rfl
@[simp] theorem State.onSwc_pcx (f : SwcState → SwcState) : (s.onSwc f).pcx = s.pcx := rfl
@[simp] theorem State.onSwc_swc (f : SwcState → SwcState) : (s.onSwc f).swc = f s.swc := rfl
@[simp] theorem State.onSwc_rde (f : SwcState → SwcState) : (s.onSwc f).rde = s.rde := rfl
@[simp] theorem State.onSwc_svc (f : SwcState → SwcState) : (s.onSwc f).svc = s.svc := rfl
@[simp] theorem State.onSwc_cyc (f : SwcState → SwcState) : (s.onSwc f).cyc = s.cyc := rfl
@[simp] theorem State.onSwc_pub (f : SwcState → SwcState) : (s.onSwc f).pub = s.pub := rfl
@[simp] theorem State.onSwc_cap (f : SwcState → SwcState) : (s.onSwc f).cap = s.cap := rfl
@[simp] theorem State.onSwc_dmv (f : SwcState → SwcState) : (s.onSwc f).dmv = s.dmv := rfl
@[simp] theorem State.onSwc_sup (f : SwcState → SwcState) : (s.onSwc f).sup = s.sup := rfl
@[simp] theorem State.onSwc_sec (f : SwcState → SwcState) : (s.onSwc f).sec = s.sec := rfl
@[simp] theorem State.onSwc_sys (f : SwcState → SwcState) : (s.onSwc f).sys = s.sys := rfl
@[simp] theorem State.onSwc_mc (f : SwcState → SwcState) : (s.onSwc f).mc = s.mc := rfl
@[simp] theorem State.onSwc_dbg (f : SwcState → SwcState) : (s.onSwc f).dbg = s.dbg := rfl
@[simp] theorem State.onSwc_out (f : SwcState → SwcState) : (s.onSwc f).out = s.out := rfl
@[simp] theorem State.onSwc_free (f : SwcState → SwcState) : (s.onSwc f).free = s.free := rfl
@[simp] theorem State.onSwc_rd (f : SwcState → SwcState) (j : Nat) : (s.onSwc f).rd j = s.rd j := rfl
@[simp] theorem State.onSwc_getF (f : SwcState → SwcState) (j : FieldRef) : (s.onSwc f).getF j = s.getF j := rfl
@[simp] theorem State.onSwc_flag (f : SwcState → SwcState) (j : FieldRef) : (s.onSwc f).flag j = s.flag j := rfl

@[simp] theorem State.onRde_pending (f : RdeState → RdeState) : (s.onRde f).pending = s.pending := rfl
@[simp] theorem State.onRde_regs (f : RdeState → RdeState) : (s.onRde f).regs = s.regs := rfl
@[simp] theorem State.onRde_mem (f : RdeState → RdeState) : (s.onRde f).mem = s.mem := rfl
@[simp] theorem State.onRde_ports64 (f : RdeState → RdeState) : (s.onRde f).ports64 = s.ports64 := rfl
@[simp] theorem State.onRde_tab (f : RdeState → RdeState) : (s.onRde f).tab = s.tab := rfl
@[simp] theorem State.onRde_pcx (f : RdeState → RdeState) : (s.onRde f).pcx = s.pcx := rfl
@[simp] theorem State.onRde_swc (f : RdeState → RdeState) : (s.onRde f).swc = s.swc := rfl
@[simp] theorem State.onRde_rde (f : RdeState → RdeState) : (s.onRde f).rde = f s.rde := rfl
@[simp] theorem State.onRde_svc (f : RdeState → RdeState) : (s.onRde f).svc = s.svc := rfl
@[simp] theorem State.onRde_cyc (f : RdeState → RdeState) : (s.onRde f).cyc = s.cyc := rfl
@[simp] theorem State.onRde_pub (f : RdeState → RdeState) : (s.onRde f).pub = s.pub := rfl
@[simp] theorem State.onRde_cap (f : RdeState → RdeState) : (s.onRde f).cap = s.cap := rfl
@[simp] theorem State.onRde_dmv (f : RdeState → RdeState) : (s.onRde f).dmv = s.dmv := rfl
@[simp] theorem State.onRde_sup (f : RdeState → RdeState) : (s.onRde f).sup = s.sup := rfl
@[simp] theorem State.onRde_sec (f : RdeState → RdeState) : (s.onRde f).sec = s.sec := rfl
@[simp] theorem State.onRde_sys (f : RdeState → RdeState) : (s.onRde f).sys = s.sys := rfl
@[simp] theorem State.onRde_mc (f : RdeState → RdeState) : (s.onRde f).mc = s.mc := rfl
@[simp] theorem State.onRde_dbg (f : RdeState → RdeState) : (s.onRde f).dbg = s.dbg := rfl
@[simp] theorem State.onRde_out (f : RdeState → RdeState) : (s.onRde f).out = s.out := rfl
@[simp] theorem State.onRde_free (f : RdeState → RdeState) : (s.onRde f).free = s.free := rfl
@[simp] theorem State.onRde_rd (f : RdeState → RdeState) (j : Nat) : (s.onRde f).rd j = s.rd j := rfl
@[simp] theorem State.onRde_getF (f : RdeState → RdeState) (j : FieldRef) : (s.onRde f).getF j = s.getF j := rfl
@[simp] theorem State.onRde_flag (f : RdeState → RdeState) (j : FieldRef) : (s.onRde f).flag j = s.flag j := rfl

@[simp] theorem State.onTenRde_pending (t : Nat) (f : TenRde → TenRde) : (s.onTenRde t f).pending = s.pending := rfl
@[simp] theorem State.onTenRde_regs (t : Nat) (f : TenRde → TenRde) : (s.onTenRde t f).regs = s.regs := rfl
@[simp] theorem State.onTenRde_mem (t : Nat) (f : TenRde → TenRde) : (s.onTenRde t f).mem = s.mem := rfl
@[simp] theorem State.onTenRde_ports64 (t : Nat) (f : TenRde → TenRde) : (s.onTenRde t f).ports64 = s.ports64 := rfl
@[simp] theorem State.onTenRde_tab (t : Nat) (f : TenRde → TenRde) : (s.onTenRde t f).tab = s.tab := rfl
@[simp] theorem State.onTenRde_pcx (t : Nat) (f : TenRde → TenRde) : (s.onTenRde t f).pcx = s.pcx := rfl
@[simp] theorem State.onTenRde_swc (t : Nat) (f : TenRde → TenRde) : (s.onTenRde t f).swc = s.swc := rfl
@[simp] theorem State.onTenRde_svc (t : Nat) (f : TenRde → TenRde) : (s.onTenRde t f).svc = s.svc := rfl
@[simp] theorem State.onTenRde_cyc (t : Nat) (f : TenRde → TenRde) : (s.onTenRde t f).cyc = s.cyc := rfl
@[simp] theorem State.onTenRde_pub (t : Nat) (f : TenRde → TenRde) : (s.onTenRde t f).pub = s.pub := rfl
@[simp] theorem State.onTenRde_cap (t : Nat) (f : TenRde → TenRde) : (s.onTenRde t f).cap = s.cap := rfl
@[simp] theorem State.onTenRde_dmv (t : Nat) (f : TenRde → TenRde) : (s.onTenRde t f).dmv = s.dmv := rfl
@[simp] theorem State.onTenRde_sup (t : Nat) (f : TenRde → TenRde) : (s.onTenRde t f).sup = s.sup := rfl
@[simp] theorem State.onTenRde_sec (t : Nat) (f : TenRde → TenRde) : (s.onTenRde t f).sec = s.sec := rfl
@[simp] theorem State.onTenRde_sys (t : Nat) (f : TenRde → TenRde) : (s.onTenRde t f).sys = s.sys := rfl
@[simp] theorem State.onTenRde_mc (t : Nat) (f : TenRde → TenRde) : (s.onTenRde t f).mc = s.mc := rfl
@[simp] theorem State.onTenRde_dbg (t : Nat) (f : TenRde → TenRde) : (s.onTenRde t f).dbg = s.dbg := rfl
@[simp] theorem State.onTenRde_out (t : Nat) (f : TenRde → TenRde) : (s.onTenRde t f).out = s.out := rfl
@[simp] theorem State.onTenRde_free (t : Nat) (f : TenRde → TenRde) : (s.onTenRde t f).free = s.free := rfl
@[simp] theorem State.onTenRde_rd (t : Nat) (f : TenRde → TenRde) (j : Nat) : (s.onTenRde t f).rd j = s.rd j := rfl
@[simp] theorem State.onTenRde_getF (t : Nat) (f : TenRde → TenRde) (j : FieldRef) : (s.onTenRde t f).getF j = s.getF j := rfl
@[simp] theorem State.onTenRde_flag (t : Nat) (f : TenRde → TenRde) (j : FieldRef) : (s.onTenRde t f).flag j = s.flag j := rfl

@[simp] theorem State.onSvc_pending (f : SvcState → SvcState) : (s.onSvc f).pending = s.pending := rfl
@[simp] theorem State.onSvc_regs (f : SvcState → SvcState) : (s.onSvc f).regs = s.regs := rfl
@[simp] theorem State.onSvc_mem (f : SvcState → SvcState) : (s.onSvc f).mem = s.mem := rfl
@[simp] theorem State.onSvc_ports64 (f : SvcState → SvcState) : (s.onSvc f).ports64 = s.ports64 := rfl
@[simp] theorem State.onSvc_tab (f : SvcState → SvcState) : (s.onSvc f).tab = s.tab := rfl
@[simp] theorem State.onSvc_pcx (f : SvcState → SvcState) : (s.onSvc f).pcx = s.pcx := rfl
@[simp] theorem State.onSvc_swc (f : SvcState → SvcState) : (s.onSvc f).swc = s.swc := rfl
@[simp] theorem State.onSvc_rde (f : SvcState → SvcState) : (s.onSvc f).rde = s.rde := rfl
@[simp] theorem State.onSvc_svc (f : SvcState → SvcState) : (s.onSvc f).svc = f s.svc := rfl
@[simp] theorem State.onSvc_cyc (f : SvcState → SvcState) : (s.onSvc f).cyc = s.cyc := rfl
@[simp] theorem State.onSvc_pub (f : SvcState → SvcState) : (s.onSvc f).pub = s.pub := rfl
@[simp] theorem State.onSvc_cap (f : SvcState → SvcState) : (s.onSvc f).cap = s.cap := rfl
@[simp] theorem State.onSvc_dmv (f : SvcState → SvcState) : (s.onSvc f).dmv = s.dmv := rfl
@[simp] theorem State.onSvc_sup (f : SvcState → SvcState) : (s.onSvc f).sup = s.sup := rfl
@[simp] theorem State.onSvc_sec (f : SvcState → SvcState) : (s.onSvc f).sec = s.sec := rfl
@[simp] theorem State.onSvc_sys (f : SvcState → SvcState) : (s.onSvc f).sys = s.sys := rfl
@[simp] theorem State.onSvc_mc (f : SvcState → SvcState) : (s.onSvc f).mc = s.mc := rfl
@[simp] theorem State.onSvc_dbg (f : SvcState → SvcState) : (s.onSvc f).dbg = s.dbg := rfl
@[simp] theorem State.onSvc_out (f : SvcState → SvcState) : (s.onSvc f).out = s.out := rfl
@[simp] theorem State.onSvc_free (f : SvcState → SvcState) : (s.onSvc f).free = s.free := rfl
@[simp] theorem State.onSvc_rd (f : SvcState → SvcState) (j : Nat) : (s.onSvc f).rd j = s.rd j := rfl
@[simp] theorem State.onSvc_getF (f : SvcState → SvcState) (j : FieldRef) : (s.onSvc f).getF j = s.getF j := rfl
@[simp] theorem State.onSvc_flag (f : SvcState → SvcState) (j : FieldRef) : (s.onSvc f).flag j = s.flag j := rfl

@[simp] theorem State.onStream_pending (st : Nat) (f : Stream → Stream) : (s.onStream st f).pending = s.pending := rfl
@[simp] theorem State.onStream_regs (st : Nat) (f : Stream → Stream) : (s.onStream st f).regs = s.regs := rfl
@[simp] theorem State.onStream_mem (st : Nat) (f : Stream → Stream) : (s.onStream st f).mem = s.mem := rfl
@[simp] theorem State.onStream_ports64 (st : Nat) (f : Stream → Stream) : (s.onStream st f).ports64 = s.ports64 := rfl
@[simp] theorem State.onStream_tab (st : Nat) (f : Stream → Stream) : (s.onStream st f).tab = s.tab := rfl
@[simp] theorem State.onStream_pcx (st : Nat) (f : Stream → Stream) : (s.onStream st f).pcx = s.pcx := rfl
@[simp] theorem State.onStream_swc (st : Nat) (f : Stream → Stream) : (s.onStream st f).swc = s.swc := rfl
@[simp] theorem State.onStream_rde (st : Nat) (f : Stream → Stream) : (s.onStream st f).rde = s.rde := rfl
@[simp] theorem State.onStream_cyc (st : Nat) (f : Stream → Stream) : (s.onStream st f).cyc = s.cyc := rfl
@[simp] theorem State.onStream_pub (st : Nat) (f : Stream → Stream) : (s.onStream st f).pub = s.pub := rfl
@[simp] theorem State.onStream_cap (st : Nat) (f : Stream → Stream) : (s.onStream st f).cap = s.cap := rfl
@[simp] theorem State.onStream_dmv (st : Nat) (f : Stream → Stream) : (s.onStream st f).dmv = s.dmv := rfl
@[simp] theorem State.onStream_sup (st : Nat) (f : Stream → Stream) : (s.onStream st f).sup = s.sup := rfl
@[simp] theorem State.onStream_sec (st : Nat) (f : Stream → Stream) : (s.onStream st f).sec = s.sec := rfl
@[simp] theorem State.onStream_sys (st : Nat) (f : Stream → Stream) : (s.onStream st f).sys = s.sys := rfl
@[simp] theorem State.onStream_mc (st : Nat) (f : Stream → Stream) : (s.onStream st f).mc = s.mc := rfl
@[simp] theorem State.onStream_dbg (st : Nat) (f : Stream → Stream) : (s.onStream st f).dbg = s.dbg := rfl
@[simp] theorem State.onStream_out (st : Nat) (f : Stream → Stream) : (s.onStream st f).out = s.out := rfl
@[simp] theorem State.onStream_free (st : Nat) (f : Stream → Stream) : (s.onStream st f).free = s.free := rfl
@[simp] theorem State.onStream_rd (st : Nat) (f : Stream → Stream) (j : Nat) : (s.onStream st f).rd j = s.rd j := rfl
@[simp] theorem State.onStream_getF (st : Nat) (f : Stream → Stream) (j : FieldRef) : (s.onStream st f).getF j = s.getF j := rfl
@[simp] theorem State.onStream_flag (st : Nat) (f : Stream → Stream) (j : FieldRef) : (s.onStream st f).flag j = s.flag j := rfl

@[simp] theorem State.onGrid_pending (g : Nat) (f : Grid → Grid) : (s.onGrid g f).pending = s.pending := rfl
@[simp] theorem State.onGrid_regs (g : Nat) (f : Grid → Grid) : (s.onGrid g f).regs = s.regs := rfl
@[simp] theorem State.onGrid_mem (g : Nat) (f : Grid → Grid) : (s.onGrid g f).mem = s.mem := rfl
@[simp] theorem State.onGrid_ports64 (g : Nat) (f : Grid → Grid) : (s.onGrid g f).ports64 = s.ports64 := rfl
@[simp] theorem State.onGrid_tab (g : Nat) (f : Grid → Grid) : (s.onGrid g f).tab = s.tab := rfl
@[simp] theorem State.onGrid_pcx (g : Nat) (f : Grid → Grid) : (s.onGrid g f).pcx = s.pcx := rfl
@[simp] theorem State.onGrid_swc (g : Nat) (f : Grid → Grid) : (s.onGrid g f).swc = s.swc := rfl
@[simp] theorem State.onGrid_rde (g : Nat) (f : Grid → Grid) : (s.onGrid g f).rde = s.rde := rfl
@[simp] theorem State.onGrid_cyc (g : Nat) (f : Grid → Grid) : (s.onGrid g f).cyc = s.cyc := rfl
@[simp] theorem State.onGrid_pub (g : Nat) (f : Grid → Grid) : (s.onGrid g f).pub = s.pub := rfl
@[simp] theorem State.onGrid_cap (g : Nat) (f : Grid → Grid) : (s.onGrid g f).cap = s.cap := rfl
@[simp] theorem State.onGrid_dmv (g : Nat) (f : Grid → Grid) : (s.onGrid g f).dmv = s.dmv := rfl
@[simp] theorem State.onGrid_sup (g : Nat) (f : Grid → Grid) : (s.onGrid g f).sup = s.sup := rfl
@[simp] theorem State.onGrid_sec (g : Nat) (f : Grid → Grid) : (s.onGrid g f).sec = s.sec := rfl
@[simp] theorem State.onGrid_sys (g : Nat) (f : Grid → Grid) : (s.onGrid g f).sys = s.sys := rfl
@[simp] theorem State.onGrid_mc (g : Nat) (f : Grid → Grid) : (s.onGrid g f).mc = s.mc := rfl
@[simp] theorem State.onGrid_dbg (g : Nat) (f : Grid → Grid) : (s.onGrid g f).dbg = s.dbg := rfl
@[simp] theorem State.onGrid_out (g : Nat) (f : Grid → Grid) : (s.onGrid g f).out = s.out := rfl
@[simp] theorem State.onGrid_free (g : Nat) (f : Grid → Grid) : (s.onGrid g f).free = s.free := rfl
@[simp] theorem State.onGrid_rd (g : Nat) (f : Grid → Grid) (j : Nat) : (s.onGrid g f).rd j = s.rd j := rfl
@[simp] theorem State.onGrid_getF (g : Nat) (f : Grid → Grid) (j : FieldRef) : (s.onGrid g f).getF j = s.getF j := rfl
@[simp] theorem State.onGrid_flag (g : Nat) (f : Grid → Grid) (j : FieldRef) : (s.onGrid g f).flag j = s.flag j := rfl

@[simp] theorem State.onCyc_pending (f : CycState → CycState) : (s.onCyc f).pending = s.pending := rfl
@[simp] theorem State.onCyc_regs (f : CycState → CycState) : (s.onCyc f).regs = s.regs := rfl
@[simp] theorem State.onCyc_mem (f : CycState → CycState) : (s.onCyc f).mem = s.mem := rfl
@[simp] theorem State.onCyc_ports64 (f : CycState → CycState) : (s.onCyc f).ports64 = s.ports64 := rfl
@[simp] theorem State.onCyc_tab (f : CycState → CycState) : (s.onCyc f).tab = s.tab := rfl
@[simp] theorem State.onCyc_pcx (f : CycState → CycState) : (s.onCyc f).pcx = s.pcx := rfl
@[simp] theorem State.onCyc_swc (f : CycState → CycState) : (s.onCyc f).swc = s.swc := rfl
@[simp] theorem State.onCyc_rde (f : CycState → CycState) : (s.onCyc f).rde = s.rde := rfl
@[simp] theorem State.onCyc_svc (f : CycState → CycState) : (s.onCyc f).svc = s.svc := rfl
@[simp] theorem State.onCyc_cyc (f : CycState → CycState) : (s.onCyc f).cyc = f s.cyc := rfl
@[simp] theorem State.onCyc_pub (f : CycState → CycState) : (s.onCyc f).pub = s.pub := rfl
@[simp] theorem State.onCyc_cap (f : CycState → CycState) : (s.onCyc f).cap = s.cap := rfl
@[simp] theorem State.onCyc_dmv (f : CycState → CycState) : (s.onCyc f).dmv = s.dmv := rfl
@[simp] theorem State.onCyc_sup (f : CycState → CycState) : (s.onCyc f).sup = s.sup := rfl
@[simp] theorem State.onCyc_sec (f : CycState → CycState) : (s.onCyc f).sec = s.sec := rfl
@[simp] theorem State.onCyc_sys (f : CycState → CycState) : (s.onCyc f).sys = s.sys := rfl
@[simp] theorem State.onCyc_mc (f : CycState → CycState) : (s.onCyc f).mc = s.mc := rfl
@[simp] theorem State.onCyc_dbg (f : CycState → CycState) : (s.onCyc f).dbg = s.dbg := rfl
@[simp] theorem State.onCyc_out (f : CycState → CycState) : (s.onCyc f).out = s.out := rfl
@[simp] theorem State.onCyc_free (f : CycState → CycState) : (s.onCyc f).free = s.free := rfl
@[simp] theorem State.onCyc_rd (f : CycState → CycState) (j : Nat) : (s.onCyc f).rd j = s.rd j := rfl
@[simp] theorem State.onCyc_getF (f : CycState → CycState) (j : FieldRef) : (s.onCyc f).getF j = s.getF j := rfl
@[simp] theorem State.onCyc_flag (f : CycState → CycState) (j : FieldRef) : (s.onCyc f).flag j = s.flag j := rfl

@[simp] theorem State.onTenant_pending (t : Nat) (f : Tenant → Tenant) : (s.onTenant t f).pending = s.pending := rfl
@[simp] theorem State.onTenant_regs (t : Nat) (f : Tenant → Tenant) : (s.onTenant t f).regs = s.regs := rfl
@[simp] theorem State.onTenant_mem (t : Nat) (f : Tenant → Tenant) : (s.onTenant t f).mem = s.mem := rfl
@[simp] theorem State.onTenant_ports64 (t : Nat) (f : Tenant → Tenant) : (s.onTenant t f).ports64 = s.ports64 := rfl
@[simp] theorem State.onTenant_tab (t : Nat) (f : Tenant → Tenant) : (s.onTenant t f).tab = s.tab := rfl
@[simp] theorem State.onTenant_pcx (t : Nat) (f : Tenant → Tenant) : (s.onTenant t f).pcx = s.pcx := rfl
@[simp] theorem State.onTenant_swc (t : Nat) (f : Tenant → Tenant) : (s.onTenant t f).swc = s.swc := rfl
@[simp] theorem State.onTenant_rde (t : Nat) (f : Tenant → Tenant) : (s.onTenant t f).rde = s.rde := rfl
@[simp] theorem State.onTenant_svc (t : Nat) (f : Tenant → Tenant) : (s.onTenant t f).svc = s.svc := rfl
@[simp] theorem State.onTenant_pub (t : Nat) (f : Tenant → Tenant) : (s.onTenant t f).pub = s.pub := rfl
@[simp] theorem State.onTenant_cap (t : Nat) (f : Tenant → Tenant) : (s.onTenant t f).cap = s.cap := rfl
@[simp] theorem State.onTenant_dmv (t : Nat) (f : Tenant → Tenant) : (s.onTenant t f).dmv = s.dmv := rfl
@[simp] theorem State.onTenant_sup (t : Nat) (f : Tenant → Tenant) : (s.onTenant t f).sup = s.sup := rfl
@[simp] theorem State.onTenant_sec (t : Nat) (f : Tenant → Tenant) : (s.onTenant t f).sec = s.sec := rfl
@[simp] theorem State.onTenant_sys (t : Nat) (f : Tenant → Tenant) : (s.onTenant t f).sys = s.sys := rfl
@[simp] theorem State.onTenant_mc (t : Nat) (f : Tenant → Tenant) : (s.onTenant t f).mc = s.mc := rfl
@[simp] theorem State.onTenant_dbg (t : Nat) (f : Tenant → Tenant) : (s.onTenant t f).dbg = s.dbg := rfl
@[simp] theorem State.onTenant_out (t : Nat) (f : Tenant → Tenant) : (s.onTenant t f).out = s.out := rfl
@[simp] theorem State.onTenant_free (t : Nat) (f : Tenant → Tenant) : (s.onTenant t f).free = s.free := rfl
@[simp] theorem State.onTenant_rd (t : Nat) (f : Tenant → Tenant) (j : Nat) : (s.onTenant t f).rd j = s.rd j := rfl
@[simp] theorem State.onTenant_getF (t : Nat) (f : Tenant → Tenant) (j : FieldRef) : (s.onTenant t f).getF j = s.getF j := rfl
@[simp] theorem State.onTenant_flag (t : Nat) (f : Tenant → Tenant) (j : FieldRef) : (s.onTenant t f).flag j = s.flag j := rfl

@[simp] theorem State.onCore_pending (n : Nat) (f : CycCore → CycCore) : (s.onCore n f).pending = s.pending := rfl
@[simp] theorem State.onCore_regs (n : Nat) (f : CycCore → CycCore) : (s.onCore n f).regs = s.regs := rfl
@[simp] theorem State.onCore_mem (n : Nat) (f : CycCore → CycCore) : (s.onCore n f).mem = s.mem := rfl
@[simp] theorem State.onCore_ports64 (n : Nat) (f : CycCore → CycCore) : (s.onCore n f).ports64 = s.ports64 := rfl
@[simp] theorem State.onCore_tab (n : Nat) (f : CycCore → CycCore) : (s.onCore n f).tab = s.tab := rfl
@[simp] theorem State.onCore_pcx (n : Nat) (f : CycCore → CycCore) : (s.onCore n f).pcx = s.pcx := rfl
@[simp] theorem State.onCore_swc (n : Nat) (f : CycCore → CycCore) : (s.onCore n f).swc = s.swc := rfl
@[simp] theorem State.onCore_rde (n : Nat) (f : CycCore → CycCore) : (s.onCore n f).rde = s.rde := rfl
@[simp] theorem State.onCore_svc (n : Nat) (f : CycCore → CycCore) : (s.onCore n f).svc = s.svc := rfl
@[simp] theorem State.onCore_pub (n : Nat) (f : CycCore → CycCore) : (s.onCore n f).pub = s.pub := rfl
@[simp] theorem State.onCore_cap (n : Nat) (f : CycCore → CycCore) : (s.onCore n f).cap = s.cap := rfl
@[simp] theorem State.onCore_dmv (n : Nat) (f : CycCore → CycCore) : (s.onCore n f).dmv = s.dmv := rfl
@[simp] theorem State.onCore_sup (n : Nat) (f : CycCore → CycCore) : (s.onCore n f).sup = s.sup := rfl
@[simp] theorem State.onCore_sec (n : Nat) (f : CycCore → CycCore) : (s.onCore n f).sec = s.sec := rfl
@[simp] theorem State.onCore_sys (n : Nat) (f : CycCore → CycCore) : (s.onCore n f).sys = s.sys := rfl
@[simp] theorem State.onCore_mc (n : Nat) (f : CycCore → CycCore) : (s.onCore n f).mc = s.mc := rfl
@[simp] theorem State.onCore_dbg (n : Nat) (f : CycCore → CycCore) : (s.onCore n f).dbg = s.dbg := rfl
@[simp] theorem State.onCore_out (n : Nat) (f : CycCore → CycCore) : (s.onCore n f).out = s.out := rfl
@[simp] theorem State.onCore_free (n : Nat) (f : CycCore → CycCore) : (s.onCore n f).free = s.free := rfl
@[simp] theorem State.onCore_rd (n : Nat) (f : CycCore → CycCore) (j : Nat) : (s.onCore n f).rd j = s.rd j := rfl
@[simp] theorem State.onCore_getF (n : Nat) (f : CycCore → CycCore) (j : FieldRef) : (s.onCore n f).getF j = s.getF j := rfl
@[simp] theorem State.onCore_flag (n : Nat) (f : CycCore → CycCore) (j : FieldRef) : (s.onCore n f).flag j = s.flag j := rfl

@[simp] theorem State.onPub_pending (f : PubBlock → PubBlock) : (s.onPub f).pending = s.pending := rfl
@[simp] theorem State.onPub_regs (f : PubBlock → PubBlock) : (s.onPub f).regs = s.regs := rfl
@[simp] theorem State.onPub_mem (f : PubBlock → PubBlock) : (s.onPub f).mem = s.mem := rfl
@[simp] theorem State.onPub_ports64 (f : PubBlock → PubBlock) : (s.onPub f).ports64 = s.ports64 := rfl
@[simp] theorem State.onPub_tab (f : PubBlock → PubBlock) : (s.onPub f).tab = s.tab := rfl
@[simp] theorem State.onPub_pcx (f : PubBlock → PubBlock) : (s.onPub f).pcx = s.pcx := rfl
@[simp] theorem State.onPub_swc (f : PubBlock → PubBlock) : (s.onPub f).swc = s.swc := rfl
@[simp] theorem State.onPub_rde (f : PubBlock → PubBlock) : (s.onPub f).rde = s.rde := rfl
@[simp] theorem State.onPub_svc (f : PubBlock → PubBlock) : (s.onPub f).svc = s.svc := rfl
@[simp] theorem State.onPub_cyc (f : PubBlock → PubBlock) : (s.onPub f).cyc = s.cyc := rfl
@[simp] theorem State.onPub_pub (f : PubBlock → PubBlock) : (s.onPub f).pub = f s.pub := rfl
@[simp] theorem State.onPub_cap (f : PubBlock → PubBlock) : (s.onPub f).cap = s.cap := rfl
@[simp] theorem State.onPub_dmv (f : PubBlock → PubBlock) : (s.onPub f).dmv = s.dmv := rfl
@[simp] theorem State.onPub_sup (f : PubBlock → PubBlock) : (s.onPub f).sup = s.sup := rfl
@[simp] theorem State.onPub_sec (f : PubBlock → PubBlock) : (s.onPub f).sec = s.sec := rfl
@[simp] theorem State.onPub_sys (f : PubBlock → PubBlock) : (s.onPub f).sys = s.sys := rfl
@[simp] theorem State.onPub_mc (f : PubBlock → PubBlock) : (s.onPub f).mc = s.mc := rfl
@[simp] theorem State.onPub_dbg (f : PubBlock → PubBlock) : (s.onPub f).dbg = s.dbg := rfl
@[simp] theorem State.onPub_out (f : PubBlock → PubBlock) : (s.onPub f).out = s.out := rfl
@[simp] theorem State.onPub_free (f : PubBlock → PubBlock) : (s.onPub f).free = s.free := rfl
@[simp] theorem State.onPub_rd (f : PubBlock → PubBlock) (j : Nat) : (s.onPub f).rd j = s.rd j := rfl
@[simp] theorem State.onPub_getF (f : PubBlock → PubBlock) (j : FieldRef) : (s.onPub f).getF j = s.getF j := rfl
@[simp] theorem State.onPub_flag (f : PubBlock → PubBlock) (j : FieldRef) : (s.onPub f).flag j = s.flag j := rfl

@[simp] theorem State.onPb_pending (n : Nat) (f : Pub → Pub) : (s.onPb n f).pending = s.pending := rfl
@[simp] theorem State.onPb_regs (n : Nat) (f : Pub → Pub) : (s.onPb n f).regs = s.regs := rfl
@[simp] theorem State.onPb_mem (n : Nat) (f : Pub → Pub) : (s.onPb n f).mem = s.mem := rfl
@[simp] theorem State.onPb_ports64 (n : Nat) (f : Pub → Pub) : (s.onPb n f).ports64 = s.ports64 := rfl
@[simp] theorem State.onPb_tab (n : Nat) (f : Pub → Pub) : (s.onPb n f).tab = s.tab := rfl
@[simp] theorem State.onPb_pcx (n : Nat) (f : Pub → Pub) : (s.onPb n f).pcx = s.pcx := rfl
@[simp] theorem State.onPb_swc (n : Nat) (f : Pub → Pub) : (s.onPb n f).swc = s.swc := rfl
@[simp] theorem State.onPb_rde (n : Nat) (f : Pub → Pub) : (s.onPb n f).rde = s.rde := rfl
@[simp] theorem State.onPb_svc (n : Nat) (f : Pub → Pub) : (s.onPb n f).svc = s.svc := rfl
@[simp] theorem State.onPb_cyc (n : Nat) (f : Pub → Pub) : (s.onPb n f).cyc = s.cyc := rfl
@[simp] theorem State.onPb_cap (n : Nat) (f : Pub → Pub) : (s.onPb n f).cap = s.cap := rfl
@[simp] theorem State.onPb_dmv (n : Nat) (f : Pub → Pub) : (s.onPb n f).dmv = s.dmv := rfl
@[simp] theorem State.onPb_sup (n : Nat) (f : Pub → Pub) : (s.onPb n f).sup = s.sup := rfl
@[simp] theorem State.onPb_sec (n : Nat) (f : Pub → Pub) : (s.onPb n f).sec = s.sec := rfl
@[simp] theorem State.onPb_sys (n : Nat) (f : Pub → Pub) : (s.onPb n f).sys = s.sys := rfl
@[simp] theorem State.onPb_mc (n : Nat) (f : Pub → Pub) : (s.onPb n f).mc = s.mc := rfl
@[simp] theorem State.onPb_dbg (n : Nat) (f : Pub → Pub) : (s.onPb n f).dbg = s.dbg := rfl
@[simp] theorem State.onPb_out (n : Nat) (f : Pub → Pub) : (s.onPb n f).out = s.out := rfl
@[simp] theorem State.onPb_free (n : Nat) (f : Pub → Pub) : (s.onPb n f).free = s.free := rfl
@[simp] theorem State.onPb_rd (n : Nat) (f : Pub → Pub) (j : Nat) : (s.onPb n f).rd j = s.rd j := rfl
@[simp] theorem State.onPb_getF (n : Nat) (f : Pub → Pub) (j : FieldRef) : (s.onPb n f).getF j = s.getF j := rfl
@[simp] theorem State.onPb_flag (n : Nat) (f : Pub → Pub) (j : FieldRef) : (s.onPb n f).flag j = s.flag j := rfl

@[simp] theorem State.onCu_pending (u : Nat) (f : CapUnit → CapUnit) : (s.onCu u f).pending = s.pending := rfl
@[simp] theorem State.onCu_regs (u : Nat) (f : CapUnit → CapUnit) : (s.onCu u f).regs = s.regs := rfl
@[simp] theorem State.onCu_mem (u : Nat) (f : CapUnit → CapUnit) : (s.onCu u f).mem = s.mem := rfl
@[simp] theorem State.onCu_ports64 (u : Nat) (f : CapUnit → CapUnit) : (s.onCu u f).ports64 = s.ports64 := rfl
@[simp] theorem State.onCu_tab (u : Nat) (f : CapUnit → CapUnit) : (s.onCu u f).tab = s.tab := rfl
@[simp] theorem State.onCu_pcx (u : Nat) (f : CapUnit → CapUnit) : (s.onCu u f).pcx = s.pcx := rfl
@[simp] theorem State.onCu_swc (u : Nat) (f : CapUnit → CapUnit) : (s.onCu u f).swc = s.swc := rfl
@[simp] theorem State.onCu_rde (u : Nat) (f : CapUnit → CapUnit) : (s.onCu u f).rde = s.rde := rfl
@[simp] theorem State.onCu_svc (u : Nat) (f : CapUnit → CapUnit) : (s.onCu u f).svc = s.svc := rfl
@[simp] theorem State.onCu_cyc (u : Nat) (f : CapUnit → CapUnit) : (s.onCu u f).cyc = s.cyc := rfl
@[simp] theorem State.onCu_pub (u : Nat) (f : CapUnit → CapUnit) : (s.onCu u f).pub = s.pub := rfl
@[simp] theorem State.onCu_dmv (u : Nat) (f : CapUnit → CapUnit) : (s.onCu u f).dmv = s.dmv := rfl
@[simp] theorem State.onCu_sup (u : Nat) (f : CapUnit → CapUnit) : (s.onCu u f).sup = s.sup := rfl
@[simp] theorem State.onCu_sec (u : Nat) (f : CapUnit → CapUnit) : (s.onCu u f).sec = s.sec := rfl
@[simp] theorem State.onCu_sys (u : Nat) (f : CapUnit → CapUnit) : (s.onCu u f).sys = s.sys := rfl
@[simp] theorem State.onCu_mc (u : Nat) (f : CapUnit → CapUnit) : (s.onCu u f).mc = s.mc := rfl
@[simp] theorem State.onCu_dbg (u : Nat) (f : CapUnit → CapUnit) : (s.onCu u f).dbg = s.dbg := rfl
@[simp] theorem State.onCu_out (u : Nat) (f : CapUnit → CapUnit) : (s.onCu u f).out = s.out := rfl
@[simp] theorem State.onCu_free (u : Nat) (f : CapUnit → CapUnit) : (s.onCu u f).free = s.free := rfl
@[simp] theorem State.onCu_rd (u : Nat) (f : CapUnit → CapUnit) (j : Nat) : (s.onCu u f).rd j = s.rd j := rfl
@[simp] theorem State.onCu_getF (u : Nat) (f : CapUnit → CapUnit) (j : FieldRef) : (s.onCu u f).getF j = s.getF j := rfl
@[simp] theorem State.onCu_flag (u : Nat) (f : CapUnit → CapUnit) (j : FieldRef) : (s.onCu u f).flag j = s.flag j := rfl

@[simp] theorem State.onDmv_pending (f : DmvState → DmvState) : (s.onDmv f).pending = s.pending := rfl
@[simp] theorem State.onDmv_regs (f : DmvState → DmvState) : (s.onDmv f).regs = s.regs := rfl
@[simp] theorem State.onDmv_mem (f : DmvState → DmvState) : (s.onDmv f).mem = s.mem := rfl
@[simp] theorem State.onDmv_ports64 (f : DmvState → DmvState) : (s.onDmv f).ports64 = s.ports64 := rfl
@[simp] theorem State.onDmv_tab (f : DmvState → DmvState) : (s.onDmv f).tab = s.tab := rfl
@[simp] theorem State.onDmv_pcx (f : DmvState → DmvState) : (s.onDmv f).pcx = s.pcx := rfl
@[simp] theorem State.onDmv_swc (f : DmvState → DmvState) : (s.onDmv f).swc = s.swc := rfl
@[simp] theorem State.onDmv_rde (f : DmvState → DmvState) : (s.onDmv f).rde = s.rde := rfl
@[simp] theorem State.onDmv_svc (f : DmvState → DmvState) : (s.onDmv f).svc = s.svc := rfl
@[simp] theorem State.onDmv_cyc (f : DmvState → DmvState) : (s.onDmv f).cyc = s.cyc := rfl
@[simp] theorem State.onDmv_pub (f : DmvState → DmvState) : (s.onDmv f).pub = s.pub := rfl
@[simp] theorem State.onDmv_cap (f : DmvState → DmvState) : (s.onDmv f).cap = s.cap := rfl
@[simp] theorem State.onDmv_dmv (f : DmvState → DmvState) : (s.onDmv f).dmv = f s.dmv := rfl
@[simp] theorem State.onDmv_sup (f : DmvState → DmvState) : (s.onDmv f).sup = s.sup := rfl
@[simp] theorem State.onDmv_sec (f : DmvState → DmvState) : (s.onDmv f).sec = s.sec := rfl
@[simp] theorem State.onDmv_sys (f : DmvState → DmvState) : (s.onDmv f).sys = s.sys := rfl
@[simp] theorem State.onDmv_mc (f : DmvState → DmvState) : (s.onDmv f).mc = s.mc := rfl
@[simp] theorem State.onDmv_dbg (f : DmvState → DmvState) : (s.onDmv f).dbg = s.dbg := rfl
@[simp] theorem State.onDmv_out (f : DmvState → DmvState) : (s.onDmv f).out = s.out := rfl
@[simp] theorem State.onDmv_free (f : DmvState → DmvState) : (s.onDmv f).free = s.free := rfl
@[simp] theorem State.onDmv_rd (f : DmvState → DmvState) (j : Nat) : (s.onDmv f).rd j = s.rd j := rfl
@[simp] theorem State.onDmv_getF (f : DmvState → DmvState) (j : FieldRef) : (s.onDmv f).getF j = s.getF j := rfl
@[simp] theorem State.onDmv_flag (f : DmvState → DmvState) (j : FieldRef) : (s.onDmv f).flag j = s.flag j := rfl

@[simp] theorem State.onMover_pending (m : Nat) (f : Mover → Mover) : (s.onMover m f).pending = s.pending := rfl
@[simp] theorem State.onMover_regs (m : Nat) (f : Mover → Mover) : (s.onMover m f).regs = s.regs := rfl
@[simp] theorem State.onMover_mem (m : Nat) (f : Mover → Mover) : (s.onMover m f).mem = s.mem := rfl
@[simp] theorem State.onMover_ports64 (m : Nat) (f : Mover → Mover) : (s.onMover m f).ports64 = s.ports64 := rfl
@[simp] theorem State.onMover_tab (m : Nat) (f : Mover → Mover) : (s.onMover m f).tab = s.tab := rfl
@[simp] theorem State.onMover_pcx (m : Nat) (f : Mover → Mover) : (s.onMover m f).pcx = s.pcx := rfl
@[simp] theorem State.onMover_swc (m : Nat) (f : Mover → Mover) : (s.onMover m f).swc = s.swc := rfl
@[simp] theorem State.onMover_rde (m : Nat) (f : Mover → Mover) : (s.onMover m f).rde = s.rde := rfl
@[simp] theorem State.onMover_svc (m : Nat) (f : Mover → Mover) : (s.onMover m f).svc = s.svc := rfl
@[simp] theorem State.onMover_cyc (m : Nat) (f : Mover → Mover) : (s.onMover m f).cyc = s.cyc := rfl
@[simp] theorem State.onMover_pub (m : Nat) (f : Mover → Mover) : (s.onMover m f).pub = s.pub := rfl
@[simp] theorem State.onMover_cap (m : Nat) (f : Mover → Mover) : (s.onMover m f).cap = s.cap := rfl
@[simp] theorem State.onMover_sup (m : Nat) (f : Mover → Mover) : (s.onMover m f).sup = s.sup := rfl
@[simp] theorem State.onMover_sec (m : Nat) (f : Mover → Mover) : (s.onMover m f).sec = s.sec := rfl
@[simp] theorem State.onMover_sys (m : Nat) (f : Mover → Mover) : (s.onMover m f).sys = s.sys := rfl
@[simp] theorem State.onMover_mc (m : Nat) (f : Mover → Mover) : (s.onMover m f).mc = s.mc := rfl
@[simp] theorem State.onMover_dbg (m : Nat) (f : Mover → Mover) : (s.onMover m f).dbg = s.dbg := rfl
@[simp] theorem State.onMover_out (m : Nat) (f : Mover → Mover) : (s.onMover m f).out = s.out := rfl
@[simp] theorem State.onMover_free (m : Nat) (f : Mover → Mover) : (s.onMover m f).free = s.free := rfl
@[simp] theorem State.onMover_rd (m : Nat) (f : Mover → Mover) (j : Nat) : (s.onMover m f).rd j = s.rd j := rfl
@[simp] theorem State.onMover_getF (m : Nat) (f : Mover → Mover) (j : FieldRef) : (s.onMover m f).getF j = s.getF j := rfl
@[simp] theorem State.onMover_flag (m : Nat) (f : Mover → Mover) (j : FieldRef) : (s.onMover m f).flag j = s.flag j := rfl

@[simp] theorem State.onSup_pending (c : Nat) (f : SupCore → SupCore) : (s.onSup c f).pending = s.pending := rfl
@[simp] theorem State.onSup_regs (c : Nat) (f : SupCore → SupCore) : (s.onSup c f).regs = s.regs := rfl
@[simp] theorem State.onSup_mem (c : Nat) (f : SupCore → SupCore) : (s.onSup c f).mem = s.mem := rfl
@[simp] theorem State.onSup_ports64 (c : Nat) (f : SupCore → SupCore) : (s.onSup c f).ports64 = s.ports64 := rfl
@[simp] theorem State.onSup_tab (c : Nat) (f : SupCore → SupCore) : (s.onSup c f).tab = s.tab := rfl
@[simp] theorem State.onSup_pcx (c : Nat) (f : SupCore → SupCore) : (s.onSup c f).pcx = s.pcx := rfl
@[simp] theorem State.onSup_swc (c : Nat) (f : SupCore → SupCore) : (s.onSup c f).swc = s.swc := rfl
@[simp] theorem State.onSup_rde (c : Nat) (f : SupCore → SupCore) : (s.onSup c f).rde = s.rde := rfl
@[simp] theorem State.onSup_svc (c : Nat) (f : SupCore → SupCore) : (s.onSup c f).svc = s.svc := rfl
@[simp] theorem State.onSup_cyc (c : Nat) (f : SupCore → SupCore) : (s.onSup c f).cyc = s.cyc := rfl
@[simp] theorem State.onSup_pub (c : Nat) (f : SupCore → SupCore) : (s.onSup c f).pub = s.pub := rfl
@[simp] theorem State.onSup_cap (c : Nat) (f : SupCore → SupCore) : (s.onSup c f).cap = s.cap := rfl
@[simp] theorem State.onSup_dmv (c : Nat) (f : SupCore → SupCore) : (s.onSup c f).dmv = s.dmv := rfl
@[simp] theorem State.onSup_sec (c : Nat) (f : SupCore → SupCore) : (s.onSup c f).sec = s.sec := rfl
@[simp] theorem State.onSup_sys (c : Nat) (f : SupCore → SupCore) : (s.onSup c f).sys = s.sys := rfl
@[simp] theorem State.onSup_mc (c : Nat) (f : SupCore → SupCore) : (s.onSup c f).mc = s.mc := rfl
@[simp] theorem State.onSup_dbg (c : Nat) (f : SupCore → SupCore) : (s.onSup c f).dbg = s.dbg := rfl
@[simp] theorem State.onSup_out (c : Nat) (f : SupCore → SupCore) : (s.onSup c f).out = s.out := rfl
@[simp] theorem State.onSup_free (c : Nat) (f : SupCore → SupCore) : (s.onSup c f).free = s.free := rfl
@[simp] theorem State.onSup_rd (c : Nat) (f : SupCore → SupCore) (j : Nat) : (s.onSup c f).rd j = s.rd j := rfl
@[simp] theorem State.onSup_getF (c : Nat) (f : SupCore → SupCore) (j : FieldRef) : (s.onSup c f).getF j = s.getF j := rfl
@[simp] theorem State.onSup_flag (c : Nat) (f : SupCore → SupCore) (j : FieldRef) : (s.onSup c f).flag j = s.flag j := rfl

@[simp] theorem State.onSupLines_pending (f : List CLine → List CLine) : (s.onSupLines f).pending = s.pending := rfl
@[simp] theorem State.onSupLines_regs (f : List CLine → List CLine) : (s.onSupLines f).regs = s.regs := rfl
@[simp] theorem State.onSupLines_mem (f : List CLine → List CLine) : (s.onSupLines f).mem = s.mem := rfl
@[simp] theorem State.onSupLines_ports64 (f : List CLine → List CLine) : (s.onSupLines f).ports64 = s.ports64 := rfl
@[simp] theorem State.onSupLines_tab (f : List CLine → List CLine) : (s.onSupLines f).tab = s.tab := rfl
@[simp] theorem State.onSupLines_pcx (f : List CLine → List CLine) : (s.onSupLines f).pcx = s.pcx := rfl
@[simp] theorem State.onSupLines_swc (f : List CLine → List CLine) : (s.onSupLines f).swc = s.swc := rfl
@[simp] theorem State.onSupLines_rde (f : List CLine → List CLine) : (s.onSupLines f).rde = s.rde := rfl
@[simp] theorem State.onSupLines_svc (f : List CLine → List CLine) : (s.onSupLines f).svc = s.svc := rfl
@[simp] theorem State.onSupLines_cyc (f : List CLine → List CLine) : (s.onSupLines f).cyc = s.cyc := rfl
@[simp] theorem State.onSupLines_pub (f : List CLine → List CLine) : (s.onSupLines f).pub = s.pub := rfl
@[simp] theorem State.onSupLines_cap (f : List CLine → List CLine) : (s.onSupLines f).cap = s.cap := rfl
@[simp] theorem State.onSupLines_dmv (f : List CLine → List CLine) : (s.onSupLines f).dmv = s.dmv := rfl
@[simp] theorem State.onSupLines_sec (f : List CLine → List CLine) : (s.onSupLines f).sec = s.sec := rfl
@[simp] theorem State.onSupLines_sys (f : List CLine → List CLine) : (s.onSupLines f).sys = s.sys := rfl
@[simp] theorem State.onSupLines_mc (f : List CLine → List CLine) : (s.onSupLines f).mc = s.mc := rfl
@[simp] theorem State.onSupLines_dbg (f : List CLine → List CLine) : (s.onSupLines f).dbg = s.dbg := rfl
@[simp] theorem State.onSupLines_out (f : List CLine → List CLine) : (s.onSupLines f).out = s.out := rfl
@[simp] theorem State.onSupLines_free (f : List CLine → List CLine) : (s.onSupLines f).free = s.free := rfl
@[simp] theorem State.onSupLines_rd (f : List CLine → List CLine) (j : Nat) : (s.onSupLines f).rd j = s.rd j := rfl
@[simp] theorem State.onSupLines_getF (f : List CLine → List CLine) (j : FieldRef) : (s.onSupLines f).getF j = s.getF j := rfl
@[simp] theorem State.onSupLines_flag (f : List CLine → List CLine) (j : FieldRef) : (s.onSupLines f).flag j = s.flag j := rfl

@[simp] theorem State.onSec_pending (f : SecState → SecState) : (s.onSec f).pending = s.pending := rfl
@[simp] theorem State.onSec_regs (f : SecState → SecState) : (s.onSec f).regs = s.regs := rfl
@[simp] theorem State.onSec_mem (f : SecState → SecState) : (s.onSec f).mem = s.mem := rfl
@[simp] theorem State.onSec_ports64 (f : SecState → SecState) : (s.onSec f).ports64 = s.ports64 := rfl
@[simp] theorem State.onSec_tab (f : SecState → SecState) : (s.onSec f).tab = s.tab := rfl
@[simp] theorem State.onSec_pcx (f : SecState → SecState) : (s.onSec f).pcx = s.pcx := rfl
@[simp] theorem State.onSec_swc (f : SecState → SecState) : (s.onSec f).swc = s.swc := rfl
@[simp] theorem State.onSec_rde (f : SecState → SecState) : (s.onSec f).rde = s.rde := rfl
@[simp] theorem State.onSec_svc (f : SecState → SecState) : (s.onSec f).svc = s.svc := rfl
@[simp] theorem State.onSec_cyc (f : SecState → SecState) : (s.onSec f).cyc = s.cyc := rfl
@[simp] theorem State.onSec_pub (f : SecState → SecState) : (s.onSec f).pub = s.pub := rfl
@[simp] theorem State.onSec_cap (f : SecState → SecState) : (s.onSec f).cap = s.cap := rfl
@[simp] theorem State.onSec_dmv (f : SecState → SecState) : (s.onSec f).dmv = s.dmv := rfl
@[simp] theorem State.onSec_sup (f : SecState → SecState) : (s.onSec f).sup = s.sup := rfl
@[simp] theorem State.onSec_sec (f : SecState → SecState) : (s.onSec f).sec = f s.sec := rfl
@[simp] theorem State.onSec_sys (f : SecState → SecState) : (s.onSec f).sys = s.sys := rfl
@[simp] theorem State.onSec_mc (f : SecState → SecState) : (s.onSec f).mc = s.mc := rfl
@[simp] theorem State.onSec_dbg (f : SecState → SecState) : (s.onSec f).dbg = s.dbg := rfl
@[simp] theorem State.onSec_out (f : SecState → SecState) : (s.onSec f).out = s.out := rfl
@[simp] theorem State.onSec_free (f : SecState → SecState) : (s.onSec f).free = s.free := rfl
@[simp] theorem State.onSec_rd (f : SecState → SecState) (j : Nat) : (s.onSec f).rd j = s.rd j := rfl
@[simp] theorem State.onSec_getF (f : SecState → SecState) (j : FieldRef) : (s.onSec f).getF j = s.getF j := rfl
@[simp] theorem State.onSec_flag (f : SecState → SecState) (j : FieldRef) : (s.onSec f).flag j = s.flag j := rfl

@[simp] theorem State.setKeySlot_pending (n : Nat) (k : KeySlot) : (s.setKeySlot n k).pending = s.pending := rfl
@[simp] theorem State.setKeySlot_regs (n : Nat) (k : KeySlot) : (s.setKeySlot n k).regs = s.regs := rfl
@[simp] theorem State.setKeySlot_mem (n : Nat) (k : KeySlot) : (s.setKeySlot n k).mem = s.mem := rfl
@[simp] theorem State.setKeySlot_ports64 (n : Nat) (k : KeySlot) : (s.setKeySlot n k).ports64 = s.ports64 := rfl
@[simp] theorem State.setKeySlot_tab (n : Nat) (k : KeySlot) : (s.setKeySlot n k).tab = s.tab := rfl
@[simp] theorem State.setKeySlot_pcx (n : Nat) (k : KeySlot) : (s.setKeySlot n k).pcx = s.pcx := rfl
@[simp] theorem State.setKeySlot_swc (n : Nat) (k : KeySlot) : (s.setKeySlot n k).swc = s.swc := rfl
@[simp] theorem State.setKeySlot_rde (n : Nat) (k : KeySlot) : (s.setKeySlot n k).rde = s.rde := rfl
@[simp] theorem State.setKeySlot_svc (n : Nat) (k : KeySlot) : (s.setKeySlot n k).svc = s.svc := rfl
@[simp] theorem State.setKeySlot_cyc (n : Nat) (k : KeySlot) : (s.setKeySlot n k).cyc = s.cyc := rfl
@[simp] theorem State.setKeySlot_pub (n : Nat) (k : KeySlot) : (s.setKeySlot n k).pub = s.pub := rfl
@[simp] theorem State.setKeySlot_cap (n : Nat) (k : KeySlot) : (s.setKeySlot n k).cap = s.cap := rfl
@[simp] theorem State.setKeySlot_dmv (n : Nat) (k : KeySlot) : (s.setKeySlot n k).dmv = s.dmv := rfl
@[simp] theorem State.setKeySlot_sup (n : Nat) (k : KeySlot) : (s.setKeySlot n k).sup = s.sup := rfl
@[simp] theorem State.setKeySlot_sys (n : Nat) (k : KeySlot) : (s.setKeySlot n k).sys = s.sys := rfl
@[simp] theorem State.setKeySlot_mc (n : Nat) (k : KeySlot) : (s.setKeySlot n k).mc = s.mc := rfl
@[simp] theorem State.setKeySlot_dbg (n : Nat) (k : KeySlot) : (s.setKeySlot n k).dbg = s.dbg := rfl
@[simp] theorem State.setKeySlot_out (n : Nat) (k : KeySlot) : (s.setKeySlot n k).out = s.out := rfl
@[simp] theorem State.setKeySlot_free (n : Nat) (k : KeySlot) : (s.setKeySlot n k).free = s.free := rfl
@[simp] theorem State.setKeySlot_rd (n : Nat) (k : KeySlot) (j : Nat) : (s.setKeySlot n k).rd j = s.rd j := rfl
@[simp] theorem State.setKeySlot_getF (n : Nat) (k : KeySlot) (j : FieldRef) : (s.setKeySlot n k).getF j = s.getF j := rfl
@[simp] theorem State.setKeySlot_flag (n : Nat) (k : KeySlot) (j : FieldRef) : (s.setKeySlot n k).flag j = s.flag j := rfl

@[simp] theorem State.onSys_pending (f : SysState → SysState) : (s.onSys f).pending = s.pending := rfl
@[simp] theorem State.onSys_regs (f : SysState → SysState) : (s.onSys f).regs = s.regs := rfl
@[simp] theorem State.onSys_mem (f : SysState → SysState) : (s.onSys f).mem = s.mem := rfl
@[simp] theorem State.onSys_ports64 (f : SysState → SysState) : (s.onSys f).ports64 = s.ports64 := rfl
@[simp] theorem State.onSys_tab (f : SysState → SysState) : (s.onSys f).tab = s.tab := rfl
@[simp] theorem State.onSys_pcx (f : SysState → SysState) : (s.onSys f).pcx = s.pcx := rfl
@[simp] theorem State.onSys_swc (f : SysState → SysState) : (s.onSys f).swc = s.swc := rfl
@[simp] theorem State.onSys_rde (f : SysState → SysState) : (s.onSys f).rde = s.rde := rfl
@[simp] theorem State.onSys_svc (f : SysState → SysState) : (s.onSys f).svc = s.svc := rfl
@[simp] theorem State.onSys_cyc (f : SysState → SysState) : (s.onSys f).cyc = s.cyc := rfl
@[simp] theorem State.onSys_pub (f : SysState → SysState) : (s.onSys f).pub = s.pub := rfl
@[simp] theorem State.onSys_cap (f : SysState → SysState) : (s.onSys f).cap = s.cap := rfl
@[simp] theorem State.onSys_dmv (f : SysState → SysState) : (s.onSys f).dmv = s.dmv := rfl
@[simp] theorem State.onSys_sup (f : SysState → SysState) : (s.onSys f).sup = s.sup := rfl
@[simp] theorem State.onSys_sec (f : SysState → SysState) : (s.onSys f).sec = s.sec := rfl
@[simp] theorem State.onSys_sys (f : SysState → SysState) : (s.onSys f).sys = f s.sys := rfl
@[simp] theorem State.onSys_mc (f : SysState → SysState) : (s.onSys f).mc = s.mc := rfl
@[simp] theorem State.onSys_dbg (f : SysState → SysState) : (s.onSys f).dbg = s.dbg := rfl
@[simp] theorem State.onSys_out (f : SysState → SysState) : (s.onSys f).out = s.out := rfl
@[simp] theorem State.onSys_free (f : SysState → SysState) : (s.onSys f).free = s.free := rfl
@[simp] theorem State.onSys_rd (f : SysState → SysState) (j : Nat) : (s.onSys f).rd j = s.rd j := rfl
@[simp] theorem State.onSys_getF (f : SysState → SysState) (j : FieldRef) : (s.onSys f).getF j = s.getF j := rfl
@[simp] theorem State.onSys_flag (f : SysState → SysState) (j : FieldRef) : (s.onSys f).flag j = s.flag j := rfl

@[simp] theorem State.onMc_pending (f : MemCtl → MemCtl) : (s.onMc f).pending = s.pending := rfl
@[simp] theorem State.onMc_regs (f : MemCtl → MemCtl) : (s.onMc f).regs = s.regs := rfl
@[simp] theorem State.onMc_mem (f : MemCtl → MemCtl) : (s.onMc f).mem = s.mem := rfl
@[simp] theorem State.onMc_ports64 (f : MemCtl → MemCtl) : (s.onMc f).ports64 = s.ports64 := rfl
@[simp] theorem State.onMc_tab (f : MemCtl → MemCtl) : (s.onMc f).tab = s.tab := rfl
@[simp] theorem State.onMc_pcx (f : MemCtl → MemCtl) : (s.onMc f).pcx = s.pcx := rfl
@[simp] theorem State.onMc_swc (f : MemCtl → MemCtl) : (s.onMc f).swc = s.swc := rfl
@[simp] theorem State.onMc_rde (f : MemCtl → MemCtl) : (s.onMc f).rde = s.rde := rfl
@[simp] theorem State.onMc_svc (f : MemCtl → MemCtl) : (s.onMc f).svc = s.svc := rfl
@[simp] theorem State.onMc_cyc (f : MemCtl → MemCtl) : (s.onMc f).cyc = s.cyc := rfl
@[simp] theorem State.onMc_pub (f : MemCtl → MemCtl) : (s.onMc f).pub = s.pub := rfl
@[simp] theorem State.onMc_cap (f : MemCtl → MemCtl) : (s.onMc f).cap = s.cap := rfl
@[simp] theorem State.onMc_dmv (f : MemCtl → MemCtl) : (s.onMc f).dmv = s.dmv := rfl
@[simp] theorem State.onMc_sup (f : MemCtl → MemCtl) : (s.onMc f).sup = s.sup := rfl
@[simp] theorem State.onMc_sec (f : MemCtl → MemCtl) : (s.onMc f).sec = s.sec := rfl
@[simp] theorem State.onMc_sys (f : MemCtl → MemCtl) : (s.onMc f).sys = s.sys := rfl
@[simp] theorem State.onMc_mc (f : MemCtl → MemCtl) : (s.onMc f).mc = f s.mc := rfl
@[simp] theorem State.onMc_dbg (f : MemCtl → MemCtl) : (s.onMc f).dbg = s.dbg := rfl
@[simp] theorem State.onMc_out (f : MemCtl → MemCtl) : (s.onMc f).out = s.out := rfl
@[simp] theorem State.onMc_free (f : MemCtl → MemCtl) : (s.onMc f).free = s.free := rfl
@[simp] theorem State.onMc_rd (f : MemCtl → MemCtl) (j : Nat) : (s.onMc f).rd j = s.rd j := rfl
@[simp] theorem State.onMc_getF (f : MemCtl → MemCtl) (j : FieldRef) : (s.onMc f).getF j = s.getF j := rfl
@[simp] theorem State.onMc_flag (f : MemCtl → MemCtl) (j : FieldRef) : (s.onMc f).flag j = s.flag j := rfl

@[simp] theorem State.onDbg_pending (f : DbgState → DbgState) : (s.onDbg f).pending = s.pending := rfl
@[simp] theorem State.onDbg_regs (f : DbgState → DbgState) : (s.onDbg f).regs = s.regs := rfl
@[simp] theorem State.onDbg_mem (f : DbgState → DbgState) : (s.onDbg f).mem = s.mem := rfl
@[simp] theorem State.onDbg_ports64 (f : DbgState → DbgState) : (s.onDbg f).ports64 = s.ports64 := rfl
@[simp] theorem State.onDbg_tab (f : DbgState → DbgState) : (s.onDbg f).tab = s.tab := rfl
@[simp] theorem State.onDbg_pcx (f : DbgState → DbgState) : (s.onDbg f).pcx = s.pcx := rfl
@[simp] theorem State.onDbg_swc (f : DbgState → DbgState) : (s.onDbg f).swc = s.swc := rfl
@[simp] theorem State.onDbg_rde (f : DbgState → DbgState) : (s.onDbg f).rde = s.rde := rfl
@[simp] theorem State.onDbg_svc (f : DbgState → DbgState) : (s.onDbg f).svc = s.svc := rfl
@[simp] theorem State.onDbg_cyc (f : DbgState → DbgState) : (s.onDbg f).cyc = s.cyc := rfl
@[simp] theorem State.onDbg_pub (f : DbgState → DbgState) : (s.onDbg f).pub = s.pub := rfl
@[simp] theorem State.onDbg_cap (f : DbgState → DbgState) : (s.onDbg f).cap = s.cap := rfl
@[simp] theorem State.onDbg_dmv (f : DbgState → DbgState) : (s.onDbg f).dmv = s.dmv := rfl
@[simp] theorem State.onDbg_sup (f : DbgState → DbgState) : (s.onDbg f).sup = s.sup := rfl
@[simp] theorem State.onDbg_sec (f : DbgState → DbgState) : (s.onDbg f).sec = s.sec := rfl
@[simp] theorem State.onDbg_sys (f : DbgState → DbgState) : (s.onDbg f).sys = s.sys := rfl
@[simp] theorem State.onDbg_mc (f : DbgState → DbgState) : (s.onDbg f).mc = s.mc := rfl
@[simp] theorem State.onDbg_dbg (f : DbgState → DbgState) : (s.onDbg f).dbg = f s.dbg := rfl
@[simp] theorem State.onDbg_out (f : DbgState → DbgState) : (s.onDbg f).out = s.out := rfl
@[simp] theorem State.onDbg_free (f : DbgState → DbgState) : (s.onDbg f).free = s.free := rfl
@[simp] theorem State.onDbg_rd (f : DbgState → DbgState) (j : Nat) : (s.onDbg f).rd j = s.rd j := rfl
@[simp] theorem State.onDbg_getF (f : DbgState → DbgState) (j : FieldRef) : (s.onDbg f).getF j = s.getF j := rfl
@[simp] theorem State.onDbg_flag (f : DbgState → DbgState) (j : FieldRef) : (s.onDbg f).flag j = s.flag j := rfl

@[simp] theorem State.takeFree_pending : s.takeFree.2.pending = s.pending := rfl
@[simp] theorem State.takeFree_regs : s.takeFree.2.regs = s.regs := rfl
@[simp] theorem State.takeFree_mem : s.takeFree.2.mem = s.mem := rfl
@[simp] theorem State.takeFree_ports64 : s.takeFree.2.ports64 = s.ports64 := rfl
@[simp] theorem State.takeFree_tab : s.takeFree.2.tab = s.tab := rfl
@[simp] theorem State.takeFree_pcx : s.takeFree.2.pcx = s.pcx := rfl
@[simp] theorem State.takeFree_swc : s.takeFree.2.swc = s.swc := rfl
@[simp] theorem State.takeFree_rde : s.takeFree.2.rde = s.rde := rfl
@[simp] theorem State.takeFree_svc : s.takeFree.2.svc = s.svc := rfl
@[simp] theorem State.takeFree_cyc : s.takeFree.2.cyc = s.cyc := rfl
@[simp] theorem State.takeFree_pub : s.takeFree.2.pub = s.pub := rfl
@[simp] theorem State.takeFree_cap : s.takeFree.2.cap = s.cap := rfl
@[simp] theorem State.takeFree_dmv : s.takeFree.2.dmv = s.dmv := rfl
@[simp] theorem State.takeFree_sup : s.takeFree.2.sup = s.sup := rfl
@[simp] theorem State.takeFree_sec : s.takeFree.2.sec = s.sec := rfl
@[simp] theorem State.takeFree_sys : s.takeFree.2.sys = s.sys := rfl
@[simp] theorem State.takeFree_mc : s.takeFree.2.mc = s.mc := rfl
@[simp] theorem State.takeFree_dbg : s.takeFree.2.dbg = s.dbg := rfl
@[simp] theorem State.takeFree_out : s.takeFree.2.out = s.out := rfl
@[simp] theorem State.takeFree_free : s.takeFree.2.free = s.free + 1 := rfl

/-- What the holdover time of passing cycles does, all of it: HO_ELAPSED and the part of a ms move, and HO_EXPIRED may be raised once
(R78, R79). -/
theorem State.hoTime_cases (s : State) (n : Nat) :
    (¬ s.tab.hoCounting ∧ s.hoTime n = s) ∨
    (s.tab.hoSub + n < msCycles ∧ s.hoTime n = s.onTab fun t => { t with hoSub := (t.hoSub + n) % msCycles }) ∨
    (msCycles ≤ s.tab.hoSub + n ∧
      s.hoTime n = ((s.onTab fun t => { t with hoSub := (t.hoSub + n) % msCycles }).setElapsed
        (min (s.rd TAB.HO_ELAPSED + (s.tab.hoSub + n) / msCycles) (2 ^ 32 - 1))).hoCheck) := by
  unfold State.hoTime
  by_cases h : s.tab.hoCounting
  · by_cases k : s.tab.hoSub + n < msCycles
    · exact .inr (.inl ⟨k, by simp only [h, not_true, if_false, k, if_true]; rfl⟩)
    · refine .inr (.inr ⟨Nat.le_of_not_lt k, ?_⟩)
      simp only [h, not_true, if_false, k, if_false]; rfl
  · exact .inl ⟨h, by simp [h]⟩

/-- HO_EXPIRED's check changes a STATUS bit and the mark that it was raised, nothing else. -/
theorem State.hoCheck_cases (s : State) :
    s.hoCheck = s ∨ s.hoCheck = (s.raise TAB.STATUS_HO_EXPIRED).onTab fun t => { t with hoRaised := true } := by
  unfold State.hoCheck
  split
  · exact .inr rfl
  · exact .inl rfl

/-- What passing cycles do, all of it: the counters of TAB move, at most one segment is remembered (R65, R99), and holdover's time
counts (R78). -/
theorem State.advance_eq (s : State) (n : Nat) :
    ∃ g, s.advance n = State.hoTime { s with tab := { (s.tab.advance s.srvRate (s.rd TAB.WS_FW) n) with segs := g } } n := by
  unfold State.advance State.noteRate
  split
  · split
    · exact ⟨_, rfl⟩
    · exact ⟨_, rfl⟩
  · exact ⟨_, rfl⟩

end Sys2Proof.Machine
end

