-- ==== Sys2Proof/Laws/Regs.lean ====
section
/-!
SUPPORT. Laws/Regs.lean: what a register and a field read as after a write, and a byte of memory after a store.
-/

namespace Sys2Proof.Machine

variable (s : State)

/-- A register just written reads as the low 64 bits of what was written. -/
@[simp] theorem State.rd_wr_self (a v : Nat) : (s.wr a v).rd a = v % 2 ^ 64 := by
  simp [State.rd, State.rdW]

theorem State.rd_wr_ne {a b : Nat} (v : Nat) (h : b ≠ a) : (s.wr a v).rd b = s.rd b := by
  simp [State.rd, State.rdW, smapGet_set_ne _ _ h]

/-- What any register reads as after one is written. -/
theorem State.rd_wr (a b v : Nat) : (s.wr a v).rd b = if b = a then v % 2 ^ 64 else s.rd b := by
  split
  · subst_vars; exact s.rd_wr_self _ v
  · exact s.rd_wr_ne v (by assumption)

theorem State.rd_lt (a : Nat) : s.rd a < 2 ^ 64 := (s.rdW a).isLt

/-- Operations that keep the register file keep every register. -/
theorem State.rd_congr {s t : State} (h : t.regs = s.regs) (a : Nat) : t.rd a = s.rd a := by
  simp [State.rd, State.rdW, h]

theorem State.getF_congr {s t : State} (h : t.regs = s.regs) (f : FieldRef) : t.getF f = s.getF f := by
  simp [State.getF, State.rd_congr h]

theorem putBits_eq (v lo w x : Nat) (hw : 0 < w) :
    putBits v (lo + w - 1) lo x = v / 2 ^ (lo + w) * 2 ^ (lo + w) + x % 2 ^ w * 2 ^ lo + v % 2 ^ lo := by
  have e : lo + w - 1 + 1 - lo = w := by omega
  unfold putBits bits
  rw [e]
  have h1 : v = v / 2 ^ (lo + w) * 2 ^ (lo + w) + v / 2 ^ lo % 2 ^ w * 2 ^ lo + v % 2 ^ lo := by
    have a := Nat.div_add_mod v (2 ^ lo)
    have b := Nat.div_add_mod (v / 2 ^ lo) (2 ^ w)
    rw [Nat.div_div_eq_div_mul, ← pow_add] at b
    calc v = 2 ^ lo * (v / 2 ^ lo) + v % 2 ^ lo := a.symm
      _ = 2 ^ lo * (2 ^ w * (v / 2 ^ (lo + w)) + v / 2 ^ lo % 2 ^ w) + v % 2 ^ lo := by rw [b]
      _ = _ := by rw [pow_add]; ring
  omega

/-- A field just written holds the low bits of what was written. -/
@[simp] theorem State.getF_setF_self (f : FieldRef) (v : Nat) (h : 0 < f.width) (h64 : f.lo + f.width ≤ 64) :
    (s.setF f v).getF f = v % 2 ^ f.width := by
  have hr := s.rd_lt f.addr
  simp only [State.getF, State.setF, State.rd_wr_self, putBits_eq _ _ _ _ h]
  generalize s.rd f.addr = r at *
  have h1 : v % 2 ^ f.width < 2 ^ f.width := Nat.mod_lt _ (by positivity)
  have h2 : r % 2 ^ f.lo < 2 ^ f.lo := Nat.mod_lt _ (by positivity)
  have h3 : (r / 2 ^ (f.lo + f.width) * 2 ^ (f.lo + f.width) + v % 2 ^ f.width * 2 ^ f.lo + r % 2 ^ f.lo) % 2 ^ 64 / 2 ^ f.lo %
      2 ^ f.width = (r / 2 ^ (f.lo + f.width) * 2 ^ (f.lo + f.width) + v % 2 ^ f.width * 2 ^ f.lo + r % 2 ^ f.lo) / 2 ^ f.lo %
      2 ^ f.width := by
    generalize r / 2 ^ (f.lo + f.width) * 2 ^ (f.lo + f.width) + v % 2 ^ f.width * 2 ^ f.lo + r % 2 ^ f.lo = y
    obtain ⟨k, hk⟩ := Nat.exists_eq_add_of_le h64
    rw [show (64 : Nat) = f.lo + (f.width + k) by omega, pow_add, Nat.mod_mul_right_div_self, pow_add, Nat.mod_mul_right_mod]
  rw [h3]
  have h4 : (r / 2 ^ (f.lo + f.width) * 2 ^ (f.lo + f.width) + v % 2 ^ f.width * 2 ^ f.lo + r % 2 ^ f.lo) / 2 ^ f.lo =
      r / 2 ^ (f.lo + f.width) * 2 ^ f.width + v % 2 ^ f.width := by
    rw [show r / 2 ^ (f.lo + f.width) * 2 ^ (f.lo + f.width) + v % 2 ^ f.width * 2 ^ f.lo + r % 2 ^ f.lo =
      r % 2 ^ f.lo + 2 ^ f.lo * (r / 2 ^ (f.lo + f.width) * 2 ^ f.width + v % 2 ^ f.width) by rw [pow_add]; ring,
      Nat.add_mul_div_left _ _ (by positivity), Nat.div_eq_of_lt h2, Nat.zero_add]
  rw [h4, Nat.mul_add_mod_self_right, Nat.mod_mod]

/-- The bits of a word after one of its fields is replaced. -/
theorem testBit_putBits (v lo w x i : Nat) (hw : 0 < w) :
    (putBits v (lo + w - 1) lo x).testBit i = if lo ≤ i ∧ i < lo + w then x.testBit (i - lo) else v.testBit i := by
  rw [putBits_eq _ _ _ _ hw]
  have h2 : v % 2 ^ lo < 2 ^ lo := Nat.mod_lt _ (by positivity)
  have h1 : x % 2 ^ w < 2 ^ w := Nat.mod_lt _ (by positivity)
  rw [show v / 2 ^ (lo + w) * 2 ^ (lo + w) + x % 2 ^ w * 2 ^ lo + v % 2 ^ lo =
    2 ^ lo * (2 ^ w * (v / 2 ^ (lo + w)) + x % 2 ^ w) + v % 2 ^ lo by rw [pow_add]; ring]
  rw [Nat.testBit_two_pow_mul_add _ h2, Nat.testBit_two_pow_mul_add _ h1]
  simp only [Nat.testBit_mod_two_pow, Nat.testBit_div_two_pow]
  split
  · rw [if_neg (by omega)]; simp; omega
  · split
    · rw [if_pos (by omega)]; simp; omega
    · rw [if_neg (by omega)]; congr 1; omega

/-- A write to a field of another register leaves a field alone. -/
theorem State.getF_setF_ne {f g : FieldRef} (v : Nat) (h : g.addr ≠ f.addr) : (s.setF f v).getF g = s.getF g := by
  simp [State.getF, State.setF, State.rd_wr_ne _ _ h]

/-- A write to another field of the same register leaves a field alone. -/
theorem State.getF_setF_apart {f g : FieldRef} (v : Nat) (hf : 0 < f.width)
    (h : g.lo + g.width ≤ f.lo ∨ f.lo + f.width ≤ g.lo) (h64' : g.lo + g.width ≤ 64) :
    (s.setF f v).getF g = s.getF g := by
  by_cases ha : g.addr = f.addr
  · apply Nat.eq_of_testBit_eq
    intro i
    simp only [State.getF, State.setF, ha, State.rd_wr_self, Nat.testBit_mod_two_pow, Nat.testBit_div_two_pow,
      testBit_putBits _ _ _ _ _ hf]
    by_cases hi : i < g.width
    · rw [if_neg (by omega)]; simp [show i + g.lo < 64 by omega]
    · simp [hi]
  · exact s.getF_setF_ne v ha

theorem State.getF_wr_ne {g : FieldRef} {a : Nat} (v : Nat) (h : g.addr ≠ a) : (s.wr a v).getF g = s.getF g := by
  simp [State.getF, State.rd_wr_ne _ _ h]

theorem State.rd_setF_ne {f : FieldRef} {a : Nat} (v : Nat) (h : a ≠ f.addr) : (s.setF f v).rd a = s.rd a :=
  s.rd_wr_ne _ h

theorem State.rd_raise_ne {f : FieldRef} {a : Nat} (h : a ≠ f.addr) : (s.raise f).rd a = s.rd a := s.rd_wr_ne _ h

theorem State.getF_raise_ne {f g : FieldRef} (h : g.addr ≠ f.addr) : (s.raise f).getF g = s.getF g := s.getF_setF_ne _ h

theorem State.getF_raise_self {f : FieldRef} (h : 0 < f.width) (h64 : f.lo + f.width ≤ 64) : (s.raise f).getF f = 1 := by
  rw [State.raise, s.getF_setF_self f 1 h h64, Nat.mod_eq_of_lt (Nat.one_lt_two_pow (by omega))]

/-- An event's bit reads 1 after the event. -/
theorem State.flag_raise_self {f : FieldRef} (h : 0 < f.width) (h64 : f.lo + f.width ≤ 64) : (s.raise f).flag f = true := by
  simp [State.flag, s.getF_raise_self h h64]

theorem State.rd_bump_ne {a b : Nat} (h : b ≠ a) : (s.bump a).rd b = s.rd b := s.rd_wr_ne _ h

/-- A counter counts one event and wraps at 32 bits. -/
theorem State.rd_bump_self (a : Nat) : (s.bump a).rd a = (s.rd a + 1) % 2 ^ 32 := by
  simp only [State.bump, State.bumpBy, State.rd_wr_self]
  omega

theorem State.getF_raise_apart {f g : FieldRef} (hf : 0 < f.width) (h : g.lo + g.width ≤ f.lo ∨ f.lo + f.width ≤ g.lo)
    (h64 : g.lo + g.width ≤ 64) : (s.raise f).getF g = s.getF g := s.getF_setF_apart 1 hf h h64

/-- A byte just stored reads as what was stored. -/
@[simp] theorem State.readByte_store_self (a : Nat) (v : Byte) : (s.storeByte a v).readByte a = v := by
  simp [State.readByte]

theorem State.readByte_store_ne {a b : Nat} (v : Byte) (h : b ≠ a) : (s.storeByte a v).readByte b = s.readByte b := by
  simp [State.readByte, smapGet_set_ne _ _ h]

theorem State.wr_regs_wf {a v : Nat} (h : smapWf regDefault s.regs = true) : smapWf regDefault (s.wr a v).regs = true := by
  simpa using smapSet_wf _ _ h

theorem State.storeByte_mem_wf {a : Nat} {v : Byte} (h : smapWf memDefault s.mem = true) :
    smapWf memDefault (s.storeByte a v).mem = true := by
  simpa using smapSet_wf _ _ h

theorem State.storeBytes_mem_wf {a : Nat} {bs : List Byte} (h : smapWf memDefault s.mem = true) :
    smapWf memDefault (s.storeBytes a bs).mem = true := by
  induction bs generalizing s a with
  | nil => exact h
  | cons b bs ih => exact ih _ (s.storeByte_mem_wf h)

end Sys2Proof.Machine
end

