-- ==== Sys2Proof/Laws/Mem.lean ====
section
/-!
SUPPORT. Laws/Mem.lean: every operation on memory and on the register file keeps the canonical form, and what a byte reads as after
a run of bytes is stored.
-/

namespace Sys2Proof

open Machine

variable {s : State}

theorem Canonical.reset : Canonical State.reset := ⟨rfl, rfl⟩

/-- An operation that touches neither memory nor the register file keeps their form. -/
theorem Canonical.congr {t : State} (h : Canonical s) (hr : t.regs = s.regs) (hm : t.mem = s.mem) : Canonical t := by
  simpa [Canonical, hr, hm] using h

theorem Canonical.wr (h : Canonical s) (a v : Nat) : Canonical (s.wr a v) := ⟨s.wr_regs_wf h.1, h.2⟩

theorem Canonical.setF (h : Canonical s) (f : FieldRef) (v : Nat) : Canonical (s.setF f v) := h.wr _ _

theorem Canonical.raise (h : Canonical s) (f : FieldRef) : Canonical (s.raise f) := h.setF _ _

theorem Canonical.bumpBy (h : Canonical s) (a n : Nat) : Canonical (s.bumpBy a n) := h.wr _ _

theorem Canonical.bump (h : Canonical s) (a : Nat) : Canonical (s.bump a) := h.bumpBy _ _

theorem Canonical.emit (h : Canonical s) (e : OutEvent) : Canonical (s.emit e) := by
  unfold State.emit; split <;> exact h

theorem Canonical.onMc (h : Canonical s) (f : MemCtl → MemCtl) : Canonical (s.onMc f) := h

theorem Canonical.onTab (h : Canonical s) (f : TabState → TabState) : Canonical (s.onTab f) := h

theorem Canonical.setPort64 (h : Canonical s) (who : Requester) (f : Port64 → Port64) : Canonical (s.setPort64 who f) := h

theorem Canonical.respond (h : Canonical s) (who : Requester) (r : Resp) : Canonical (s.respond who r) := h

theorem Canonical.storeByte (h : Canonical s) (a : Nat) (v : Byte) : Canonical (s.storeByte a v) := ⟨h.1, s.storeByte_mem_wf h.2⟩

theorem Canonical.storeBytes (h : Canonical s) (a : Nat) (bs : List Byte) : Canonical (s.storeBytes a bs) := by
  induction bs generalizing s a with
  | nil => exact h
  | cons b bs ih => exact ih (h.storeByte a b) _

theorem Canonical.storeWord (h : Canonical s) (w : Nat) : Canonical (s.storeWord w) := by
  unfold State.storeWord
  split
  · split
    · exact (h.onMc _).raise _
    · exact h
  · exact h

/-- A fold of operations that keep the form keeps it. -/
theorem Canonical.foldl {α : Type} {f : State → α → State} (hf : ∀ s a, Canonical s → Canonical (f s a)) (l : List α)
    (h : Canonical s) : Canonical (l.foldl f s) := by
  induction l generalizing s with
  | nil => exact h
  | cons a l ih => exact ih (hf _ _ h)

theorem Canonical.writeBytes (h : Canonical s) (a : Nat) (bs : List Byte) : Canonical (s.writeBytes a bs) := by
  unfold State.writeBytes
  simp only
  split
  · exact h.storeBytes a bs
  · exact Canonical.foldl (fun _ _ h => h.storeWord _) _ (h.storeBytes a bs)

theorem Canonical.writeByte (h : Canonical s) (a : Nat) (v : Byte) : Canonical (s.writeByte a v) := h.writeBytes _ _

theorem Canonical.writeLe (h : Canonical s) (a n v : Nat) : Canonical (s.writeLe a n v) := h.writeBytes _ _

theorem Canonical.logMemErr (h : Canonical s) (who : MemWho) (a k : Nat) : Canonical (s.logMemErr who a k) := by
  unfold State.logMemErr
  simp only
  split
  · exact h
  · exact (h.wr _ _).wr _ _

theorem Canonical.memCe (h : Canonical s) (who : MemWho) (w : Nat) : Canonical (s.memCe who w) := by
  unfold State.memCe
  simp only
  split <;> exact (((h.onMc _).bump _).raise _).logMemErr _ _ _

theorem Canonical.memUe (h : Canonical s) (who : MemWho) (w : Nat) : Canonical (s.memUe who w) := by
  unfold State.memUe
  split <;> exact ((h.bump _).raise _).logMemErr _ _ _

/-- The check of words keeps the form, whatever it finds. -/
theorem Canonical.eccWords (h : Canonical s) (who : MemWho) (l : List Nat) : Canonical (s.eccWords who l).1 := by
  unfold State.eccWords
  suffices H : ∀ (l : List Nat) (r : State × Bool), Canonical r.1 →
      Canonical (l.foldl (fun (r : State × Bool) w =>
        match smapGet (fun _ => 0) r.1.mc.bad w with
        | 0 => r
        | 1 => (r.1.memCe who w, r.2)
        | _ => (r.1.memUe who w, true)) r).1 from H l (s, false) h
  intro l
  induction l with
  | nil => exact fun _ h => h
  | cons w l ih =>
    intro r h
    refine ih _ ?_
    dsimp only
    split
    · exact h
    · exact h.memCe _ _
    · exact h.memUe _ _

/-- The check of a read keeps the form, whatever it finds. -/
theorem Canonical.eccRead (h : Canonical s) (who : MemWho) (a n : Nat) : Canonical (s.eccRead who a n).1 := by
  unfold State.eccRead
  split
  · exact h.memUe _ _
  · split
    · exact h
    · exact h.eccWords _ _

theorem Canonical.memRead (h : Canonical s) (who : MemWho) (a n : Nat) : Canonical (s.memRead who a n).1 := h.eccRead _ _ _

/-- Clearing a region of memory keeps the form. -/
theorem Canonical.drop (h : Canonical s) (p : Nat × Byte → Bool) : Canonical { s with mem := s.mem.filter p } :=
  ⟨h.1, smapFilter_wf p h.2⟩

@[simp] theorem Machine.State.readByte_storeWord (w b : Nat) : (s.storeWord w).readByte b = s.readByte b := by
  unfold State.storeWord
  split
  · split <;> rfl
  · rfl

@[simp] theorem Machine.State.readByte_foldl_storeWord (l : List Nat) (b : Nat) : (l.foldl State.storeWord s).readByte b = s.readByte b := by
  induction l generalizing s with
  | nil => rfl
  | cons w l ih => rw [List.foldl_cons, ih, State.readByte_storeWord]

/-- What a byte reads as after a run of bytes is stored. -/
theorem Machine.State.readByte_storeBytes (a b : Nat) (bs : List Byte) :
    (s.storeBytes a bs).readByte b = if a ≤ b ∧ b < a + bs.length then bs.getD (b - a) 0 else s.readByte b := by
  induction bs generalizing s a with
  | nil => rw [if_neg (by simp)]; rfl
  | cons x bs ih =>
    rw [State.storeBytes, ih, List.length_cons]
    by_cases hb : b = a
    · subst hb
      rw [if_neg (by omega), if_pos (by omega)]
      simp
    · by_cases h : a + 1 ≤ b ∧ b < a + 1 + bs.length
      · rw [if_pos h, if_pos (by omega), show b - a = (b - (a + 1)) + 1 by omega, List.getD_cons_succ]
      · rw [if_neg h, if_neg (by omega), State.readByte_store_ne _ _ hb]

/-- The bytes written read back, and every other byte of memory stays (R639). -/
theorem Machine.State.readByte_writeBytes (a b : Nat) (bs : List Byte) :
    (s.writeBytes a bs).readByte b = if a ≤ b ∧ b < a + bs.length then bs.getD (b - a) 0 else s.readByte b := by
  unfold State.writeBytes
  simp only
  split
  · exact State.readByte_storeBytes a b bs
  · rw [State.readByte_foldl_storeWord, State.readByte_storeBytes]

end Sys2Proof
end

