-- ==== Sys2Proof/WellFormed.lean ====
section
/-!
DEFINITION. WellFormed.lean: the relations between a command's operands that the manual fixes. A command that breaks one stands for
nothing that a requester, a partner or the SerDes can do; exec is total on it all the same.
-/

namespace Sys2Proof

/-- A requester that issues register accesses of its own (R53): the NVS controller issues none. -/
def Requester.accesses : Requester → Bool
  | .nvs => false
  | _ => true

/-- The half of a 64-bit register that a command names: low words stand at multiples of 8, high words 4 above (R18, R19). -/
def halfAt (addr lo : Nat) : Bool := decide (addr % 8 = lo ∧ addr < 2 ^ 40)

/-- An aligned access of the register space (R17). -/
def alignedAt (addr : Nat) (wide : Bool) : Bool := decide (addr % (if wide then 8 else 4) = 0 ∧ addr < 2 ^ 40)

/-- Beats of a burst: none of its lists names a beat beyond them (R646, R653). -/
def Burst.coherent (b : Burst) : Bool :=
  let n := match b.kind with
    | .read k => k
    | .write ws => ws.length
    | .atomic _ => 1
  decide (1 ≤ n) && b.bad.all (· < n) && b.badAgain.all (· < n) &&
    (match b.kind with
      | .read _ => true
      | .write ws => ws.all fun w => decide (w.length = 32)
      | .atomic w => decide (w.length = 32))

/-- A TICK message's nanoseconds (R273). -/
def tickNsOk (ns : BitVec 30) : Bool := decide (ns.toNat < 1000000000)

/-- The commands whose operands agree. -/
def Instr.wellFormed : Instr → Bool
  | .registerWrite who addr wide _ => who.accesses && alignedAt addr wide
  | .unmappedAccess who addr _ => who.accesses && alignedAt addr false
  | .lowWordReadLatch who addr => who.accesses && halfAt addr 0
  | .highWordRead who addr => who.accesses && halfAt addr 4
  | .lowWordWriteHold who addr _ => who.accesses && halfAt addr 0
  | .highWordWriteCommit who addr _ => who.accesses && halfAt addr 4
  | .halyardTickReceive _ _ _ ns _ _ _ => tickNsOk ns
  | .digestReceive _ _ items => decide (1 ≤ items.length ∧ items.length ≤ 128)
  | .pageReceive _ _ _ _ _ data => decide (data.length = 1024)
  | .pubstateReceive _ _ _ pubs => pubs.all fun p => decide (p.pub < 4352)
  | .memRequest bursts => bursts.all Burst.coherent
  | .insvcEnd _ _ p => decide (1 ≤ p.val)
  | .tabSnap who => who.accesses
  | .evqPop who => who.accesses
  | .tsqPop who _ => who.accesses
  | .coefDataAccess who _ => who.accesses
  | .eventPost who _ => who.accesses
  | .osqPop who _ => who.accesses
  | .clogPop who => who.accesses
  | .cregAccess who _ _ => who.accesses
  | _ => true

end Sys2Proof
end

