-- ==== Sys2Proof/Tests/Slice0.lean ====
section
/-!
SUPPORT. Tests/Slice0.lean: states and operands that meet the premises of the statements, clause by clause at the ends of their
ranges; a refused term for each check of well-formed commands; a few steps whose results the manual's tables give.
-/

namespace Sys2Proof
open Machine

set_option Elab.async false

/-- A state with some fields set. -/
def Tests.withF (fs : List (FieldRef × Nat)) (s : State) : State := fs.foldl (fun s x => s.setF x.1 x.2) s

/-- A state with some registers set. -/
def Tests.withR (ws : List (Nat × Nat)) (s : State) : State := ws.foldl (fun s x => s.wr x.1 x.2) s

/-- What a command leaves, where it completes. -/
def Tests.post (c : Instr) (s : State) : State := match exec c s with
  | .next t => t
  | _ => s

/-- S0 at Platform level. -/
def Tests.s0 : Requester := .sup 0

open Tests

/-! ## Premises of the statements hold somewhere: the machine as a whole, TAB, the bus (chapters 01, 02) -/

theorem test_whole_witness : (regAt TAB.CTL).isSome = true ∧ isDram 0 = true ∧ isDram 0x3FFFFFFFF = true ∧
    isSram 0x1000000000 = true ∧ isSram 0x1005FFFFFF = true ∧ State.reset.pending = [] ∧ State.reset.awake = true ∧
    (post (.por []) State.reset).sys.power = .held ∧ (post (.por []) State.reset).sys.porHeld = true := by decide +kernel

theorem test_canonical_witness : smapWf regDefault State.reset.regs = true ∧ smapWf memDefault State.reset.mem = true ∧
    (match step (submit State.reset .todLoad) with | .next t => t.tab.todValid && t.pending.isEmpty | _ => false) = true := by decide +kernel

theorem test_snapshots_witness : State.reset.awake = true ∧ State.reset.regReach s0 = true ∧
    (State.reset.onTab fun t => { t with evq := [⟨1, 0, 0, 2, true, 3, 4⟩] }).regReach s0 = true := by
  decide +kernel

theorem test_offset_sample_witness :
    let f (o : Int) (fs : List (FieldRef × Nat)) := (BitVec.ofInt 64 o, withF fs State.reset)
    let on := [(TAB.CTL_SRC, 1), (TAB.CTL_SERVO_EN, 1), (TAB.SRV_LOCK_LOCKTHR, 3), (TAB.SRV_LOCK_LOCKCNT, 2)]
    State.reset.getF TAB.CTL_SRC ≠ 1 ∧
    (f 0 on).2.getF TAB.CTL_SRC = 1 ∧ (f 0 on).2.flag TAB.CTL_SERVO_EN = true ∧
    (f 0 on).2.rd TAB.SRV_STEPTHR * 65536 < (f (-70000000000) on).1.toInt.natAbs ∧
    (f (State.reset.rd TAB.SRV_STEPTHR * 65536) on).1.toInt.natAbs ≤ (f 0 on).2.rd TAB.SRV_STEPTHR * 65536 ∧
    (f 196608 on).1.toInt.natAbs ≤ (f 0 on).2.getF TAB.SRV_LOCK_LOCKTHR * 65536 ∧
    (f 0 on).2.getF TAB.SRV_LOCK_LOCKTHR * 65536 < (f 196609 on).1.toInt.natAbs ∧ 1 + 1 ≤ (f 0 on).2.getF TAB.SRV_LOCK_LOCKCNT ∧
    (f 0 [(TAB.CTL_SRC, 1)]).2.flag TAB.CTL_SERVO_EN = false := by decide +kernel

theorem test_holdover_witness :
    let s (x : SyncState) (v : Bool) := State.reset.onTab fun t => { t with sync := x, todValid := v, hoCounting := true }
    (s .locked true).awake = true ∧ (s .acquire true).tab.todValid = true ∧ (s .acquire false).tab.todValid = false ∧
    (s .holdover true).tab.hoRaised = false ∧ (s .holdover true).rd TAB.HO_LIMIT * 1000 + 1 < 2 ^ 32 ∧
    (let m := withR [(TAB.HO_LIMIT, 4294968)] State.reset;
      m.rd TAB.HO_ELAPSED ≤ m.rd TAB.HO_LIMIT * 1000 ∧ 2 ^ 32 ≤ m.rd TAB.HO_LIMIT * 1000 + 1) ∧ (withF [(TAB.CTL_SRC, 2)] State.reset).getF TAB.CTL_SRC ≠ 0 ∧
    (withF [(TAB.CTL_SERVO_EN, 1)] State.reset).flag TAB.CTL_SERVO_EN = true := by decide +kernel

theorem test_timing_pins_witness :
    (withF [(TAB.CTL_SRC, 2)] State.reset).getF TAB.CTL_SRC = 2 ∧ (withF [(TAB.CTL_SRC, 2)] State.reset).flag TAB.CTL_SERVO_EN = false ∧
    (withF [(TAB.CTL_SRC, 2)] State.reset).tab.ppsMissRaised = false ∧ State.reset.getF TAB.CTL_SRC ≠ 2 ∧
    (post (.ref10mWrite true) State.reset).tab.ref10m = .watching ∧ State.reset.tab.ref10m = .idle ∧
    (withF [(TAB.CTL_PPSOUT_MODE, 1)] State.reset).getF TAB.CTL_PPSOUT_MODE ≠ 0 ∧ 0 < State.reset.rd TAB.PPSOUT_WIDTH ∧
    0 < State.reset.rd TAB.WS_FW ∧ State.reset.getF TAB.CTL_PPSOUT_MODE = 0 ∧
    State.reset.getF TAB.CTL_TICKDIV + 2 = State.reset.tab.divEff := by decide +kernel

theorem test_comparators_witness :
    let s := withF [(TAB.CCFG_MODE 255, 1)] (withR [(TAB.TARGET 255, 2 ^ 20)] State.reset)
    let r := withF [(TAB.CCFG_MODE 0, 1), (TAB.CCFG_ARMED 0, 1)] State.reset
    r.cmpAhead 0 = some 0 ∧ State.reset.cmpAhead 0 = none ∧ s.getF (TAB.CCFG_MODE 255) = 1 ∧ s.getF (TAB.CCFG_DEST 255) = 0 ∧
    (s.plainWrite (TAB.TARGET 255) (2 ^ 40)).targetPast 255 = false ∧ (s.plainWrite (TAB.TARGET 255) 0).targetPast 255 = true := by
  decide +kernel

theorem test_time_witness :
    let s (n m r : Nat) (fs : List (FieldRef × Nat)) := (withF fs State.reset).onTab fun t => { t with tod := secondUnit * 5 - n, angle := m, raised := r }
    let sec := s 700000000000000 0 0 [(TAB.CTL_PPSOUT_MODE, 1)]
    let whole := s 100000000000000000000 (2 ^ 48 - 100000000) 15 [(TAB.CTL_PPSOUT_MODE, 2)]
    let later := s 1000000000000000000000000 (2 ^ 48 - 100000000) 15 [(TAB.CTL_PPSOUT_MODE, 1)]
    let one := (s 100000000000000000000 100000000 0 [(TAB.CCFG_MODE 255, 1), (TAB.CCFG_ARMED 255, 1)]).wr (TAB.TARGET 255) 100
    let run := State.reset.runFor State.reset.boundaryIn
    NoneDue State.reset 9 ∧ State.reset.tab.tickDue = false ∧ Canonical State.reset ∧ run.getF TAB.CTL_TICKDIV + 2 = run.tab.divEff ∧
    run.tab.tickDue = true ∧ sec.ppsIn = some 1 ∧ 1 < sec.boundaryIn ∧ OnlyDue sec 1 .ppsOut ∧ whole.ppsIn = some 2 ∧
    2 = whole.boundaryIn ∧ later.ppsIn = some 138178420 ∧ later.boundaryIn < 138178420 ∧
    one.cmpAhead 255 = some 429396729600 ∧ cyclesFor 429396729600 (one.rd TAB.WS_FW) = 7628 ∧
    OnlyDue one 7628 (.comparator (255 : Fin 256).val) := by
  unfold NoneDue OnlyDue Canonical; decide +kernel

theorem test_bus_witness :
    State.reset.busReach s0 TAB.TODSET_SEC = true ∧ regWidth TAB.TODSET_NS = 32 ∧ TAB.TODSET_NS % 4 = 0 ∧ regWidth TAB.TODSET_SEC = 64 ∧
    TAB.TODSET_SEC % 8 = 0 ∧ regWidth (TAB.TODSET_SEC + 4) = 0 ∧ State.reset.busReach .nvs TAB.CTL = false ∧
    State.reset.busReach s0 (TAB.CTL + 2) = true ∧ (TAB.CTL + 2) % 4 ≠ 0 ∧ isHighWord (TAB.TODSET_SEC + 4) = true ∧
    State.reset.busReach s0 (TAB.TODSET_SEC + 4) = true ∧ (State.reset.port64 s0).latch = none ∧ (State.reset.port64 s0).hold = none ∧
    ((post (.lowWordReadLatch s0 TAB.TODSET_SEC) State.reset).port64 s0).latch = some (TAB.TODSET_SEC, 0) ∧
    ((post (.lowWordWriteHold s0 TAB.TODSET_SEC 7) State.reset).port64 s0).hold = some (TAB.TODSET_SEC, 7) ∧
    isHighWord (CAP.URBASE 0 + 4) = true ∧ ({ State.reset with sys := { State.reset.sys with power := .lull } }).busReach s0 (CAP.URBASE 0 + 4) = true ∧
    inSlot 8 (CAP.URBASE 0) ∧
    inRegSpace 0x3000FFFFFC = true ∧ unmapped 0x3000FFFFFC = true ∧ State.reset.flag SYS.UNMAP_INFO_VALID = false ∧
    (post (.unmappedAccess s0 0x3000FFFFFC true) State.reset).flag SYS.UNMAP_INFO_VALID = true := by unfold inSlot; decide +kernel

/-! ## PCX (chapter 03) -/

/-- Lane `p` enabled in a mode, with its lane state. -/
def Tests.lane (p mode : Nat) (st : LinkState) (fs : List (FieldRef × Nat)) : State :=
  (withF ((PCX.CFG_EN p, 1) :: (PCX.CFG_MODE p, mode) :: fs) State.reset).onPort p fun x => { x with link := st, txOn := true, signal := true }

theorem test_lanes_witness :
    State.reset.laneEn 9 = false ∧ (lane 9 1 .noSignal []).laneEn 9 = true ∧ bit 0x60001 0 = true ∧
    64 ≤ bits (64 * 2 ^ 14) 27 14 ∧ bits (9216 * 2 ^ 14) 27 14 ≤ 9216 ∧ 9216 < bits (9217 * 2 ^ 14) 27 14 := by decide +kernel

theorem test_links_witness :
    let s (st : LinkState) := lane 0 2 st []
    ((s .noSignal).port 0).link = .noSignal ∧ (s .noSignal).pcx.pllLock = true ∧ ((s .syncWait).port 0).link ≠ .noSignal ∧
    (lane 0 2 .syncWait [(PCX.CFG_AN_EN 0, 1)]).negotiates 0 = true ∧ (lane 0 2 .syncWait [(PCX.CFG_AN_EN 0, 0)]).negotiates 0 = false ∧
    ((s .disabled).port 0).link ≠ .syncWait ∧ ((s .disabled).port 0).signal = true ∧ (State.reset.port 0).signal = false ∧
    (((s .rfault).onPort 0 fun x => { x with pauseDue := some 65535 }).port 0).pauseDue = some 65535 ∧ ((s .rfault).port 0).txOn = true ∧
    ((s .rfault).port 0).pauseDue = none ∧ (s .rfault).sys.entering = false ∧ (s .rfault).scanning = false ∧
    ((s .up).port 0).link = .up ∧ ((s .rfault).port 0).link = .rfault ∧ (s .an).getF (PCX.CFG_MODE 0) ≠ 3 ∧
    (lane 0 3 .an []).getF (PCX.CFG_MODE 0) = 3 ∧ ((s .refused).port 0).link = .refused ∧ (s .up).getF (PCX.CFG_MODE 0) ≠ 0 ∧
    (s .up).laneEn 0 = true := by decide +kernel

theorem test_frames_witness :
    let s := lane 0 2 .up [(PCX.RXCTL_CSUM_EN 0, 0)]
    let b := List.replicate 60 (0 : Byte)
    (State.reset.port 0).admits = false ∧ (s.port 0).admits = true ∧ s.ringOf 0 = none ∧ s.fifoShort 0 = false ∧
    s.isHalyard 0 = false ∧ 64 ≤ frameLen b ∧ frameLen b ≤ s.getF (PCX.CFG_MAXLEN 0) + 6 ∧ pauseQuanta b = none ∧ ptpAt b = none ∧
    s.rdeMode = 0 ∧ s.flag (PCX.RXCTL_CSUM_EN 0) = false ∧ s.getF (PCX.RXCTL_ACCEPT 0) = 0 ∧ s.flag (PCX.CFG_PAUSE_EN 0) = false ∧
    ((post (.rxFrame 0 b true false) s).port 0).rxFifo ≠ [] ∧ (s.port 0).rxFifo = [] ∧
    ((s.onPort 0 fun x => { x with rxFifo := [(65536, ⟨[], {}⟩)] }).fifoShort 0) = true := by decide +kernel

theorem test_pause_witness :
    let s := (lane 0 2 .up [(PCX.CFG_PAUSE_EN 0, 1), (PCX.CFG_RXPAUSE_EN 0, 1), (PCX.PAUSE_LOWM 0, 1)]).onPort 0 fun x =>
      { x with pausing := true, rxFifo := [(257, ⟨[], {}⟩)] }
    s.flag (PCX.CFG_PAUSE_EN 0) = true ∧ (s.port 0).pausing = true ∧ s.scanning = false ∧ s.mayTransmit 0 = true ∧
    ((s.onPort 0 fun x => { x with link := .rfault }).port 0).link = .rfault ∧ State.reset.mayTransmit 0 = false ∧
    256 * s.getF (PCX.PAUSE_LOWM 0) < (s.port 0).level ∧ (State.reset.port 0).pausing = false ∧ (s.port 0).admits = true ∧
    s.isHalyard 0 = false ∧ s.flag (PCX.CFG_RXPAUSE_EN 0) = true ∧ (lane 0 2 .up []).flag (PCX.CFG_RXPAUSE_EN 0) = false := by decide +kernel

/-- A stored frame of 60 bytes in an egress queue, and a queue that holds it. -/
def Tests.stored (ct bad : Bool) : QEntry := ⟨0, ⟨List.replicate 60 0, {}⟩, 1, ct, false, bad, false, 0, 0, 0, none, none⟩

theorem test_receive_order_witness :
    let q (m : Nat) (b : List Byte) := (withF [(RDE.CFG_MODE, m), (RDE.CFG_PORTA, 0)] State.reset).onPort 0 fun x => { x with rxFifo := [(70, ⟨b, {}⟩)] }
    let prp : List Byte := List.replicate 60 0 ++ [0, 9, 0xA0, 0x34, 0x88, 0xFB]
    ((q 0 []).port 0).rxFifo = (70, ⟨[], {}⟩) :: [] ∧ (q 0 []).flag (PCX.CFG_PAUSE_EN 0) = false ∧ (q 0 []).ringOf 0 = none ∧
    (q 0 []).lanOf 0 = none ∧ (q 1 prp).ringOf 0 = none ∧ (q 1 prp).lanOf 0 = some false ∧ prpTrailer prp = some (9, 10) ∧
    (q 2 prp).ringOf 0 = some false ∧ hsrAt prp = none ∧ frameDa prp ≠ 0x0180C200000E ∧ (State.reset.port 0).rxFifo = [] := by decide +kernel

theorem test_transmission_witness :
    let s := (lane 0 2 .up []).setQueue 0 7 [stored false false]
    let e := stored false false
    let sent (n : Int) := (lane 0 2 .up []).onPort 0 fun x => { x with sending := some ⟨7, n, List.replicate 60 0, true, false⟩ }
    State.reset.mayTransmit 0 = false ∧ (s.port 0).sending = none ∧ s.mayTransmit 0 = true ∧ (s.port 0).paused = false ∧ s.isHalyard 0 = false ∧
    s.selected 0 = some (7, false) ∧ s.headStarts 0 7 = some false ∧ s.ringQueue 0 7 = [] ∧ s.queue 0 7 = [e] ∧ e.begun = false ∧
    e.ct = false ∧ e.bad = false ∧ e.reqTag = none ∧ e.mirror = false ∧ s.tooLong 0 (s.asSent 0 e) = false ∧
    ptpAt (s.asSent 0 e) = none ∧ e.frame.info.csumIns = false ∧ s.scanning = false ∧ (sent (10 ^ 25)).txEndIn 0 = some 8881784198 ∧
    (sent (10 ^ 25)).boundaryIn < 8881784198 ∧ (sent 100000000000000000).txEndIn 0 = some 89 ∧
    89 < (sent 100000000000000000).boundaryIn ∧ OnlyDue (sent 100000000000000000) 89 (.txEnd 0) := by
  unfold OnlyDue; decide +kernel

theorem test_gates_witness :
    let on (n : Nat) (g : GclRun) := (withF [(PCX.GCL_CTL_EN 0, 1), (PCX.GCL_CFG_LEN 0 0, n), (PCX.GCL_CFG_LEN 0 1, n), (PCX.GCL_ENT_TIME 0 0 0, 16), (PCX.GCL_ENT_TIME 0 0 1, 16)]
      State.reset).onPort 0 fun x => { x with gcl := g }
    let long := withF [(PCX.GCL_ENT_TIME 0 0 0, 1250004)] (on 2 { cur := some 0 })
    let cyc (n : Nat) := withR [(PCX.GCL_CYCLE 0 0, n)] (on 2 { cur := some 1, ended := true })
    (on 2 { cur := some 0 }).entryEndIn 0 = some 4 ∧ 4 < (on 2 { cur := some 0 }).boundaryIn ∧ OnlyDue (on 2 { cur := some 0 }) 4 (.entryEnd 0) ∧
    OnlyDue (on 2 { cur := some 1 }) 4 (.entryEnd 0) ∧ (on 2 { cur := some 0 }).tab.tod + 4 * todStep (on 2 { cur := some 0 }).srvRate < todModulus ∧
    0 + 1 < (on 2 { cur := some 0 }).gclLen 0 0 ∧ (on 2 { cur := some 1 }).gclLen 0 0 ≤ 1 + 1 ∧ (on 2 {}).entryEndIn 0 = none ∧
    long.entryEndIn 0 = some 312501 ∧ long.boundaryIn = 312501 ∧ (on 2 {}).cycleIn 0 0 = some 0 ∧ OnlyDue (on 2 {}) 0 (.cycleStart 0 0) ∧
    (on 2 { act := 1, pending := true }).cycleIn 0 0 = some 0 ∧ (on 2 {}).cycleIn 0 1 = none ∧
    ((on 1 { pending := true }).port 0).gcl.act = 1 - 1 ∧ (on 1 {}).gclFlipRefused 0 = false ∧
    ((on 1 { pending := true }).port 0).gcl.pending = true ∧ ((on 1 {}).port 0).gcl.drain 0 = 1 ∧ ((on 1 {}).port 0).gcl.drain 1 = 0 ∧
    State.reset.gclFlipRefused 0 = true ∧ State.reset.flag (PCX.GCL_CTL_EN 0) = false ∧
    (withF [(PCX.GCL_CFG_LEN 0 1, 1)] State.reset).gclFlipRefused 0 = false ∧
    16 ≤ bits (16 * 256) 39 8 ∧ bits (1000000000 * 256) 39 8 ≤ 1000000000 ∧ bits (15 * 256) 39 8 < 16 ∧
    (cyc 1250004).boundaryIn = 312501 ∧ (cyc 1250004).cycleIn 0 0 = some 312501 ∧ (cyc 1250008).cycleIn 0 0 = some 312502 := by unfold OnlyDue; decide +kernel

/-! ## SWC and RDE (chapters 04, 05) -/

/-- A frame from a port, and its lookup with a number. -/
def Tests.look (p seq : Nat) : Lookup := ⟨0, ⟨List.replicate 60 0, { inPort := p }⟩, seq, 0, 0, 0⟩

theorem test_pipeline_witness :
    let f := (look 11 0).frame
    let s := State.reset.onSwc fun w => { w with toSwitch := [f] }
    let l := State.reset.onSwc fun w => { w with looking := List.replicate 128 (look 11 255) }
    let r := State.reset.onSwc fun w => { w with reseq := [(0, ⟨List.replicate 96 0, [⟨look 0 1, 0, 0, none, false, none⟩]⟩)] }
    s.swc.toSwitch.find? (fun f => f.info.inPort = 11) = some f ∧
    (s.swc.looking.filter fun l => l.frame.info.inPort = 11).length < 128 ∧
    128 ≤ (l.swc.looking.filter fun l => l.frame.info.inPort = 11).length ∧
    l.swc.looking.find? (fun l => l.frame.info.inPort = 11 ∧ l.seq = 255) = some (look 11 255) ∧
    (r.reseq 0).held.any (fun x => !seqPassed x.look.seq ((r.reseq 0).exps.getD (11 * 8 + 7) 0)) = true ∧
    (r.reseq 0).held.any (fun x => x.look.seq = (r.reseq 0).exps.getD (11 * 8 + 7) 0) = false ∧ (State.reset.reseq 0).held = [] := by
  decide +kernel

theorem test_queue_heads_witness :
    let q (e : Nat) (x : QEntry) := (lane 9 1 .up []).setQueue e 7 [x]
    let x := stored false false
    (q 9 x).queue 9 7 = [x] ∧ ((q 8 x).port 8).link ≠ .up ∧ ((q 8 x).port 8).link ≠ .rfault ∧ ((q 9 x).port 9).link = .up ∧
    (withF [(SWC.CFG_AGELIM, 1)] (q 9 x)).getF SWC.CFG_AGELIM ≠ 0 ∧ (withF [(SWC.CFG_AGELIM, 0)] (q 9 x)).getF SWC.CFG_AGELIM = 0 ∧
    (withF [(PCX.CFG_MAXLEN 9, 64)] (q 9 { x with frame := ⟨List.replicate 100 0, {}⟩ })).tooLong 9 (List.replicate 100 0) = true ∧
    (q 9 x).tooLong 9 ((q 9 x).asSent 9 x) = false ∧ (q 10 x).sys.power = .run ∧ (q 9 x).ringQueue 9 7 = [] ∧ x.ct = false ∧
    (q 10 x).internalFree 10 7 = true ∧ (∀ y ∈ (q 10 x).queue 10 7, y.begun = false) ∧ { (q 10 x).sys with power := .lull }.power ≠ .run ∧
    (let r : RingEntry := ⟨⟨List.replicate 100 0, {}⟩, false⟩
     let w := (withF [(PCX.CFG_MAXLEN 9, 64), (RDE.CFG_RING_CT, 0)] (q 8 x)).onRde fun y => { y with ring := [(79, [r])] }
     w.ringQueue 9 7 = [r] ∧ w.flag RDE.CFG_RING_CT = false ∧ r.bad = false ∧ w.tooLong 9 (w.ringSent 9 r) = true) ∧ x.bad = false ∧ (stored false true).bad = true ∧
    etherType (List.replicate 12 0 ++ [0x88, 0xB8]) = gooseType := by decide +kernel

theorem test_ingest_full_witness : (State.reset.onSwc fun w =>
    { w with ingest := List.replicate (Config.ingestCredits + 1) ⟨[], {}⟩ }).internalFree 10 7 = false := by
  simp [State.internalFree, State.onSwc]

theorem test_switch_tables_witness :
    State.reset.fdbOpen 1 = true ∧ State.reset.fdbOpen 0 = false ∧ State.reset.clsOpen 1 = true ∧ State.reset.clsOpen 0 = false ∧
    (State.reset.fdbFreeWay 1 State.reset.fdbCmdKey.1 State.reset.fdbCmdKey.2).isSome = true ∧
    State.reset.fdbFind 1 State.reset.fdbCmdKey.1 State.reset.fdbCmdKey.2 = none ∧
    ((post (.fdbInsert 1) State.reset).fdbFind 1 State.reset.fdbCmdKey.1 State.reset.fdbCmdKey.2).isSome = true ∧
    (let full := State.reset.onSwc fun w => { w with fdb := [(97700, 1, 2 ^ 31, 0), (97701, 2, 2 ^ 31, 0), (97702, 3, 2 ^ 31, 0), (97703, 4, 2 ^ 31, 0)] }
     full.fdbFreeWay 1 full.fdbCmdKey.1 full.fdbCmdKey.2 = none ∧ full.fdbFind 1 full.fdbCmdKey.1 full.fdbCmdKey.2 = none) ∧
    1 ≤ bits 1 12 0 ∧ bits 4096 12 0 ≤ 4096 ∧
    (((List.range 96).filter fun q => q ≠ 11 * 8 + 7).map fun q => State.reset.qMin q).sum + 1 ≤ 32768 ∧
    32768 < (((List.range 96).filter fun q => q ≠ 11 * 8 + 7).map fun q => (withF [(SWC.QTHR_MIN 0 0, 4096), (SWC.QTHR_MIN 0 1, 4096),
      (SWC.QTHR_MIN 0 2, 4096), (SWC.QTHR_MIN 0 3, 4096), (SWC.QTHR_MIN 0 4, 4096), (SWC.QTHR_MIN 0 5, 4096), (SWC.QTHR_MIN 0 6, 4096),
      (SWC.QTHR_MIN 0 7, 4096)] State.reset).qMin q).sum + 4096 := by decide +kernel

theorem test_redundancy_witness :
    let on := withF [(PCX.CFG_EN 0, 1)] State.reset
    let v := 3
    cfgGuarded (State.reset.plain RDE.CFG v) ≠ cfgGuarded (State.reset.rd RDE.CFG) ∧
    (cfgPorts (State.reset.rd RDE.CFG) ++ cfgPorts (State.reset.plain RDE.CFG v)).any (fun p => State.reset.flag (PCX.CFG_EN p)) = false ∧
    (cfgPorts (on.rd RDE.CFG) ++ cfgPorts (on.plain RDE.CFG v)).any (fun p => on.flag (PCX.CFG_EN p)) = true ∧
    (0 = State.reset.rde.proxyAct ∨ State.reset.proxyDrain 0 ≠ 0) ∧ 1 ≠ State.reset.rde.proxyAct ∧ State.reset.proxyDrain 1 = 0 ∧
    (let s := (lane 0 2 .up []).onRde fun r => { r with ring := [(7, [⟨⟨List.replicate 60 0, {}⟩, false⟩])] }
     s.ringQueue 0 7 = [⟨⟨List.replicate 60 0, {}⟩, false⟩] ∧ (s.port 0).sending = none ∧ s.mayTransmit 0 = true ∧
     (s.port 0).paused = false ∧ s.isHalyard 0 = false ∧ s.selected 0 = some (7, true)) ∧ State.reset.selected 0 = none := by decide +kernel

/-- A module whose Halyard lane 0 is up, in a state of the pair machine, and a message's head. -/
def Tests.half (x : PairState) : State := (lane 8 1 .up [(RDE.CFG_MODE, 3)]).onRde fun r => { r with pair := x }
def Tests.msg (n : Nat) : HalHead := ⟨0, BitVec.ofNat 16 n⟩

theorem test_pairing_witness :
    (half .paired).laneUp 0 = true ∧ (half .paired).scanning = false ∧ State.reset.rde.pair = .off ∧ HalNew (half .seek) (msg 65535) ∧
    State.reset.halHears 0 = false ∧ (half .seek).rde.halRx = none ∧ (half .seek).tab.ws ≠ .partner ∧ (pairOf .off).num < (half .off).rde.partner.num + 1 ∧
    (pairOf .seek).num < ((half .alone).onRde fun r => { r with partner := .alone }).rde.partner.num ∧
    (BitVec.ofNat 64 0).toNat = State.reset.rd RDE.PARTNER_ID ∧ (State.reset.port 9).link ≠ .up ∧
    (halClass (halClass none 65535).1 65535).2 = true ∧
    (half .alone).rde.missed + 1 < 4 ∧ 4 ≤ ((half .paired).onRde fun r => { r with missed := 3, seen := true }).rde.missed + 1 ∧
    (half .seek).rde.seen = false ∧ (half .paired).rde.leader = false := by
  unfold HalNew; decide +kernel

theorem test_leader_witness : (∃ s : State, s.leadsOver (s.rd SYS.SERIAL + 1) = true) ∧ (half .seek).leadsOver ((half .seek).rd SYS.SERIAL) = false := by
  have h : (withF [(RDE.PAIR_CFG_PREF, 1)] (half .seek)).flag RDE.PAIR_CFG_PREF = true := by decide +kernel
  have g : (half .seek).flag RDE.PAIR_CFG_PREF = false := by decide +kernel
  exact ⟨⟨withF [(RDE.PAIR_CFG_PREF, 1)] (half .seek), by simp [State.leadsOver, h]⟩, by simp [State.leadsOver, g]⟩

theorem test_transfer_witness :
    let s (x : PairState) (y : TenRde) := (withR [(RDE.PAIRT 31, 2 ^ 31)] (half x)).onTenRde 1023 fun _ => y
    (s .paired {}).pairTenant 1023 = true ∧ HalNew (s .paired {}) (msg 65535) ∧ ((s .paired {}).tenRde 1023).mine = [] ∧
    ((s .paired { mine := [(5, 7, false)], st := .shadow, matches_ := 15, lastTick := some 4 }).tenRde 1023).mine = [(5, 7, false)] ∧
    ((s .paired { mine := [(5, 7, false)], lastTick := some 5 }).tenRde 1023).lastTick = some 5 ∧
    ((s .paired {}).tenRde 1023).theirs = [] ∧ 1 ≤ ((s .alone {}).tenRde 1023).listPart.length + 1 ∧
    ((s .alone {}).tenRde 1023).listPart.length + 1 < 2 ∧ (s .alone { target := some 1, joinList := some [] }).beforeTick 1023 1 = true ∧
    ((s .shadow { st := .wait, target := some 5, got := 2 }).tenRde 1023).got = 2 ∧ (s .shadow {}).rde.angleRefused = false ∧
    ((s .transfer {}).onRde fun r => { r with angleRefused := true }).rde.angleRefused = true ∧
    (s .shadow { st := .wait, target := some 5 }).tickCame 1023 5 = false ∧ ((s .alone { st := .silent }).tenRde 1023).st ≠ .active ∧
    ((s .paired {}).onRde fun r => { r with seen := true, partner := .alone }).rde.partner = .alone := by
  unfold HalNew; decide +kernel

/-! ## SVC (chapters 06, 07) -/

/-- A frame of one ASDU: svID "A", smpCnt 5, confRev 0, smpSynch 2, one channel of value and quality. -/
def Tests.svFrame (appidLo : Byte) : List Byte :=
  List.replicate 12 0 ++ [0x88, 0xBA, 0x40, appidLo, 0, 43, 0, 0, 0, 0, 0x60, 33, 0x80, 1, 1, 0xA2, 28, 0x30, 26, 0x80, 1, 0x41,
    0x82, 2, 0, 5, 0x83, 4, 0, 0, 0, 1, 0x85, 1, 2, 0x87, 8, 0, 0, 0, 9, 0, 0, 0, 0]

/-- The last stream takes that frame's ASDUs in a state, and the frame waits at ingest. -/
def Tests.sv (on : Nat) (st : StreamSt) : State :=
  ((withF [(SVC.CTL_EN, 1), (SVC.STRCFG_EN 2047, on), (SVC.STRCFG_NCH 2047, 1), (SVC.SUB_W2_VALID 0 2047, 1), (SVC.SUB_W2_SVIDLEN 0 2047, 1),
    (SVC.SUB_W2_VIDANY 0 2047, 1), (SVC.SUB_W2_STREAM 0 2047, 2047), (SVC.SUB_W1_APPID 0 2047, 0x4000)]
    (withR [(SVC.SUB_SVID 0 2047 0, 0x41000000)] State.reset)).setStreamSt 2047 st).onSwc fun w =>
      { w with ingest := [⟨svFrame 0, {}⟩] }

/-- What a frame's ASDUs hold. -/
def Tests.asdus (b : List Byte) : List Asdu := ((readSvFrame b).map fun x => x.2.2.2).getD []

theorem test_sv_frames_witness :
    let s := sv 1 .idle
    let a := (asdus (svFrame 0)).head?
    s.sys.power = .run ∧ s.swc.ingest = [⟨svFrame 0, {}⟩] ∧ readSvFrame [] = none ∧ (asdus (svFrame 0)).length = 1 ∧
    (readSvFrame (svFrame 0)).map (fun x => (x.1, x.2.1, x.2.2.1)) = some (0x4000, false, 1) ∧
    a.map (fun a => (a.bad, a.hasSvid, a.smpCnt, a.confRev.getD 0)) = some (false, true, some 5, 1) ∧
    s.subFind 0 ⟨svFrame 0, {}⟩ 0x4000 [0x41] = some 2047 ∧ s.subFind 0 ⟨svFrame 1, {}⟩ 0x4001 [0x41] = none ∧
    s.streamOpen 2047 = true ∧ (sv 0 .idle).streamOpen 2047 = false ∧ s.flag (SVC.KEY_AUTH_EN 2047) = false ∧
    (a.map fun a => (s.readChannels 2047 (svFrame 0) (a.data.getD (0, 0)) (!s.timedByCount 2047 (a.synch.getD 0))).isSome) = some true ∧
    (a.map fun a => ((sv 0 .idle).readChannels 2047 (svFrame 0) (a.data.getD (0, 0)) false).isSome) = some true ∧
    (a.map fun a => ((withF [(SVC.CHCFG_VOFF 0, 2)] (sv 0 .idle)).readChannels 2047 (svFrame 0) (a.data.getD (0, 0)) false).isNone) = some true ∧
    s.rd (SVC.CONFREV 2047) = 1 ∧ (withR [(SVC.CONFREV 2047, 0)] s).rd (SVC.CONFREV 2047) ≠ 1 ∧ s.flag (SVC.STRCFG_SIM 2047) = false ∧
    s.streamSt 2047 = .idle ∧ (s.stream 2047).inp = [] ∧
    ((post .svFrameIngest s).stream 2047).inp.map (·.idx) = [5] ∧ ((5 : Int) - 5).fmod (s.wrapOf 2047) = 0 := by decide +kernel

/-- A sample that was received. -/
def Tests.samp (idx : Int) : Samp := ⟨idx, .received, false, false, 0, 0, 0, []⟩

/-- Time grid 15 produces a sample each 31.25 µs for the last stream; ticks 2 and 3 were raised; TOD stands at some ns. -/
def Tests.gridded (on ns : Nat) : State :=
  ((withF [(SVC.RSCFG_MAP 2047, 1), (SVC.RSCFG_GRID 2047, 15), (SVC.GCFG_GEN 15, on), (SVC.GCFG_MODE 15, 1), (SVC.ISET_TAPS 0, 1)]
    (withR [(SVC.PERIOD 15, 8000000)] (sv 1 .run))).onStream 2047 fun x => { x with inp := [samp 0], out := [samp 0], v0s := [(0, 0, 0)] }).onTab
      fun t => { t with ticks := [⟨3, 1000000, 0, 0⟩, ⟨2, 900000, 0, 0⟩], raised := 3, angle := 3 * 2 ^ 44, tod := ns * 2 ^ 48 }

theorem test_deadlines_witness :
    let s := gridded 1 2000000
    s.tickIdx 3 = 3 ∧ s.deadlineIn 2047 3 = some 0 ∧ s.holdsReady 2047 = true ∧ s.needOut 2047 3 = some 6 ∧ (0 : Int) < s.inputOf 2047 6 ∧
    (s.setStreamSt 2047 .idle).holdsReady 2047 = false ∧ (s.setStreamSt 2047 .idle).deadlineIn 2047 3 = some 0 ∧
    (s.prevTick 3).bind (s.needOut 2047) = some 6 ∧
    (let a := s.onStream 2047 fun x => { x with inp := [samp 9], out := [samp 9], frameEnd := 9 }
     a.deadlineIn 2047 3 = some 0 ∧ a.needOut 2047 3 = some 6 ∧ a.inputOf 2047 6 ≤ 9) ∧
    (let a := s.onTab fun t => { t with ticks := [] }; (a.prevTick 0).bind (a.needOut 2047) = none) ∧
    (sv 1 .run).deadlineIn 2047 0 = none ∧ (gridded 1 1000).deadlineIn 2047 3 = some 327250 ∧ (gridded 1 1000).boundaryIn = 312501 ∧
    (gridded 1 100000).deadlineIn 2047 3 = some 302500 ∧ NoneDue (gridded 1 100000) 302500 ∧
    ((gridded 1 100000).advance 302500).deadlineIn 2047 3 = some 0 := by unfold NoneDue; decide +kernel

theorem test_streams_witness :
    let s := withF [(SVC.STRCFG_NCH 2047, 1)] State.reset
    let u := s.plainWrite (SVC.STRCFG 2047) (putBits (s.rd (SVC.STRCFG 2047)) 31 31 1)
    State.reset.svc.subAct = 0 ∧ s.flag (SVC.STRCFG_EN 2047) = false ∧ u.mayEnable 2047 = true ∧
    (State.reset.plainWrite (SVC.STRCFG 2047) (putBits 0 31 31 1)).mayEnable 2047 = false ∧
    (sv 1 .run).flag (SVC.STRCFG_EN 2047) = true ∧ bit 0xFFFFFFFF 31 = true ∧ (sv 1 .run).channelInUse 0 = true ∧
    ((post (.streamEnable 2047 (putBits (s.rd (SVC.STRCFG 2047)) 31 31 1)) s).streamSt 2047) = .idle := by decide +kernel

theorem test_grids_witness :
    let v := 0xC0000000
    let u (g : State) := g.plainWrite (SVC.GCFG 15) v
    let p := withR [(SVC.PERIOD 15, 8000000)] State.reset
    let many := withR [(SVC.PERIOD 15, 1)] (gridded 0 0)
    let idle := withF [(SVC.STRCFG_EN 2047, 0)] (gridded 1 (2 ^ 42))
    p.gridOn 15 = false ∧ (u p).rsLoad ≤ 8000000 ∧ 8000000 ≤ p.rd (SVC.PERIOD 15) ∧ p.rd (SVC.PERIOD 15) ≤ 256000000 ∧
    (u p).isTimeGrid 15 = true ∧ 8000000 < (u many).rsLoad ∧
    (gridded 1 (2 ^ 42)).gridOn 15 = true ∧ (gridded 1 (2 ^ 42)).gridBusy 15 = true ∧ idle.gridBusy 15 = false ∧
    (gridded 1 (2 ^ 42)).plain (SVC.PERIOD 15) 9000000 ≠ (gridded 1 (2 ^ 42)).rd (SVC.PERIOD 15) ∧ p.mapped 2047 = none := by decide +kernel

theorem test_output_samples_witness :
    let s := gridded 1 (2 ^ 42)
    let n := withF [(SVC.STRCFG_EN 2047, 0)] (withF [(SVC.ISET_TAPS 0, 1)] State.reset)
    let u := n.plainWrite (SVC.RSCFG 2047) (putBits 0 31 31 1)
    let d := withF [(SVC.DSET_LEN 15, 4), (SVC.RSCFG_DSET 2047, 15), (SVC.RSCFG_DRATIO 2047, 1)] s
    n.flag (SVC.STRCFG_EN 2047) = false ∧ u.taps 2047 ≠ 0 ∧ u.ratio 2047 = 1 ∧ u.rsLoad ≤ 8000000 ∧ n.delaysHold u = true ∧
    s.channelInUse 0 = true ∧ s.setInUse false 0 = true ∧ s.setInUse true 15 = false ∧ d.setInUse true 15 = true ∧
    s.mapped 2047 = some 15 ∧ (s.gridInstant 15 (s.nextJ 2047 15)).isSome = true ∧
    ((s.gridInstant 15 (s.nextJ 2047 15)).all fun x => decide (x.mono ≤ s.tab.mono) && !s.outputPresent 2047 15 x) = true ∧
    (((gridded 1 (2 ^ 42)).setStreamSt 2047 .idle).gridInstant 15 0).all (fun x =>
      decide (x.mono ≤ s.tab.mono) && ((gridded 1 (2 ^ 42)).setStreamSt 2047 .idle).outputPresent 2047 15 x) = true ∧
    ((gridded 1 0).gridInstant 15 5).all (fun x => decide (0 < x.mono)) = true ∧ (gridded 1 0).tab.mono = 0 ∧
    s.pubsOn = [] ∧ (s.stream 2047).outs = [] ∧ State.reset.regReach s0 = true ∧ State.reset.regReach .nvs = false ∧
    bit ((withR [(SVC.COEF_ADDR, 2 ^ 31)] s).rd SVC.COEF_ADDR) 31 = true := by decide +kernel

theorem test_ready_witness :
    let s := State.reset.onTab fun t => { t with raised := 1 }
    let a := withF [(CYC.TSTATE_STATE 0, 2)] s
    s.mayReady 1023 (s.tickIdx 2) = false ∧ s.mayReady 1023 (s.tickIdx 1) = true ∧ s.tenSt 1023 = .empty ∧
    a.tenSt 0 ≠ .empty ∧ a.tenSt 0 = .active ∧ a.mayReady 0 (a.tickIdx 1) = true ∧ a.pubsOf 0 = [] ∧
    a.getF (CYC.TCFG_TRIG 0) = 0 ∧ a.pairTenant 0 = false ∧ (a.tenant 0).tickAt = none := by decide +kernel

/-! ## CYC (chapter 08) -/

/-- Tenant `n` in a state by number, with some fields set. -/
def Tests.ten (n st : Nat) (fs : List (FieldRef × Nat)) : State := withF ((CYC.TSTATE_STATE n, st) :: fs) State.reset

/-- A dispatch of kind tick. -/
def Tests.disp0 : Disp :=
  { kind := .tick, desc := 0, regs := { pc := 0x2400 }, budget := 100000, left := 100000, readyAt := 0, first := false,
    preempted := false, staged := [], ops := [], misses := 0, wait := none }

/-- Window `w` of tenant `t`: from one page to another, leading to a page, of a kind. -/
def Tests.withWin (t w lo hi phys kind : Nat) (s : State) : State :=
  withR [(CYC.WIN_W0 t w, lo * 4096 + 1), (CYC.WIN_W1 t w, hi * 4096), (CYC.WIN_W2 t w, phys % 2 ^ 20 * 4096),
    (CYC.WIN_W3 t w, phys / 2 ^ 20 + kind * 2 ^ 16)] s

/-- The same in the window data registers. -/
def Tests.winData (lo hi phys kind : Nat) (s : State) : State :=
  withR [(CYC.WIN_D0, lo * 4096 + 1), (CYC.WIN_D1, hi * 4096), (CYC.WIN_D2, phys % 2 ^ 20 * 4096),
    (CYC.WIN_D3, phys / 2 ^ 20 + kind * 2 ^ 16)] s

theorem test_tenants_witness :
    let scr (s : State) := withWin 1023 0 0 0 0 7 (withWin 7 0 0 0 0 7 (withF [(CYC.TBIND_VALID 7, 1), (CYC.TBIND_CORE 7, 63)] s))
    let mv := (ten 1023 5 []).onTenant 1023 fun x => { x with move := some (63, 2) }
    State.reset.awake = true ∧ (ten 1023 1 []).tenSt 1023 = .stopped ∧ (ten 1023 0 []).tenSt 1023 = .empty ∧
    (ten 1023 2 []).tenSt 1023 = .active ∧ ((ten 1023 2 []).tenant 1023).disp = none ∧ ((ten 1023 2 []).tenant 1023).held = [] ∧
    (let r := (ten 1023 2 []).onCore 0 fun c => { c with run := some 1023 }
     r.tenSt 1023 = .active ∧ (r.core (r.coreOf 1023)).run = some 1023) ∧
    ((ten 1023 2 []).core ((ten 1023 2 []).coreOf 1023)).run ≠ some 1023 ∧
    (ten 1023 3 []).tenSt 1023 = .faulted ∧ (ten 1023 4 []).tenSt 1023 = .resetting ∧ (ten 1023 5 []).tenSt 1023 = .moving ∧
    (ten 1023 2 []).tenantsOn 63 < 32 ∧ (ten 1023 2 [(CYC.XCHG_XSTATE 1023, 1)]).getF (CYC.XCHG_XSTATE 1023) = 1 ∧ (ten 1023 2 []).scratchClash 1023 63 = false ∧
    (scr (ten 1023 2 [])).scratchClash 1023 63 = true ∧ (mv.tenant 1023).move = some (63, 2) ∧ (∀ old, 1 ≤ old → old ≤ 4 → ((mv.onTenant 1023 fun x => { x with move := some (63, old) }).tenant 1023).move = some (63, old)) ∧
    (mv.core (mv.coreOf 1023)).run ≠ some 1023 ∧ mv.winsOf 1023 .scratch = [] ∧ (mv.core (mv.coreOf 1023)).dl = [] ∧
    ((mv.onCore 0 fun c => { c with run := some 1023 }).core 0).run = some 1023 := by decide +kernel

/-- Thirty-two tenants are bound to core 63. -/
def Tests.crowd : State := withF ((List.range 32).map (fun n => (CYC.TBIND_VALID n, 1)) ++ (List.range 32).map fun n => (CYC.TBIND_CORE n, 63))
  (ten 1023 2 [])

theorem test_binding_witness :
    let s := withWin 1023 0 0 0 0x1002000 0 (ten 1023 0 [])
    32 ≤ crowd.tenantsOn 63 ∧ crowd.tenSt 1023 = .active ∧ s.tenSt 1023 = .empty ∧
    (s.setF (CYC.TBIND_CORE 1023) 63).tenantsOn 63 < 32 ∧ (s.setF (CYC.TBIND_CORE 1023) 63).scratchClash 1023 63 = false ∧ s.winsOf 1023 .code ≠ [] ∧
    (ten 1023 0 []).winsOf 1023 .code = [] := by decide +kernel

theorem test_windows_witness :
    let s := winData 0 0 0x1002000 1 (ten 1023 1 [])
    let x : Win := ⟨0, 4095, 0x1002000000, .data⟩
    let z := winOf (s.rd CYC.WIN_D0) (s.rd CYC.WIN_D1) (s.rd CYC.WIN_D2) (s.rd CYC.WIN_D3)
    let other := withWin 7 0 0 0 0x1002000 1 (withF [(CYC.TBIND_VALID 7, 1)] s)
    z = some x ∧ x.targetOk = true ∧ (⟨0, 4095, 0x1000000000, .data⟩ : Win).targetOk = false ∧
    (withWin 1023 0 0 0 0x1003000 1 s).win 1023 0 = some ⟨0, 4095, 0x1003000000, .data⟩ ∧
    (∀ i, i < 16 → s.win 1023 i = none) ∧ 7 ∈ other.validTenants ∧ x ∈ other.wins 7 ∧ other.winClash 1023 x 7 x = true ∧
    s.validTenants = [] ∧ s.tenSt 1023 ≠ .active ∧ s.tenSt 1023 ≠ .moving ∧
    winOf (State.reset.rd CYC.WIN_D0) (State.reset.rd CYC.WIN_D1) (State.reset.rd CYC.WIN_D2) (State.reset.rd CYC.WIN_D3) = none ∧
    ((withWin 1023 15 0 0 0x1003000 1 (ten 1023 2 [])).win 1023 15).isSome = true := by decide +kernel

theorem test_queues_witness :
    let full := (ten 1023 2 []).onTenant 1023 fun x => { x with evq := List.replicate 64 ⟨0, 0, 0, 0⟩ }
    let almost := (ten 1023 2 []).onTenant 1023 fun x => { x with evq := List.replicate 63 ⟨0, 0, 0, 0⟩ }
    let g := withF [(CYC.GLEN_LEN 4095, 1), (CYC.GBASE_GBASE 4095, 0x20000)] State.reset
    State.reset.regReach s0 = true ∧ 64 ≤ (full.tenant 1023).evq.length ∧ (almost.tenant 1023).evq.length < 64 ∧
    ((State.reset.onTenant 1023 fun x => { x with osq := [⟨1, 2, 3, 4⟩] }).tenant 1023).osq = [⟨1, 2, 3, 4⟩] ∧
    (State.reset.tenant 1023).osq = [] ∧ (withF [(CYC.GSTATE_HELD 4095, 1)] State.reset).flag (CYC.GSTATE_HELD 4095) = true ∧
    (withF [(CYC.GRDCFG_EN 4095, 1), (CYC.GRDCFG_EN 0, 1), (CYC.GLEN_LEN 0, 1), (CYC.GBASE_GBASE 0, 0x20000)] g).guardsApart 4095 = false ∧
    g.waiters 4095 = [] ∧ g.guardsApart 4095 = true ∧ (g.guardRegion 4095).2 ≤ 0x1006000000 ∧
    inSubRange (8191 * 2 ^ 16 + 1) 8191 = true ∧ 7 ∈ (ten 7 2 [(CYC.TBIND_VALID 7, 1)]).validTenants ∧
    State.reset.validTenants = [] := by decide +kernel

/-- Tenant 3 on core 63 waits with a tick dispatch, and tenant 5 of a later class. -/
def Tests.ready2 : State :=
  (((ten 3 2 [(CYC.TBIND_VALID 3, 1), (CYC.TBIND_CORE 3, 63), (CYC.TSTATE_STATE 5, 2), (CYC.TBIND_VALID 5, 1), (CYC.TBIND_CORE 5, 63),
    (CYC.TCFG_CLASS 5, 2), (CYC.TCFG_CLASS 3, 0), (CYC.CTL_EN, 1)]).onTenant 3 fun x => { x with tickAt := some (5, 0) })).onTenant 5 fun x =>
      { x with tickAt := some (1, 0) }

theorem test_dispatch_witness :
    let x : Cand := ⟨3, 0, 5, .tick, 0, false⟩
    let p := ready2.onTenant 3 fun y => { y with disp := some { disp0 with preempted := true, readyAt := 5 }, tickAt := none }
    let r := (ready2.onCore 63 fun c => { c with run := some 5 }).onTenant 5 fun y => { y with disp := some disp0 }
    let v := (ready2.onCore 63 fun c => { c with run := some 3 }).onTenant 3 fun y => { y with disp := some disp0 }
    bestCand (ready2.cands 63) = some x ∧ ready2.flag CYC.CTL_EN = true ∧ ready2.cyc.wdHalt = false ∧ ready2.halted 63 = false ∧
    (ready2.core 63).run = none ∧ bestCand (p.cands 63) = some { x with resume := true } ∧ bestCand (r.cands 63) = some x ∧
    (r.core 63).run = some 5 ∧ x.cls < r.classOf 5 ∧ (r.tenant 5).held = [] ∧ x.tenant ≠ 5 ∧ (r.tenant 5).disp = some disp0 ∧
    (bestCand (v.cands 63)).map (·.tenant) = some 5 ∧ v.classOf 3 ≤ 2 ∧ (v.core 63).run = some 3 ∧ v.coreOf 3 = 63 ∧
    State.reset.flag CYC.CTL_EN = false := by decide +kernel

theorem test_watchdogs_witness :
    let g := withF [(CYC.GSTATE_HELD 4095, 1), (CYC.GSTATE_HOLDER 4095, 3)] State.reset
    let w := withF [(CYC.CTL_CWD_EN, 1)] State.reset
    g.flag (CYC.GSTATE_HELD 4095) = true ∧ g.cyc.wdHalt = false ∧ g.halted (g.coreOf 3) = false ∧
    State.reset.flag (CYC.GSTATE_HELD 4095) = false ∧ State.reset.flag CYC.CTL_CWD_EN = false ∧ State.reset.wdFrozen = false ∧
    w.flag CYC.CTL_CWD_EN = true ∧ w.cyc.kick = .idle ∧ (w.onCyc fun c => { c with kick := .first }).cyc.kick = .first ∧
    (withF [(DBG.CTL_WDFREEZE, 1), (DBG.NSTATE_HALTED 67, 1)] w).wdFrozen = true ∧
    ((withF [(CYC.CTL_CWD_EN, 1)] ready2).onCore 63 fun c => { c with stall := 255 }).hasPending 63 = true ∧
    w.getF CYC.CWD_CFG_TICKTO ≤ ((w.onCore 63 fun c => { c with stall := 255 }).core 63).stall ∧ w.hasPending 63 = false ∧
    (post (.cwdKick 0xFFFF5A5A) w).cyc.kick = .first ∧ (post (.cwdKick 0xA5A5) w).cyc.wdHalt = true := by decide +kernel

theorem test_forces_witness :
    let p := 2 ^ 28 + 16383
    let s := withR [(CYC.FRC_D0, p), (CYC.FRC_D2, 2 ^ 31)] State.reset
    let f : Force := ⟨p, 2 ^ 32 - 1, 3, false⟩
    let e := s.onCyc fun c => { c with forces := smapSet (fun _ => none) c.forces 65535 (some f) }
    e.forceAt 65535 = some f ∧ s.idleAt 65535 = (0, 0, 0) ∧ (s.setF CYC.FRC_D2_VALID 0).flag CYC.FRC_D2_VALID = false ∧ (State.reset.wr CYC.FRC_D0 (p + 1)).rd CYC.FRC_D0 = p + 1 ∧ s.forceAt 65535 = none ∧ s.flag CYC.FRC_D2_VALID = true ∧ pointOk (s.rd CYC.FRC_D0) = true ∧
    s.forceFind (s.rd CYC.FRC_D0) = none ∧ e.forceFind (e.rd CYC.FRC_D0) = some 65535 ∧ pointOk (p + 1) = false ∧ pointOk 0 = false ∧
    ((post (.frcWrite 65535) s).forceAt 65535).map (·.point) = some p := by decide +kernel

/-- Tenant 1023 with two images in a CODE window and their data areas in a DATA window; the carry map is empty. -/
def Tests.images (st : Nat) : State :=
  ((((withWin 1023 1 1 1 0x1002001 1 (withWin 1023 0 0 0 0x1002000 0 (ten 1023 st [(CYC.IMGB_HDR 1023, 4), (CYC.CMAP_MAP 1023, 0x1F0)]))).writeLe
    0x1002000014 4 0x1000).writeLe 0x1002000018 4 0x100).writeLe 0x1002000114 4 0x1800).writeLe 0x1002000118 4 0x100

theorem test_exchange_witness :
    let d := withF [(CYC.XCHG_XSTATE 1023, 1)] (images 2)
    (images 2).getF (CYC.XCHG_XSTATE 1023) = 0 ∧ (images 2).tenSt 1023 = .active ∧ (images 2).xchgCheck 1023 = 0 ∧
    (images 1).xchgCheck 1023 = 0 ∧ (images 1).tenSt 1023 = .stopped ∧ (ten 1023 2 []).xchgCheck 1023 ≠ 0 ∧
    (ten 1023 1 []).xchgCheck 1023 ≠ 0 ∧ d.getF (CYC.XCHG_XSTATE 1023) = 1 ∧ d.xchgDue 1023 = true ∧ (ten 1023 2 [(CYC.XCHG_XSTATE 1023, 2)]).getF (CYC.XCHG_XSTATE 1023) = 2 ∧ State.reset.xchgDue 1023 = false ∧
    State.reset.flag (CYC.PHX_CFG_LOCK (State.reset.getF CYC.PHX_ADDR_SET)) = false ∧
    (withF [(CYC.PHX_CFG_LOCK 31, 1), (CYC.PHX_ADDR_SET, 31)] State.reset).flag (CYC.PHX_CFG_LOCK 31) = true := by decide +kernel

/-! ## Cores (chapters 09, 10) -/

/-- Tenant 40 runs on core 63 at 0x2400 of a CODE window, beside a STAGE, a CODE-free DATA and a GUARD window; guard 4095 lies in
the last. -/
def Tests.cyc : State :=
  (((withWin 40 3 0x4000 0x4000 0x1003000 4 (withWin 40 2 0x3000 0x3000 0x1004000 1 (withWin 40 1 0x2000 0x2000 0x1005000 3
    (withWin 40 0 0 0xFF 0x1002000 0 (ten 40 2 [(MEM.STATE_SRAM_RDY, 1), (MEM.STATE_DRAM_RDY, 1), (CYC.TBIND_VALID 40, 1),
      (CYC.TBIND_CORE 40, 63), (CYC.GBASE_GBASE 4095, 0x30000), (CYC.GLEN_LEN 4095, 1), (CYC.GRDCFG_EN 4095, 1),
      (CYC.GRDCFG_RANK 4095, 40), (CYC.GRDCFG_GROUP 4095, 3)]))))).wr (CYC.TGRPLO 40) 8).onTenant 40 fun x =>
        { x with disp := some disp0 }).onCore 63 fun k => { k with run := some 40 }

/-- The same with registers of the dispatch changed. -/
def Tests.cycR (f : Regs → Regs) : State := cyc.onTenant 40 fun x => { x with disp := x.disp.map fun d => { d with regs := f d.regs } }

/-- S3 runs at a level in the common SRAM. -/
def Tests.sup3 (l : Level) : State :=
  (withF [(MEM.STATE_SRAM_RDY, 1)] State.reset).onSup 3 fun k => { k with running := true, lvl := l, regs := { pc := 0x1002000000 } }

/-- Instructions of core 63 and of S3, executed always. -/
def Tests.i63 : Issue := ⟨63, false, 0⟩
def Tests.i67 : Issue := ⟨67, false, 0⟩

/-- A core takes an instruction now. -/
def Tests.takes (s : State) (n : Nat) : Bool :=
  s.awake && decide (64 ≤ n ∨ s.sys.power = .run) && s.ready n && !s.haltDue n && !s.halted n && !s.atBreakpoint n && !s.spent n &&
    (s.takeLate n).isNone && (match s.coreFetch n with | .ok _ _ => true | _ => false)

theorem test_issue_witness :
    takes cyc 63 = true ∧ takes (sup3 .platform) 67 = true ∧ takes (sup3 .app) 67 = true ∧ executes i63 (cyc.regsOf 63) = true ∧
    executes i67 ((sup3 .kernel).regsOf 67) = true ∧ executes ⟨63, true, 0⟩ (cyc.regsOf 63) = false ∧
    issueOf (.nop i63 0 0 0) = some i63 ∧ State.reset.ready 63 = false ∧ cyc.awake = true ∧ cyc.sys.power = .run ∧
    cyc.runs 63 = 40 ∧ cyc.haltDue 63 = false ∧ (cyc.onDbg fun d => { d with want := [63] }).haltDue 63 = true ∧
    (withF [(DBG.NSTATE_HALTED 63, 1)] cyc).halted 63 = true ∧ cyc.dbg.step.contains 63 = false := by decide +kernel

theorem test_before_witness :
    let bp := withF [(DBG.BP_EN 63 0, 1), (DBG.BP_BURGEE 63 0, 40), (DBG.BP_ADDR 63 0, 0x2400)] cyc
    let late := cyc.onTenant 40 fun x => { x with late := some (0x30, 64) }
    bp.atBreakpoint 63 = true ∧ bp.haltDue 63 = false ∧ bp.halted 63 = false ∧
    (cyc.onTenant 40 fun x => { x with disp := some { disp0 with left := 0 } }).spent 63 = true ∧
    (late.tenant (late.runs 63)).late = some (0x30, 64) ∧ late.spent 63 = false ∧
    (match (cycR fun r => { r with pc := 0x100000 }).coreFetch 63 with | .fault _ x a => x == 1 && a == 0x100000 | _ => false) = true ∧
    (match (withF [(MEM.STATE_SRAM_RDY, 0)] cyc).coreFetch 63 with | .wait => true | _ => false) = true := by decide +kernel

theorem test_integer_witness :
    (∀ r : Regs, aluOp 64 0 (r.getG 1) (r.getG 2) 2 = some ((lowBits 64 (r.getG 1) + lowBits 64 (r.getG 2)) % 2 ^ 64)) ∧ aluOp 64 0x15 0 0 0 = none ∧
    aluOp 32 0x15 0 0 0 = none ∧ shiOp 0x1DF 0 ≠ none ∧ shiOp 0x200 0 = none ∧ mulDiv 0x0B 0 0 ≠ none ∧
    cmpCond 0 0 0 ≠ none ∧ cmpCond 127 0 0 = none ∧ combine 2 true false = some true := by
  exact ⟨fun r => rfl, by decide +kernel, by decide +kernel, by decide +kernel, by decide +kernel, by decide +kernel, by decide +kernel,
    by decide +kernel, by decide +kernel⟩

theorem test_integer_steps :
    let s := cycR fun r => (r.setG 1 5).setG 2 7
    ((post (.alu i63 31 1 2 0) s).regsOf 63).getG 31 = 12 ∧ ((post (.addi i63 31 1 0xFFF) s).regsOf 63).getG 31 = 4 ∧
    ((post (.cmp i63 0 7 1 2 2) s).regsOf 63).getP 7 = true ∧ ((post (.muldiv i63 31 1 2 7) s).regsOf 63).getG 31 = 5 ∧
    ((post (.lih i63 3 31 false 0x8000) s).regsOf 63).getG 31 = 2 ^ 63 ∧ ((post (.alu i63 0 1 2 0) s).regsOf 63).getG 0 = 0 ∧
    ((post (.sel i63 31 1 2 8) s).regsOf 63).getG 31 = 7 ∧ ((post (.b i63 0x3FFFFF) s).regsOf 63).pc = 0x23FC ∧
    ((post (.nop i63 0 0 0) s).regsOf 63).pc = 0x2404 := by decide +kernel

theorem test_branches_witness :
    addrOn 63 ((cycR fun r => r.setG 1 0x2404).regsOf 63 |>.getG 1) % 4 = 0 ∧
    addrOn 63 ((cycR fun r => r.setG 1 0x2406).regsOf 63 |>.getG 1) % 4 ≠ 0 ∧ cyc.flag (DBG.NCTL_BRKEN 63) = false ∧
    (withF [(DBG.NCTL_BRKEN 67, 1)] (sup3 .app)).flag (DBG.NCTL_BRKEN 67) = true := by decide +kernel

theorem test_accesses_witness :
    let st := cyc.coreStore 63 0x2000FF8 (leBytes 8 77)
    (match cyc.coreLoad 63 0x2000FF8 8 with | .ok v b => v.awake && decide (b = leBytes 8 0) && !v.wpMatch 63 0x2000FF8 false | _ => false) = true ∧
    (match st with | .ok v _ => decide (v.readLe 0x1005000FF8 8 = 77) | _ => false) = true ∧
    (match cyc.coreAtomic 63 0x2000FF8 8 (atomNew 2 5 0) with | .ok v _ => decide (v.readLe 0x1005000FF8 8 = 5) | _ => false) = true ∧
    (match cyc.coreLoad 63 0x2000FF9 8 with | .fault _ x a => x == 3 && a == 0x2000FF9 | _ => false) = true ∧
    (match (withF [(MEM.STATE_SRAM_RDY, 0)] cyc).coreLoad 63 0x2000FF8 8 with | .wait => true | _ => false) = true ∧
    (withF [(DBG.WP_CFG_RW 63 1, 2), (DBG.WP_ADDR_ADDR 63 1, 0x2000FF8)] cyc).wpMatch 63 0x2000FF8 true = true ∧
    (match (sup3 .platform).coreLoad 67 0x1002000000 8 with | .ok _ _ => true | _ => false) = true := by decide +kernel

theorem test_tenant_accesses_witness :
    let s := cyc.onCore 63 fun c => { c with dl := [⟨0x1004000000 / 64, List.replicate 64 1, false, [], false, false, 40⟩] }
    let w (a n : Nat) := cyc.winAt 40 a n
    0x2000FF9 % 8 ≠ 0 ∧ w 0x5000000 8 = none ∧ (w 0x2400 4).map (·.kind) = some .code ∧ (w 0x2000FF8 8).map (·.kind) = some .stage ∧
    (w 0x4000000 4).map (·.kind) = some .guard ∧ (w 0x2000FF8 8).map (fun x => cyc.physIn 40 x 0x2000FF8) = some 0x1005000FF8 ∧
    (cyc.tenant 40).held = [] ∧ cyc.memReady 0x1005000FF8 = true ∧ cyc.mc.bad = [] ∧ cyc.mc.inj = none ∧ cyc.mc.trainFailed = false ∧
    (w 0x3000000 4).map (·.kind) = some .data ∧ s.memReady 0x1004000000 = true ∧
    (cacheFind (s.core 63).dl (0x1004000000 / 64)).isSome = true := by decide +kernel

theorem test_guards_witness :
    let held := withF [(CYC.GSTATE_HELD 4095, 1)] cyc
    let own (gs : List Nat) := cyc.onTenant 40 fun x => { x with held := gs }
    let wt := ((own [4095]).onTenant 7 fun x => { x with disp := some { disp0 with wait := some (4095, 31) } }).onCyc fun c =>
      { c with waiters := smapSet (fun _ => []) c.waiters 4095 [7] }
    cyc.guardRequest 40 4095 = .grant ∧ held.guardRequest 40 4095 = .wait ∧ (own (List.range 8)).guardRequest 40 4095 = .fault 0x13 ∧
    (own [4095]).guardRequest 40 4095 = .fault 0x10 ∧ cyc.guardRequest 40 0 = .fault 0x11 ∧ cyc.flag (CYC.GRDCFG_EN 4095) = true ∧
    cyc.inGroups 40 4095 = true ∧ ((own [4095]).tenant 40).held.contains 4095 = true ∧ (own [4095]).waiters 4095 = [] ∧
    (cyc.tenant 40).held.contains 4095 = false ∧ wt.waiters 4095 = [7] ∧ wt.nextWaiter [7] = some 7 ∧
    ((post (.gacq i63 8 0 4095) cyc).regsOf 63).getG 8 = 40 * 256 ∧
    ((post (.gacq i63 8 1 0) (cycR fun r => r.setG 1 4095)).regsOf 63).getG 8 = 40 * 256 := by decide +kernel

theorem test_special_registers_witness :
    let q := cyc.onTenant 40 fun x => { x with evq := [⟨1, 2, 3, 4⟩], osq := List.replicate 64 ⟨0, 0, 0, 0⟩ }
    (q.tenant 40).evq = [⟨1, 2, 3, 4⟩] ∧ (cyc.tenant 40).evq = [] ∧ (cyc.tenant 40).osq.length < 64 ∧ 64 ≤ (q.tenant 40).osq.length ∧
    (cyc.tenant 40).disp = some disp0 ∧ srRule 0 = none ∧
    (srRule 0x210).map (fun x => (x.read.num ≤ ((sup3 .kernel).supc 3).lvl.num : Bool)) = some true ∧
    (srRule 0x220).map (fun x => (((sup3 .kernel).supc 3).lvl.num < x.read.num : Bool)) = some true ∧
    (srRule 0x220).map (fun x => x.writable && (x.write.num ≤ ((sup3 .platform).supc 3).lvl.num : Bool)) = some true ∧
    (srRule 0x201).map (fun x => !x.writable && (x.write.num ≤ ((sup3 .platform).supc 3).lvl.num : Bool)) = some true ∧
    ((post (.evpop i63 5 0 3) q).regsOf 63).getV 3 = 1 + 2 * 2 ^ 32 + 3 * 2 ^ 64 + 4 * 2 ^ 96 ∧
    ((post (.mtsr i67 0 1 0x220) ((sup3 .platform).onSup 3 fun k => { k with regs := k.regs.setG 1 0xFFFF })).supc 3).bankP.vtab = 0xF800 := by
  decide +kernel

theorem test_vectors_witness :
    let p := withF [(CYC.PHX_CFG_LOCK 31, 1), (CYC.PHX_CFG_LEN 31, 1)] (cycR fun r => (r.setG 1 0x2000000).setG 2 (31 * 2 ^ 24))
    (vintOp 0 15 15 15 1 2).isSome = true ∧ vintOp 0 16 0 0 0 0 = none ∧ (vfltOp 0 15 15 15 0 0 0).isSome = true ∧
    vfltOp 127 0 0 0 0 0 0 = none ∧ (vcpxOp 0 15 15 15 0 0 0 0).isSome = true ∧ vcpxOp 127 0 0 0 0 0 0 0 = none ∧
    cyc.flag (CYC.PHX_CFG_LOCK 0) = false ∧ p.flag (CYC.PHX_CFG_LOCK (bits ((p.regsOf 63).getG 2) 28 24)) = true ∧
    p.getF (CYC.PHX_CFG_LEN 31) ≠ 0 ∧ (pswSlots 0).isSome = true ∧ pswSlots (9 * 2 ^ 32) = none ∧ Machine.lane 5 0 = (5#32).toNat := by decide +kernel

/-! ## SUP (chapter 11) -/

/-- S3 at a level with translation on and one cached translation: page 5, leaf `e`. -/
def Tests.paged (l : Level) (e : Nat) : State :=
  (sup3 l).onSup 3 fun k => { k with xen := true, xroot := 0x1004000000, tlb := [⟨0, 5, 12, e⟩] }

theorem test_addresses_witness :
    let s := sup3 .platform
    let walks (e : Nat) := s.writeLe (0x1004000000 + 8 * 511) 8 e
    let one (e : Nat) : Option Nat := (match (walks e).physLoad (supWho 3) (0x1004000000 + 8 * (0xFFFFFFFFFFFF / 2 ^ 39 % 512)) 8 with
      | .ok _ b => some (ofLe b) | _ => (none : Option Nat))
    let hit := s.onSupLines fun _ => [⟨0x1005000000 / 64, List.replicate 64 3, false, [], false, false, 0⟩]
    (s.supc 3).lvl = .platform ∧ ((sup3 .app).supc 3).xen = false ∧ 2 ^ 40 - 1 < 2 ^ 40 ∧ ((paged .app 0x7F).supc 3).xen = true ∧
    (2 ^ 47 : Nat) / 2 ^ 47 ≠ 0 ∧ (2 ^ 47 : Nat) / 2 ^ 47 ≠ 2 ^ 17 - 1 ∧ ((2 ^ 64 - 1 : Nat) / 2 ^ 47) = 2 ^ 17 - 1 ∧
    (match (paged .app 0x7F).leafOf 3 (5 * 4096) with | .leaf _ e k => e == 0x7F && k == 12 | _ => false) = true ∧
    (match (sup3 .platform).leafOf 3 0 with | .fault _ x => x == 1 | .wait => true | _ => false) = true ∧
    one 0 = some 0 ∧ one 0x181 = some 0x181 ∧ one 3 = some 3 ∧ one 0x7D = some 0x7D ∧
    inRegSpace 0x3000000000 = true ∧ inRegSpace 0x1006000000 = false ∧ rangeRegion 0x1006000000 4 = none ∧
    rangeRegion 0x3FFFF00000 4 = some .readOnly ∧ rangeRegion 0x1005000000 4 = some .ram ∧ isSram 0x1005000000 = true ∧
    (cacheFind hit.sup.dl (0x1005000000 / 64)).isSome = true ∧ s.memReady 0x1005000000 = true := by decide +kernel

theorem test_interrupts_witness :
    let s (plat : Nat) := { withF [(SUP.IC_SRC_EN 1023, 1), (SUP.IC_SRC_PLAT 1023, plat), (SUP.IC_SRC_TARGET 1023, 3), (SUP.IC_SRC_PRIO 1023, 15)]
      (sup3 .app) with sup := { (sup3 .app).sup with swi := [1023] } }
    (s 1).chosen 3 true = some 1023 ∧ (s 0).chosen 3 false = some 1023 ∧ (s 0).chosen 3 true = none ∧ (s 1).supRuns 3 = true ∧
    ((s 1).supc 3).lvl = .app ∧ State.reset.supRuns 3 = false ∧ smapWf regDefault (s 1).regs = true ∧
    ((post (.interruptTake 3) (s 1)).supc 3).lvl = .platform ∧ ((post (.interruptTake 3) (s 1)).supc 3).regs.pc = 64 * 31 := by
  decide +kernel

/-! ## PUB (chapter 12) -/

/-- Publication 4351 of a kind, owned by tenant 40 in ACTIVE, of one attribute staged in a STAGE window, with an attribute map and a
template in the common SRAM; some fields set. -/
def Tests.pubd (kind : Nat) (fs : List (FieldRef × Nat)) : State :=
  withF fs (withWin 40 1 0x2000 0x2000 0x1005000 3 (withF [(PUB.CTL_EN, 1), (PUB.W0_EN 0 4351, 1), (PUB.W0_KIND 0 4351, kind),
    (PUB.W0_OWNER 0 4351, 40), (PUB.W1_NATTR 0 4351, 1), (PUB.W5_TLEN 0 4351, 64), (PUB.W4_STAGE 0 4351, 0x10050000),
    (PUB.W2_TMPL 0 4351, 0x10030000), (PUB.W3_AMAP 0 4351, 0x10030100), (CYC.TBIND_VALID 40, 1), (MEM.STATE_SRAM_RDY, 1)] (ten 40 2 [])))

theorem test_states_witness :
    let s := pubd 0 []
    let held := (pubd 1 []).onPb 4351 fun p => { p with held := some ⟨7, 5⟩ }
    let run := s.onPb 4351 fun p => { p with started := true, ticks := [5] }
    let again := (s.putBase 4351 [(0, 8, 9)]).onPb 4351 fun p => { p with started := true, sent := [⟨8, 9, false⟩] }
    let arm := withR [(PUB.ARMID 4351, 9)] (pubd 2 [(PUB.PSTATE_ARMED 4351, 1)])
    s.pub.act ≤ 1 ∧ State.reset.pubOn 4351 = false ∧ s.pubOn 4351 = true ∧ State.reset.pubLive 4351 = false ∧ s.pubLive 4351 = true ∧
    s.pubNews 4351 = true ∧ again.pubNews 4351 = false ∧ s.ownerSafe 40 = false ∧ (again.pb 4351).sent.length = 1 ∧ (pubd 0 [(CYC.TCFG_CLASS 40, 0)]).classOf 40 = 0 ∧
    (s.rd (PUB.TOP (40 / 32))).testBit (40 % 32) = false ∧ (pubd 0 [(CYC.TCFG_CLASS 40, 1)]).classOf 40 ≠ 0 ∧
    arm.flag (PUB.PSTATE_ARMED 4351) = true ∧ arm.rd (PUB.ARMID 4351) = 9 ∧ (pubd 2 []).flag (PUB.PSTATE_ARMED 4351) = false ∧
    s.pubKind 4351 < 3 ∧ (s.staging 4351).map (·.length) = some 1 ∧ s.mc.bad = [] ∧ s.mc.trainFailed = false ∧
    (withF [(PUB.W4_STAGE 0 4351, 0)] s).staging 4351 = none ∧ s.pubGoose 4351 = true ∧ s.pubDiffers 4351 = true ∧
    (pubd 3 []).pubGoose 4351 = false ∧ ((pubd 3 []).onPb 4351 fun p => { p with mark := true }).pubKind 4351 = 3 ∧ (run.pb 4351).ticks = [5] ∧ run.pubNews 4351 = true ∧
    s.flag (PUB.PSTATE_DEFERRED 4351) = false ∧ s.publishes 40 = true ∧ s.pairTenant 40 = false ∧ s.pubF PUB.W0_AUTH_EN 4351 = 0 ∧
    (held.pb 4351).held = some ⟨7, 5⟩ ∧ held.pubsOf 40 = [4351] ∧ (pubd 1 [(PUB.W0_HOLDPOL 0 4351, 1)]).pubF PUB.W0_HOLDPOL 4351 = 1 ∧
    s.forceOn (attrPoint 4351 0) = none ∧ s.pubSafe 4351 = false ∧ (pubd 0 [(CYC.TSTATE_STATE 40, 3)]).pubSafe 4351 = true ∧
    s.pointSubst 4351 0 = false ∧ (s.pb 4351).mark = false ∧
    smapGet (fun _ => none) ((s.putBase 4351 [(0, 8, 9)]).pb 4351).base 0 = some (8, 9) := by decide +kernel

/-- A GOOSE frame of APPID 1, gocbRef "A", stNum 2, sqNum 3, confRev 1 and one attribute. -/
def Tests.goose : List Byte := List.replicate 12 0 ++ [0x88, 0xB8, 0, 1, 0, 0x20, 0, 0, 0, 0, 0x61, 21, 0x80, 1, 0x41, 0x85, 1, 2, 0x86, 1, 3,
  0x87, 1, 0, 0x88, 1, 1, 0xAB, 4, 0x83, 1, 1, 0, 0]

/-- The last subscription takes it: map and reference in the common SRAM. -/
def Tests.gooseSub (fs : List (FieldRef × Nat)) : State :=
  ((withF fs (withR [(PUB.RXW3 4095, 1), (PUB.RXW4 4095, 0x10030000), (PUB.RXW5 4095, 0x10040000)] (withF [(PUB.RXW0_EN 4095, 1),
    (PUB.RXW0_REFLEN 4095, 1), (PUB.RXW0_NATTR 4095, 1), (PUB.RXW2_APPID 4095, 1)] State.reset))).writeLe 0x1003000000 1 0x41).onPub fun b =>
      { b with inbox := [⟨goose, {}⟩] }

theorem test_received_goose_witness :
    let s := gooseSub []
    let t := s.onPub fun b => { b with subs := smapSet (fun _ => {}) b.subs 4095 { last := some (2, 3) } }
    let u := withF [(PUB.RXW6_EN0 4095, 1), (PUB.RXW6_TEN0 4095, 40)] t
    (gooseOf goose).stNum = 2 ∧ (gooseOf goose).sqNum = 3 ∧ (gooseOf goose).confRev = 1 ∧ (gooseOf goose).sim = false ∧
    s.rxMatch 4095 goose (gooseOf goose) = true ∧ (s.listed (PUB.RXW0 0) 0x20 4096).filter (fun k => s.rxMatch k goose (gooseOf goose)) = [4095] ∧
    State.reset.rxMatch 4095 goose (gooseOf goose) = false ∧ (gooseOf goose).confRev = s.rd (PUB.RXW3 4095) ∧
    (gooseOf goose).confRev ≠ State.reset.rd (PUB.RXW3 4095) ∧ s.flag (PUB.RXW0_AUTH_EN 4095) = false ∧
    (s.rxMap 4095).all (fun x => !x.beyond goose.length) = true ∧ inFreeSram (s.rd (PUB.RXW5 4095) * 256) 24 = true ∧
    s.mc.bad = [] ∧ s.mc.inj = none ∧ (s.rxSub 4095).last = none ∧ (t.rxSub 4095).last = some (2, 3) ∧ (t.rxSub 4095).expired = false ∧
    t.flag (PUB.RXW0_EN 4095) = true ∧ t.talAt 4095 = some 0 ∧ t.todCycles 0 = 0 ∧ NoneDue t 0 ∧ u.rxTenants 4095 = [40] ∧ (u.tenant 40).evq.length < 64 ∧ (u.tenant 40).gap = false ∧
    (gooseSub [(PUB.RXW0_AUTH_EN 4095, 1)]).flag (PUB.RXW0_AUTH_EN 4095) = true ∧
    ((gooseSub [(PUB.RXW0_AUTH_EN 4095, 1)]).authVerify 0 goose (etherOff goose + 2)).2 = false ∧
    (post .gooseReceive s).readLe 0x1004000000 4 = 2 := by unfold NoneDue; decide +kernel

theorem test_publications_witness :
    let g (fs : List (FieldRef × Nat)) := (pubd 0 fs).onPb 4351 fun p => { p with started := true }
    let pair := g [(RDE.CFG_MODE, 3), (RDE.PAIRT_PAIR 1, 2 ^ 8), (RDE.PSLOT_PCNT 4351, 1)]
    let late := (g []).onPb 4351 fun p => { p with due := 10 ^ 25, deferred := [(5, 1)] }
    let off := (withF [(PUB.W5_TLEN 1 4351, 1500), (PUB.W1_NATTR 1 4351, 0)] (pubd 0 []))
    (g []).pubOn 4351 = true ∧ (g []).pubGoose 4351 = true ∧ ((g []).pb 4351).started = true ∧ (g []).pairTenant 40 = false ∧
    (g []).repeatAt 4351 = some 0 ∧ (g []).todCycles 0 = 0 ∧ 0 < (g []).boundaryIn ∧ NoneDue (g []) 0 ∧ ((g []).pb 4351).deferred = [] ∧
    (g []).slotsFull 4351 ((g []).repeatTick 4351) = false ∧ NoneDue pair 0 ∧ pair.slotsFull 4351 (pair.repeatTick 4351) = true ∧
    (pair.pb 4351).deferred = [] ∧ tickReached pair.tickNow (tickAdd (pair.repeatTick 4351) 1) = false ∧
    (late.pb 4351).deferred = [(5, 1)] ∧ late.slotsFull 4351 0 = false ∧ tickReached late.tickNow 1 = false ∧
    late.boundaryIn < late.todCycles (10 ^ 25 - late.tab.mono).toNat ∧ State.reset.regReach s0 = true ∧
    (State.reset.onPub fun b => { b with clog := [⟨1, 2, 3, 4⟩] }).pub.clog = [⟨1, 2, 3, 4⟩] ∧ State.reset.pub.clog = [] ∧
    State.reset.pub.act = 0 ∧ off.getF (PUB.W1_NATTR 1 4351) = 0 ∧ State.reset.getF (PUB.W5_TLEN 1 4351) < 60 ∧
    State.reset.getF (PUB.W0_KIND 1 4351) < 3 ∧ 3 ≤ (withF [(PUB.W0_KIND 1 4351, 3)] State.reset).getF (PUB.W0_KIND 1 4351) ∧
    (pubd 2 []).pubKind 4351 = 2 ∧ State.reset.pubKind 4351 ≠ 2 ∧ State.reset.pub.inbox = [] ∧ State.reset.sys.railOut = none := by
  unfold NoneDue; decide +kernel

/-! ## CAP, MEM, DMV (chapters 13 to 15) -/

/-- Record unit 15 in a state, with some fields set. -/
def Tests.unit15 (st : Nat) (fs : List (FieldRef × Nat)) : State := withF ((CAP.USTATE_STATE 15, st) :: fs) State.reset

theorem test_records_witness :
    let lull := { State.reset with sys := { State.reset.sys with power := .lull } }
    let full := unit15 5 [(CAP.UDIRIDX_WIDX 15, 64)]
    let on := withF [(SVC.GCFG_GEN 15, 1), (CAP.UCFG_GRID 15, 15)] State.reset
    let rec_ := (unit15 3 [(CAP.UDIRIDX_WIDX 15, 64)]).onCu 15 fun x =>
      { x with trig := some ⟨5, 255, 7⟩, rows := [⟨0, 0, false, false, false⟩] }
    lull.sys.power = .lull ∧ State.reset.sys.power = .run ∧ (unit15 5 []).capSt 15 = 5 ∧ full.dirFull 15 = true ∧
    (unit15 5 []).dirFull 15 = false ∧ (unit15 1 []).capSt 15 = 1 ∧ (unit15 4 []).capSt 15 = 4 ∧ (unit15 0 []).capSt 15 = 0 ∧
    State.reset.flag (CAP.UCFG_EN 15) = false ∧ (unit15 5 [(CAP.UCFG_EN 15, 1)]).flag (CAP.UCFG_EN 15) = true ∧
    State.reset.capMayEnable 15 = false ∧ on.capMayEnable 15 = true ∧ State.reset.gridOn 0 = false ∧
    (withR [(CAP.URBASE 15, 1)] State.reset).rd (CAP.URBASE 15) % 2 ^ State.reset.getF (CAP.URSIZE_RSIZE 15) ≠ 0 ∧
    rec_.capSt 15 = 3 ∧ (rec_.cu 15).trig = some ⟨5, 255, 7⟩ ∧ (rec_.cu 15).rows.length = 1 ∧
    isDram (rec_.getF (CAP.UDIRBASE_DIRBASE 15) * 4096 + rec_.getF (CAP.UDIRIDX_WIDX 15) % 64 * 64) = true ∧
    (unit15 4 []).capMayArm 15 = true ∧ (unit15 4 [(CAP.UDIRIDX_WIDX 15, 64)]).capMayArm 15 = false ∧
    (post (.capSwTrig 15) (unit15 5 [])).rd (CAP.UMISSED 15) = 1 := by decide +kernel

/-- The common SRAM and the DRAM are ready. -/
def Tests.mems : State := withF [(MEM.STATE_SRAM_RDY, 1), (MEM.STATE_DRAM_RDY, 1)] State.reset

/-- A burst of a mover at the end of the common SRAM. -/
def Tests.burst (k : BurstKind) (bad : List Nat) : Burst := ⟨0, 63, true, 40, false, 0x1005FFFFE0, k, bad, []⟩

/-- A request of a port at an arbiter. -/
def Tests.req (port : Fin 97) (base age : Nat) (lower : List Nat) : ArbReq :=
  ⟨{ burst (.read 1) [] with port := port }, 0, base, 0, age, 0, [], false, false, none, lower⟩

theorem test_memory_witness :
    let w := [some 1]
    let inj := { mems with mc := { mems.mc with inj := some (5, 2), bad := [(5, 1)] } }
    mems.awake = true ∧ (burst (.read 1) []).bad = [] ∧ mems.burstOk (burst (.read 1) []) = true ∧
    mems.burstOk (burst (.write [w]) [0]) = true ∧ mems.burstOk (burst (.atomic w) []) = true ∧
    mems.burstOk (burst (.read 2) []) = false ∧ mems.memReady 0x1005FFFFE0 = true ∧ mems.mc.bad = [] ∧ mems.mc.inj = none ∧
    mems.mc.trainFailed = false ∧ State.reset.memReady 0x1005FFFFE0 = false ∧
    (arbBest 96 [req 1 5 0 [], req 2 5 0 []]).map (·.b.port) = some 1 ∧
    (arbDecide 0 1 [req 1 5 0 [], req 2 4 4000 []] none).map (·.b.port) = some 2 ∧
    (arbDecide 0 1 [req 1 5 128 []] (some (req 2 4 0 []))).map (·.b.port) = some 1 ∧
    (withF [(MEM.CTL_DSCRUB_EN, 1)] mems).flag MEM.CTL_DSCRUB_EN = true ∧ (withF [(MEM.CTL_SSCRUB_EN, 1)] mems).flag MEM.CTL_SSCRUB_EN = true ∧
    isSram 0x1005FFFFFF = true ∧ smapGet (fun _ => (0 : Nat)) inj.mc.bad 5 = 1 ∧ inj.mc.inj = some (5, 2) ∧
    smapWf regDefault mems.regs = true ∧ smapWf memDefault mems.mem = true ∧ mems.mc.waiting = [] ∧ mems.dbg.run = none ∧
    State.reset.flag MEM.STATE_SRAM_RDY = false ∧ State.reset.flag MEM.STATE_DRAM_RDY = false ∧ State.reset.mc.trainFailed = false ∧
    (post .selfRefreshEntry { mems with sys := { mems.sys with power := .lull } }).mc.selfRefresh = true := by decide +kernel

/-- Mover 15 of a kind, with one descriptor in the common SRAM at 0x10_0300_0000, its first four words as given. -/
def Tests.mover (kind w0 w1 w2 w3 : Nat) : State :=
  ((((withR [(DMV.MRBASE 15, 0x1003000000), (DMV.MTAIL 15, 1)] (withF [(DMV.MCFG_EN 15, 1), (DMV.MCFG_KIND 15, kind),
    (DMV.MSTATE_STATE 15, 1), (DMV.MCFG_BUFSZ 15, 2048)] mems)).writeLe 0x1003000000 4 w0).writeLe 0x1003000004 4 w1).writeLe
      0x1003000008 4 w2).writeLe 0x100300000C 4 w3

/-- The same, for a copy of 8 bytes from 0x10_0400_0000 to 0x10_0500_0000. -/
def Tests.copier : State := ((mover 0 1 8 0x04000000 0x10).writeLe 0x1003000010 4 0x05000000).writeLe 0x1003000014 4 0x10

theorem test_movers_witness :
    let d := copyDesc (copier.readBytes 0x1003000000 32)
    let done := copier.onDmv fun x => { x with movers := smapUpd (fun _ => {}) x.movers 15 fun y => { y with job := some ⟨7, 8⟩ } }
    let rx := (mover 1 0 0 0x04000000 0x10).onDmv fun x => { x with movers := smapUpd (fun _ => {}) x.movers 15 fun y =>
      { y with rx := [⟨[1, 2], {}⟩] } }
    let empty := withR [(DMV.MTAIL 15, 0)] rx
    let failed (k : Bool) := rx.onDmv fun x => { x with failed := [(k, 0x1004000000)] }
    let tx := mover 2 (2 ^ 29 + 64) 0 0x04000000 0x10
    copier.moverRuns 15 0 = true ∧ copier.moverOwns 15 = 1 ∧ (copier.mover 15).job = none ∧ State.reset.moverRuns 15 0 = false ∧
    copier.descAddr 15 0 = 0x1003000000 ∧ rangeRegion 0x1003000000 32 = some .ram ∧ copier.memReady 0x1003000000 = true ∧
    copier.mc.bad = [] ∧ copier.mc.inj = none ∧ d.error = none ∧ d.op = 1 ∧ d.swap = 0 ∧ d.swrap = 0 ∧ d.dwrap = 0 ∧
    d.src = 0x1004000000 ∧ d.dst = 0x1005000000 ∧ d.len = 8 ∧ (copyDesc ((mover 0 2 8 0 0).readBytes 0x1003000000 32)).error = some .desc ∧
    (copyDesc ((mover 0 1 0 0 0).readBytes 0x1003000000 32)).error = some .len ∧ (done.mover 15).job = some ⟨7, 8⟩ ∧
    (rx.mover 15).rx.length = 1 ∧ rx.moverRuns 15 1 = true ∧ rx.moverOwns 15 = 1 ∧ empty.moverOwns 15 = 0 ∧
    2 ≤ rx.getF (DMV.MCFG_BUFSZ 15) ∧ bits (rx.readLe (0x1003000000 + 12) 4) 7 0 * 2 ^ 32 + rx.readLe (0x1003000000 + 8) 4 / 64 * 64 = 0x1004000000 ∧
    rangeRegion 0x1006000000 2 = none ∧ (true, 0x1004000000) ∈ (failed true).dmv.failed ∧ (false, 0x1004000000) ∈ (failed false).dmv.failed ∧
    rx.dmv.failed = [] ∧ tx.moverRuns 15 2 = true ∧ (tx.readLe 0x1003000000 4).testBit 29 = true ∧ tx.readLe 0x1003000000 4 % 65536 = 64 ∧
    State.reset.moverRuns 15 2 = false ∧ 2 ^ State.reset.getF (DMV.MCFG_RSIZE 15) < (131071 + 131072 - State.reset.rd (DMV.MHEAD 15)) % 131072 ∧
    (post (.dmvCopy 15) (copier.writeLe 0x1004000000 4 77)).readLe 0x1005000000 4 = 77 ∧
    ((post (.dmvRxFrame 15) rx).readBytes 0x1004000000 2) = [1, 2] := by decide +kernel

/-! ## SEC (chapter 16) -/

/-- A module in FIELD whose keys are reachable, with some fields set. -/
def Tests.secd (fs : List (FieldRef × Nat)) : State :=
  withF ([(SEC.LC_STATE, 2), (SEC.LC_FIELDKEYS, 1), (SEC.LC_OWNER_SET, 1), (MEM.STATE_SRAM_RDY, 1)] ++ fs) State.reset

/-- The same with key slot 8191. -/
def Tests.keyed (k : KeySlot) (fs : List (FieldRef × Nat)) : State :=
  (secd fs).onSec fun c => { c with slots := smapSet (fun _ => {}) c.slots 8191 k }

/-- A HMAC key of software. -/
def Tests.hkey : KeySlot := { key := 5, alg := 0, usage := 4, valid := true }

theorem test_keys_witness :
    let s := secd []
    let kern := s.onSup 0 fun k => { k with lvl := .kernel }
    let app := s.onSup 0 fun k => { k with lvl := .app }
    let run := s.onSec fun c => { c with keyRun := some ⟨8191, hkey⟩ }
    let lc := s.onSec fun c => { c with lcRun := some ⟨.field, 0⟩ }
    let old := keyed { hkey with expiry := 2 ^ 32 - 1 } []
    s.awake = true ∧ s.regReach s0 = true ∧ s.platform s0 = true ∧ kern.regReach s0 = true ∧ kern.platform s0 = false ∧
    app.regReach s0 = false ∧ s.sec.keyRun = none ∧ s.sec.lcRun = none ∧ run.sec.keyRun.isSome = true ∧ lc.sec.lcRun.isSome = true ∧
    State.reset.keysReachable = false ∧ s.keysReachable = true ∧ s.getF SEC.KEY_ATTR_ALG = 0 ∧
    (secd [(SEC.KEY_ATTR_ALG, 4)]).getF SEC.KEY_ATTR_ALG = 4 ∧ (secd [(SEC.KEY_ATTR_ALG, 3)]).keyData = 0 ∧
    ((keyed hkey []).keySlot 8191).valid = true ∧ s.activeSlot 1023 = 0 ∧ (withF [(CYC.TSTATE_STATE 1023, 2)] s).tenSt 1023 = .active ∧
    s.getF (CYC.XCHG_XSTATE 1023) = 0 ∧ (withF [(CYC.XCHG_XSTATE 1023, 1)] s).getF (CYC.XCHG_XSTATE 1023) ≠ 0 ∧
    smapWf (fun _ => {}) old.sec.slots = true ∧ tickReached old.tab.tickNum ((old.keySlot 8191).expiry) = true ∧
    (s.onSec fun c => { c with zeroising := true }).sec.zeroising = true ∧ (keyed hkey []).keyUsable 8191 .supHmac = true ∧
    (keyed { hkey with owned := true, owner := 1023, usage := 1 } []).keyUsable 8191 (.tx 1023) = true ∧
    (keyed { hkey with expired := true } []).keyUsable 8191 .supHmac = false := by decide +kernel

theorem test_engine_witness :
    let s := secd []
    let eng := s.onSec fun c => { c with eng := some ⟨3, [7]⟩ }
    let ens := s.onSec fun c => { c with ens := some ⟨List.replicate 896 0, 1, 5⟩ }
    s.kernel s0 = true ∧ s.sec.eng = none ∧ s.sec.hmac = none ∧ (s.onSec fun c => { c with hmac := some ([1], [2]) }).sec.hmac = some ([1], [2]) ∧
    eng.sec.eng = some ⟨3, [7]⟩ ∧ s.sec.ens = none ∧ ens.sec.ens.map (·.body.length) = some 896 ∧
    (keyed { hkey with alg := 3, key := 1 } []).keyUsable 8191 .supSign = true ∧ s.getF SEC.LC_STATE = 2 ∧
    State.reset.getF SEC.LC_STATE = 0 ∧ (secd [(SEC.LC_STATE, 1)]).getF SEC.LC_STATE = 1 ∧ s.flag SEC.LC_OWNER_SET = true ∧
    (secd [(SEC.LC_OWNER_SET, 0)]).flag SEC.LC_OWNER_SET = false ∧ s.secBusy = false ∧ eng.secBusy = true ∧ (secd [(SEC.LC_UNLOCKED, 1)]).flag SEC.LC_UNLOCKED = true ∧
    s.flag SEC.LC_UNLOCKED = false ∧ (secd [(SEC.LC_STATE, 3)]).getF SEC.LC_STATE = 3 ∧
    (post .engComplete eng).rd (SEC.X_D 0) = 7 ∧ (post .engComplete eng).getF SEC.ENG_RES_CODE = 3 := by decide +kernel

/-- Challenge 5 stands, and X_D holds given bytes. -/
def Tests.token (b : List Byte) : State :=
  withR ((List.range 8).map fun i => (SEC.X_D i, ofLe (sliceD 0 b (4 * i) 4))) ((secd []).onSec fun c => { c with challenge := some 5 })

theorem Tests.rd_withR (g : Nat → Nat) (n i : Nat) (h : i < n) (s : State) :
    (withR ((List.range n).map fun k => (SEC.X_D k, g k)) s).rd (SEC.X_D i) = g i % 2 ^ 64 := by
  induction n with
  | zero => omega
  | succ n ih =>
    simp only [withR] at ih
    simp only [withR, List.range_succ, List.map_append, List.map_cons, List.map_nil, List.foldl_append, List.foldl_cons, List.foldl_nil,
      State.rd_wr]
    split
    · have : i = n := by simp only [SEC.X_D] at *; omega
      rw [this]
    · exact ih (by have : i ≠ n := fun e => by subst e; contradiction
                   omega)

theorem Tests.withR_sec (ws : List (Nat × Nat)) (s : State) : (withR ws s).sec = s.sec := by
  induction ws generalizing s with
  | nil => rfl
  | cons w ws ih => exact (ih (s.wr w.1 w.2)).trans rfl

theorem Tests.token_bytes (b : List Byte) (h : b.length = 32) : (token b).xBytes 0 8 = b := by
  have e (i : Nat) (hi : i < 8) : (token b).rd (SEC.X_D (0 + i)) = ofLe (sliceD 0 b (4 * i) 4) := by
    have hl := ofLe_lt (sliceD 0 b (4 * i) 4)
    simp only [sliceD_length] at hl
    rw [Nat.zero_add, token, rd_withR _ 8 i hi, Nat.mod_eq_of_lt (by omega)]
  rw [State.xBytes, List.map_congr_left fun i hi => e i (by simpa using hi)]
  exact wordBytes_slices b 8 h

/-- The token of R711 stands in X_D, or other bytes do. -/
theorem test_rma_witness : let t := (secd []).rmaToken 5
    (token t).xBytes 0 8 = (token t).rmaToken 5 ∧ (token t).sec.challenge = some 5 ∧
    ((token (List.replicate 32 0)).xBytes 0 8 ≠ (token (List.replicate 32 0)).rmaToken 5 ∨
      (token (List.replicate 32 1)).xBytes 0 8 ≠ (token (List.replicate 32 1)).rmaToken 5) := by
  have k (b : List Byte) : (token b).rmaToken 5 = (secd []).rmaToken 5 := by
    simp only [State.rmaToken, token, withR_sec]
    rfl
  refine ⟨by rw [k, token_bytes _ (by simp [State.rmaToken])], by rw [token, withR_sec]; rfl, ?_⟩
  rw [k, k, token_bytes _ (by simp), token_bytes _ (by simp)]
  by_contra h
  simp only [not_or, ne_eq, not_not] at h
  exact absurd (h.1.trans h.2.symm) (by decide)

/-! ## Resets, power, boot (chapter 17) -/

/-- A state with the module in a power state. -/
def Tests.power (p : Power) (s : State) : State := { s with sys := { s.sys with power := p } }

theorem test_resets_witness :
    let s := secd [(SYS.WDT_CFG_EN, 1)]
    let lc (op : LcOp) := s.onSec fun c => { c with lcRun := some ⟨op, 7⟩ }
    smapWf regDefault s.regs = true ∧ smapWf memDefault s.mem = true ∧ s.sec.keyRun = none ∧ s.sec.ens = none ∧ s.sys.nvs = none ∧
    s.sys.power = .run ∧ (power .lull s).sys.power = .lull ∧ (power .calm s).sys.power = .calm ∧ (power .held s).sys.power = .held ∧
    (power .lull s).awake = true ∧ s.flag SYS.WDT_CFG_EN = true ∧ s.wdFrozen = false ∧ State.reset.flag SYS.WDT_CFG_EN = false ∧
    (withF [(DBG.CTL_WDFREEZE, 1), (DBG.NSTATE_HALTED 0, 1)] s).wdFrozen = true ∧ s.regReach s0 = true ∧ s.platform s0 = true ∧
    s.sys.wdKick = .idle ∧ (post (.wdtKick s0 0x6B6B) s).sys.wdKick = .first ∧ (0x10000 + 0x6B6B) % 65536 = 0x6B6B ∧
    (power .held s).sys.porHeld = false ∧ (post (.por [8191]) s).sys.porHeld = true ∧ s.flag DBG.CTL_HALTRST = false ∧
    (withF [(DBG.CTL_HALTRST, 1)] s).flag DBG.CTL_HALTRST = true ∧ (lc .field).sec.lcRun = some ⟨.field, 7⟩ ∧ (lc .field).secBusy = false ∧
    LcOp.recorded .field = true ∧ LcOp.recorded .provision = true ∧ LcOp.recorded .rma = true ∧ LcOp.recorded .scrap = true ∧
    (post .pin (power .lull s)).sys.power = .held ∧ (post .resetRelease (post .pin s)).sys.power = .run := by decide +kernel

theorem test_power_witness :
    let s := secd []
    let ent := { s with sys := { s.sys with entering := true } }
    let nv := { s with sys := { s.sys with nvs := some ⟨.write, 0, 4096, 0x1003000000⟩ } }
    let bk := { s with sys := { s.sys with nvs := some ⟨.bkd 3, 0, 0, 0x1003000000⟩ } }
    let none_ (s : State) := { s with sys := { s.sys with nvs := none } }
    ent.sys.entering = true ∧ s.sys.entering = false ∧ s.flag CYC.CTL_EN = false ∧ (withF [(CYC.CTL_EN, 1)] s).flag CYC.CTL_EN = true ∧
    s.validTenants = [] ∧ 3 ∈ (withF [(CYC.TBIND_VALID 3, 1)] s).validTenants ∧ s.sys.wake = false ∧
    { ent.sys with wake := true }.wake = true ∧ s.sec.eng = none ∧ (withF [(SYS.WAKE_CFG_GPIO0, 3)] s).flag ⟨SYS.WAKE_CFG, 0, 1⟩ = true ∧
    (withF [(SYS.WAKE_CFG_GPIO0, 3)] s).flag ⟨SYS.WAKE_CFG, 1, 1⟩ = true ∧ s.flag ⟨SYS.WAKE_CFG, 0, 1⟩ = false ∧
    (withF [(SYS.WAKE_CFG_TIMER_EN, 1)] s).flag SYS.WAKE_CFG_TIMER_EN = true ∧ s.flag SYS.WAKE_CFG_TIMER_EN = false ∧
    nv.sys.nvs.isSome = true ∧ s.getF SUP.NVS_ADDR_ADDR % 4096 = 0 ∧ s.getF SUP.NVS_LEN_LEN % 4096 = 0 ∧
    (withR [(SUP.NVS_ADDR, 1)] s).getF SUP.NVS_ADDR_ADDR % 4096 ≠ 0 ∧ s.getF SUP.NVS_SRC_SRC % 8 = 0 ∧
    (withF [(SUP.NVS_SRC_SRC, 1)] s).getF SUP.NVS_SRC_SRC % 8 ≠ 0 ∧ (s.getF SUP.BOOTSVN_BKD_SET).testBit 3 = false ∧
    (secd [(SEC.LC_STATE, 1), (SUP.BOOTSVN_BKD_SET, 8)]).getF SUP.BOOTSVN_BKD_SET = 8 ∧
    ((none_ nv).nvsBytes ⟨.erase, 0, 4096, 0⟩).2.map (·.length) = some 4096 ∧ ((none_ bk).nvsBytes ⟨.bkd 3, 0, 0, 0x1003000000⟩).2.map (·.length) = some 48 ∧
    ((none_ bk).nvsBytes ⟨.bkd 3, 0, 0, 0x1006000000⟩).2 = none ∧ s.atBoot = true ∧ State.reset.atBoot = false ∧ s.sec.rmaZero = false ∧
    (secd [(SEC.LC_STATE, 4)]).getF SEC.LC_STATE = 4 ∧ s.readLe nvsBase 4 ≠ 0x53504E42 ∧ s.readLe (nvsBase + 0x4000000) 4 ≠ 0x53504E42 ∧
    s.sys.railOut = none ∧ { s.sys with railOut := some 1 }.railOut = some 1 := by decide +kernel

/-! ## The debug port (chapter 18) -/

theorem test_debug_witness :
    let s := mems
    let locked := secd []
    let chal := locked.onDbg fun d => { d with chal := some 9 }
    let sel (f : List (FieldRef × Nat)) := withF ((DBG.NSTATE_HALTED 67, 1) :: f) s
    s.sys.power ≠ .calm ∧ (power .calm s).sys.power = .calm ∧ s.tapLive = true ∧ (post .tapClamp s).sys.tap = .clamp ∧
    (post (.tapExtest (.update 4)) s).sys.tap = .extest ∧ s.sys.aonGood = true ∧ (post .tapHighz s).scanning = true ∧ s.dbg.run = none ∧
    (secd [(SEC.LC_STATE, 4)]).dbgLock = 3 ∧ locked.dbgLock = 1 ∧ s.dbgOpen = true ∧ 0x1005FFFFFD % 4 ≠ 0 ∧ 0x1005FFFFF8 % 8 = 0 ∧
    isSram 0x1005FFFFF8 = true ∧ isDram 0x3FFFFFFFC = true ∧ s.memReady 0x1005FFFFF8 = true ∧ s.validTenants = [] ∧
    locked.awake = true ∧ locked.dbg.holdoff = false ∧ (chal.onDbg fun d => { d with holdoff := true }).dbg.holdoff = true ∧
    chal.responseOk 0 = false ∧ s.halted 67 = false ∧ (sel []).halted 67 = true ∧ s.betweenPoints 63 = false ∧
    (cyc.onTenant 40 fun x => { x with held := [0], disp := some { disp0 with wait := some (4095, 0) } }).betweenPoints 63 = true ∧
    s.atBreakpoint 67 = false ∧ (withF [(DBG.BP_EN 67 0, 1), (DBG.BP_ADDR 67 0, 0x1002000000)] (sup3 .app)).atBreakpoint 67 = true ∧
    (sel []).flag (DBG.CREG_SEL_SPACE 67) = false ∧ (sel [(DBG.CREG_SEL_REG 67, 31)]).getF (DBG.CREG_SEL_REG 67) = 31 ∧
    ((post (.cregAccess s0 67 (some 5)) (sel [(DBG.CREG_SEL_REG 67, 31)])).supc 3).regs.getG 31 = 5 ∧ s.flag DBG.AUTH_SET = false ∧
    (withF [(DBG.AUTH_SET, 1)] s).flag DBG.AUTH_SET = true := by decide +kernel

/-- The response to challenge 9 under key slot 8191 is in order. -/
theorem test_unlock_witness : let s := withR [(DBG.AUTH, 2 ^ 31 + 8191)] ((keyed hkey []).onDbg fun d => { d with chal := some 9 })
    ∃ r : BitVec 256, s.responseOk r.toNat = true := by
  intro s
  have h : s.flag DBG.AUTH_SET = true ∧ s.getF DBG.AUTH_SLOT = 8191 ∧ s.keyUsable 8191 .supHmac = true := by decide +kernel
  have c : s.dbg.chal = some 9 := rfl
  let m := hmac256 ((s.keySlot 8191).bytes 32) (serialBytes ++ beBytes 32 9)
  have hm : ofBe m < 2 ^ 256 := by
    have := ofLe_lt m.reverse
    rw [show ofBe m = ofLe m.reverse from ofBe_eq m]
    simpa [m] using this
  exact ⟨BitVec.ofNat 256 (ofBe m), by
    simp only [State.responseOk, c, h.1, h.2.1, h.2.2, BitVec.toNat_ofNat, Nat.mod_eq_of_lt hm]
    simp [m]⟩

/-! ## Well-formed commands, the table's bits, the clock -/

theorem test_ill_formed_refused :
    Instr.wellFormed (.registerWrite .nvs 0x3000100000 false 0) = false ∧ Instr.wellFormed (.registerWrite s0 0x3000100002 false 0) = false ∧
    Instr.wellFormed (.registerWrite s0 0x3000100004 true 0) = false ∧ Instr.wellFormed (.registerWrite s0 0x3000100004 false 0) = true ∧
    Instr.wellFormed (.unmappedAccess .nvs 0x3000FFFFFC true) = false ∧ Instr.wellFormed (.unmappedAccess s0 0x3000FFFFFE true) = false ∧
    Instr.wellFormed (.lowWordReadLatch s0 4) = false ∧ Instr.wellFormed (.highWordRead s0 8) = false ∧
    Instr.wellFormed (.lowWordWriteHold s0 4 0) = false ∧ Instr.wellFormed (.highWordWriteCommit s0 0 0) = false ∧
    Instr.wellFormed (.halyardTickReceive ⟨0, 0⟩ 0 0 1000000000 0 0 0) = false ∧ Instr.wellFormed (.digestReceive ⟨0, 0⟩ 0 []) = false ∧
    Instr.wellFormed (.pageReceive ⟨0, 0⟩ 0 0 0 0 []) = false ∧ Instr.wellFormed (.insvcEnd 0 true 0) = false ∧
    Instr.wellFormed (.memRequest [burst (.read 0) []]) = false ∧ Instr.wellFormed (.memRequest [burst (.read 1) [1]]) = false ∧
    Instr.wellFormed (.memRequest [burst (.atomic []) []]) = false ∧ Instr.wellFormed (.tabSnap .nvs) = false ∧
    Instr.wellFormed (.evqPop .nvs) = false ∧ Instr.wellFormed (.tsqPop .nvs 0) = false ∧
    Instr.wellFormed (.coefDataAccess .nvs none) = false ∧ Instr.wellFormed (.eventPost .nvs 0) = false ∧
    Instr.wellFormed (.osqPop .nvs 0) = false ∧ Instr.wellFormed (.clogPop .nvs) = false ∧
    Instr.wellFormed (.cregAccess .nvs 0 none) = false := by decide +kernel

/-- The words of the example of spec/10_amihel_core.md (R484, R487), and words of the other formats. -/
theorem test_words :
    coreWord 3 0x044A0104#32 = .lih ⟨3, false, 0⟩ 1 5 false 0x0104 ∧ coreWord 3 0x050AA990#32 = .orh ⟨3, false, 0⟩ 0 5 false 0xA990 ∧
    coreWord 3 0x094C5000#32 = .load ⟨3, false, 0⟩ 5 6 5 0 ∧ coreWord 3 0x040E03E8#32 = .lih ⟨3, false, 0⟩ 0 7 false 1000 ∧
    coreWord 3 0x02826387#32 = .cmp ⟨3, false, 0⟩ 0 1 6 7 7 ∧ coreWord 3 0x96000005#32 = .b ⟨3, true, 1⟩ 5 ∧
    coreWord 3 0x0C10012D#32 = .gacq ⟨3, false, 0⟩ 8 0 301 ∧ coreWord 3 0x04520400#32 = .lih ⟨3, false, 0⟩ 1 9 false 0x0400 ∧
    coreWord 3 0x05120810#32 = .orh ⟨3, false, 0⟩ 0 9 false 0x0810 ∧ coreWord 3 0x0A8C9000#32 = .store ⟨3, false, 0⟩ 2 6 9 0 ∧
    coreWord 3 0x1C40012D#32 = .grel ⟨3, false, 1⟩ 0 0 301 := by decide +kernel

/-- OP 0x1A FN 1, OP 0x3C FN 0x0A, OP 0x0B, and words that spell nothing (R486, R496, R555). -/
theorem test_words_by_fn :
    coreWord 66 (0x06800000#32 + 0x3E0000#32 + 0x4000#32 + 1#32) = .jlr ⟨66, false, 0⟩ 31 4 0 ∧
    coreWord 66 (0x0F000000#32 + 0x9000#32 + 10#32) = .dcwbd ⟨66, false, 0⟩ 0 9 0 ∧
    coreWord 0 (0x02C00000#32 + 0x200000#32 + 0x60000#32 + 0x2000#32 + 0xA80#32) = .cmpi ⟨0, false, 0⟩ 2 3 2 10 0x80 ∧
    coreWord 0 (0x0EC00000#32 + 0x20000#32 + 0x1000#32 + 1#32) = .bq ⟨0, false, 0⟩ 1 1 0 ∧
    coreWord 0 0 = noInstr ⟨0, false, 0⟩ ∧ coreWord 0 0xFFFFFFFF#32 = noSysInstr ⟨0, true, 7⟩ ∧
    coreWord 0 (0x06800000#32 + 2#32) = noInstr ⟨0, false, 0⟩ := by decide +kernel

/-- The words of the worked example of chapter 11: PDFT, PMAG, PANG, VEXT, ST32, PUBV and YIELD (R516, R535). -/
theorem test_words_phasor :
    coreWord 5 0x0E42A580#32 = .pdft ⟨5, false, 0⟩ 1 10 11 ∧ coreWord 5 0x0E441003#32 = .pmag ⟨5, false, 0⟩ 2 1 0 ∧
    coreWord 5 0x0E581004#32 = .pang ⟨5, false, 0⟩ 12 1 0 ∧ coreWord 5 0x0E1A2000#32 = .vmov ⟨5, false, 0⟩ 13 2 0 0 ∧
    coreWord 5 0x0A9AE010#32 = .store ⟨5, false, 0⟩ 2 13 14 0x10 ∧ coreWord 5 0x0E80F000#32 = .pubv ⟨5, false, 0⟩ 0 15 0 ∧
    coreWord 5 0x0EC00000#32 = .yield ⟨5, false, 0⟩ 0 0 0 := by decide +kernel

/-- The words of WhatStandsBeforeAnInstruction: an unassigned OP, and OPs of the supervisory profile on both kinds of core. -/
theorem test_words_witness :
    (wordField 0x07C00000#32 22 6).val = 0x1F ∧ (wordField 0x0F400000#32 22 6).val = 0x3D ∧ (wordField 0x0FC00000#32 22 6).val = 0x3F ∧
    (issueOf (coreWord 63 0x0F400000#32)).isSome ∧ (issueOf (coreWord 67 0x0FC00000#32)).isSome := by decide +kernel

theorem test_no_table_bits : decodeTableWord 32 0xFFFFFFFF = none ∧ (State.reset.withFetchWord 32 5).pending = [] := by decide +kernel

theorem test_clock_witness : State.reset.awake = true ∧ State.reset.tab.tickDue = false ∧ 0 < State.reset.rd TAB.WS_FW ∧
    (State.reset.onTab fun t => { t with angle := 2 ^ 44 }).tab.tickDue = true := by decide +kernel

theorem test_idle_clock : (match step State.reset with
    | .next t => decide (State.reset.tab.tod < t.tab.tod) && t.pending.isEmpty
    | _ => false) = true := by decide +kernel

/-- An access of the wrong width or off its alignment is the sender's fault (R17). -/
theorem test_misaligned_faults : (match exec (.registerWrite s0 (TAB.CTL + 2) false 0) State.reset with
    | .fault (.brokenMust 17) => true
    | _ => false) = true := by decide +kernel

/-- A comparison with a NaN is false, beside an infinity too (R523). -/
theorem test_compare_nan :
    ([5, 6, 7].all fun f => !vfCompare f 0xFF800000 0x7FC00000 && !vfCompare f 0x7FC00000 0x7F800000) = true ∧
    vfCompare 6 0xFF800000 0x7F800000 = true ∧ vfCompare 7 0x7F800000 0x7F800000 = true := by decide +kernel

set_option Elab.async true

end Sys2Proof
end

section
/-! What a register holds after a write that only its field table governs (R24, R26, R27): the fields of every register of the
map lie inside the word and do not overlap, so the word a write leaves has in each field just what that field's access code
gives. -/

namespace Sys2Proof.Machine

/-! ## The layout of a field table -/

/-- The fields of a table lie inside a 64-bit word, and no two of them share a bit. The order in which they are listed does not
matter: PCX_PCPMAP and RDE_TST list theirs lowest first. -/
def fieldsLaid : List FieldDesc → Bool
  | [] => true
  | f :: fs => decide (f.hi < 64) && fs.all (fun g => decide (f.hi < g.lo ∨ g.hi < f.lo)) && fieldsLaid fs

theorem fieldsLaid_cons {f : FieldDesc} {fs : List FieldDesc} :
    fieldsLaid (f :: fs) = true ↔ f.hi < 64 ∧ (∀ g ∈ fs, f.hi < g.lo ∨ g.hi < f.lo) ∧ fieldsLaid fs = true := by
  simp [fieldsLaid, and_assoc]

theorem fieldsLaid_hi_lt {fs : List FieldDesc} (h : fieldsLaid fs = true) : ∀ f ∈ fs, f.hi < 64 := by
  induction fs with
  | nil => simp
  | cons g fs ih =>
    obtain ⟨hg, -, hfs⟩ := fieldsLaid_cons.1 h
    simpa [hg] using ih hfs

/-- A bit of the word belongs to one field at most. -/
theorem fieldsLaid_unique {fs : List FieldDesc} (h : fieldsLaid fs = true) {f g : FieldDesc} {i : Nat} (hf : f ∈ fs)
    (hg : g ∈ fs) (hfi : f.lo ≤ i ∧ i ≤ f.hi) (hgi : g.lo ≤ i ∧ i ≤ g.hi) : f = g := by
  induction fs with
  | nil => cases hf
  | cons k fs ih =>
    obtain ⟨-, hk, hfs⟩ := fieldsLaid_cons.1 h
    rcases List.mem_cons.1 hf with rfl | hf' <;> rcases List.mem_cons.1 hg with rfl | hg'
    · rfl
    · have := hk g hg'; omega
    · have := hk f hf'; omega
    · exact ih hfs hf' hg'

/-- Every register of the map lays its fields out this way (R52 and the field tables of the chapters). -/
theorem slotRegs_laid {k : Nat} {r : RegDesc} (h : r ∈ slotRegs k) : fieldsLaid r.fields = true := by
  have map : ∀ k < 14, ((slotRegs k).all fun r => fieldsLaid r.fields) = true := by decide +kernel
  by_cases hk : k < 14
  · exact List.all_eq_true.1 (map k hk) r h
  · obtain ⟨n, rfl⟩ := Nat.exists_eq_add_of_le' (not_lt.1 hk)
    cases h

theorem regIn_mem {rs : List RegDesc} {a : Nat} {r : RegDesc} {is : List Nat} (h : regIn rs a = some (r, is)) : r ∈ rs := by
  induction rs with
  | nil => cases h
  | cons q rs ih =>
    simp only [regIn] at h
    split at h
    · exact .tail _ (ih h)
    · split at h
      · cases h; exact .head _
      · exact .tail _ (ih h)

theorem regAt_laid {a : Nat} {r : RegDesc} {is : List Nat} (h : regAt a = some (r, is)) : fieldsLaid r.fields = true := by
  unfold regAt at h
  split at h
  · exact slotRegs_laid (regIn_mem h)
  · cases h

/-! ## What a field holds after a write, by its access code -/

section FieldAfter

variable {f : FieldDesc} (old v : Nat)

theorem bits_lt (v hi lo : Nat) : bits v hi lo < 2 ^ (hi + 1 - lo) := Nat.mod_lt _ (by positivity)

theorem fieldAfter_listed (hacc : f.acc = .rw ∨ f.acc = .rwl)
    (h : f.legal = [] ∨ ∃ p ∈ f.legal, p.1 ≤ bits v f.hi f.lo ∧ bits v f.hi f.lo ≤ p.2) :
    fieldAfter old v f = bits v f.hi f.lo := by
  have hl : (f.legal.isEmpty || f.legal.any fun r => decide (r.1 ≤ bits v f.hi f.lo ∧ bits v f.hi f.lo ≤ r.2)) = true := by
    simpa using h
  rcases hacc with e | e <;> simp only [fieldAfter, e] <;> exact if_pos hl

theorem fieldAfter_unlisted (hacc : f.acc = .rw ∨ f.acc = .rwl) (hne : f.legal ≠ [])
    (h : ∀ p ∈ f.legal, ¬ (p.1 ≤ bits v f.hi f.lo ∧ bits v f.hi f.lo ≤ p.2)) :
    fieldAfter old v f = bits old f.hi f.lo := by
  have hl : ¬ (f.legal.isEmpty || f.legal.any fun r => decide (r.1 ≤ bits v f.hi f.lo ∧ bits v f.hi f.lo ≤ r.2)) = true := by
    simpa [hne] using h
  rcases hacc with e | e <;> simp only [fieldAfter, e] <;> exact if_neg hl

theorem fieldAfter_ro (hacc : f.acc = .ro) : fieldAfter old v f = bits old f.hi f.lo := by
  simp [fieldAfter, hacc]

theorem fieldAfter_w1c (hacc : f.acc = .w1c) :
    fieldAfter old v f = bits old f.hi f.lo - (bits old f.hi f.lo &&& bits v f.hi f.lo) := by
  simp [fieldAfter, hacc]

theorem fieldAfter_w1s (hacc : f.acc = .w1s) : fieldAfter old v f = bits old f.hi f.lo ||| bits v f.hi f.lo := by
  simp [fieldAfter, hacc]

/-- Whatever a field's access code, what it holds after a write fits into its bits. -/
theorem fieldAfter_lt (f : FieldDesc) : fieldAfter old v f < 2 ^ (f.hi + 1 - f.lo) := by
  have ho := bits_lt old f.hi f.lo
  have hn := bits_lt v f.hi f.lo
  unfold fieldAfter
  cases f.acc with
  | rw | rwl => dsimp only; split <;> assumption
  | ro => exact ho
  | w1c => exact (Nat.sub_le _ _).trans_lt ho
  | w1s => exact Nat.or_lt_two_pow ho hn
  | wo => positivity

/-- A field put in its place touches no bit but its own. -/
theorem spans_of_testBit_fieldAfter {i : Nat} (h : (fieldAfter old v f * 2 ^ f.lo).testBit i = true) :
    f.lo ≤ i ∧ i ≤ f.hi := by
  rw [Nat.testBit_mul_two_pow, Bool.and_eq_true, decide_eq_true_eq] at h
  obtain ⟨hlo, hbit⟩ := h
  refine ⟨hlo, not_lt.1 fun hi => ?_⟩
  have hlt : fieldAfter old v f < 2 ^ (i - f.lo) :=
    (fieldAfter_lt old v f).trans_le (Nat.pow_le_pow_right (by decide) (by omega))
  simp [Nat.testBit_lt_two_pow hlt] at hbit

end FieldAfter

/-! ## The word that the fields make -/

/-- Words that share none of their low bits add without a carry there. -/
theorem testBit_add_of_apart {x y w i : Nat} (h : ∀ j < w, (x.testBit j && y.testBit j) = false) (hi : i < w) :
    (x + y).testBit i = (x.testBit i || y.testBit i) := by
  have hand : BitVec.ofNat w x &&& BitVec.ofNat w y = 0#w := by
    apply BitVec.eq_of_getLsbD_eq
    intro j hj
    simpa only [BitVec.getLsbD_and, BitVec.getLsbD_ofNat, hj, decide_true, Bool.true_and, Nat.zero_testBit] using h j hj
  have hor := congrArg (·.getLsbD i) (BitVec.add_eq_or_of_and_eq_zero _ _ hand)
  simpa only [← BitVec.ofNat_add, BitVec.getLsbD_or, BitVec.getLsbD_ofNat, hi, decide_true, Bool.true_and] using hor

/-- A bit of the word a write leaves is 1 exactly if one of the fields, in its place, sets it: nothing is carried from field to
field. -/
theorem testBit_fieldsAfter (old v : Nat) {fs : List FieldDesc} (h : fieldsLaid fs = true) {i : Nat} (hi : i < 64) :
    (fieldsAfter old v fs).testBit i = true ↔ ∃ f ∈ fs, (fieldAfter old v f * 2 ^ f.lo).testBit i = true := by
  induction fs generalizing i with
  | nil => simp [fieldsAfter]
  | cons f fs ih =>
    obtain ⟨-, hf, hfs⟩ := fieldsLaid_cons.1 h
    have apart : ∀ j < 64, ((fieldAfter old v f * 2 ^ f.lo).testBit j && (fieldsAfter old v fs).testBit j) = false := by
      intro j hj
      rw [Bool.eq_false_iff, ne_eq, Bool.and_eq_true, ih hfs hj]
      rintro ⟨hfj, g, hg, hgj⟩
      have := spans_of_testBit_fieldAfter old v hfj
      have := spans_of_testBit_fieldAfter old v hgj
      have := hf g hg
      omega
    rw [fieldsAfter, testBit_add_of_apart apart hi, Bool.or_eq_true, ih hfs hi, List.exists_mem_cons_iff]

/-- Each field of the word a write leaves holds what the field's access code gives. -/
theorem bits_fieldsAfter (old v : Nat) {fs : List FieldDesc} {f : FieldDesc} (h : fieldsLaid fs = true) (hf : f ∈ fs) :
    bits (fieldsAfter old v fs % 2 ^ 64) f.hi f.lo = fieldAfter old v f := by
  have h64 := fieldsLaid_hi_lt h f hf
  apply Nat.eq_of_testBit_eq
  intro i
  rw [bits, Nat.testBit_mod_two_pow, Nat.testBit_div_two_pow, Nat.testBit_mod_two_pow]
  by_cases hi : i < f.hi + 1 - f.lo
  · have placed : (fieldAfter old v f).testBit i = (fieldAfter old v f * 2 ^ f.lo).testBit (i + f.lo) := by
      simp [Nat.testBit_mul_two_pow]
    rw [placed, decide_eq_true hi, decide_eq_true (show i + f.lo < 64 by omega), Bool.true_and, Bool.true_and,
      Bool.eq_iff_iff, testBit_fieldsAfter old v h (by omega)]
    constructor
    · rintro ⟨g, hg, hgi⟩
      have hfg : f = g := fieldsLaid_unique h hf hg (by omega) (spans_of_testBit_fieldAfter old v hgi)
      exact hfg ▸ hgi
    · exact fun hfi => ⟨f, hf, hfi⟩
  · have hlt : fieldAfter old v f < 2 ^ i :=
      (fieldAfter_lt old v f).trans_le (Nat.pow_le_pow_right (by decide) (not_lt.1 hi))
    rw [decide_eq_false hi, Bool.false_and, Nat.testBit_lt_two_pow hlt]

/-! ## The register after the write -/

theorem State.rd_plainWrite_self (s : State) {a : Nat} (v : Nat) {r : RegDesc} {is : List Nat}
    (h : regAt a = some (r, is)) : (s.plainWrite a v).rd a = fieldsAfter (s.rd a) v r.fields % 2 ^ 64 := by
  simp [State.plainWrite, State.plain, h]

theorem State.rd_plainWrite_ne (s : State) {a b : Nat} (v : Nat) (h : b ≠ a) : (s.plainWrite a v).rd b = s.rd b :=
  s.rd_wr_ne _ h

/-- A plain write leaves in each field of the register what the field's access code gives, whatever the other fields hold. -/
theorem State.bits_plainWrite (s : State) {a : Nat} (v : Nat) {r : RegDesc} {is : List Nat} {f : FieldDesc}
    (h : regAt a = some (r, is)) (hf : f ∈ r.fields) :
    bits ((s.plainWrite a v).rd a) f.hi f.lo = fieldAfter (s.rd a) v f := by
  rw [s.rd_plainWrite_self v h, bits_fieldsAfter _ _ (regAt_laid h) hf]

/-- Settles O11: the fields of every register are disjoint and lie inside its word, so a write leaves in each what its access
code gives, and writes no other register. -/
theorem everyFieldFollowsItsAccessCode : Obligations.EveryFieldFollowsItsAccessCode := by
  intro s a v r is f hr hf
  simp only [s.bits_plainWrite v hr hf]
  exact ⟨fieldAfter_listed _ v, fieldAfter_unlisted _ v, fieldAfter_ro _ v, fieldAfter_w1c _ v, fieldAfter_w1s _ v,
    fun _ => s.rd_plainWrite_ne v⟩

end Sys2Proof.Machine
end

section
/-! What a command may touch: the registers and the parts of the state that an operation changes, and that chains and folds of
operations change no more than their links do. -/

namespace Sys2Proof

open Machine

/-- Between two states no register changes but those of which `q` holds, and no part but `ps`. -/
def Touches (q : Nat → Prop) (ps : List Part) (s t : State) : Prop := RegsBut q s t ∧ Only ps s t

variable {q : Nat → Prop} {ps : List Part} {s t u : State}

namespace Touches

theorem refl (q : Nat → Prop) (ps : List Part) (s : State) : Touches q ps s s :=
  ⟨fun _ _ => rfl, fun p _ => by cases p <;> rfl⟩

theorem trans (h : Touches q ps s t) (h' : Touches q ps t u) : Touches q ps s u :=
  ⟨fun a ha => (h'.1 a ha).trans (h.1 a ha), fun p hp => by
    have hst := h.2 p hp
    have htu := h'.2 p hp
    cases p <;> exact Eq.trans htu hst⟩

theorem mono {q' : Nat → Prop} {ps' : List Part} (h : Touches q ps s t) (hq : ∀ a, q a → q' a) (hps : ps ⊆ ps') :
    Touches q' ps' s t :=
  ⟨fun a ha => h.1 a fun hqa => ha (hq a hqa), fun p hp => h.2 p fun hpp => hp (hps hpp)⟩

theorem ite {c : Prop} [Decidable c] (h : Touches q ps s t) (h' : Touches q ps s u) :
    Touches q ps s (if c then t else u) := by
  split <;> assumption

/-- A fold touches no more than its operation does. -/
theorem foldl {α : Type} {f : State → α → State} {l : List α} (hf : ∀ t, ∀ a ∈ l, Touches q ps t (f t a))
    (s : State) : Touches q ps s (l.foldl f s) :=
  List.foldlRecOn l f (refl q ps s) fun _ ht a ha => ht.trans (hf _ a ha)

/-- A register out of reach reads as before. -/
theorem rd (h : Touches q ps s t) {a : Nat} (ha : ¬ q a) : t.rd a = s.rd a := congrArg BitVec.toNat (h.1 a ha)

/-- So does a one-bit field of it. -/
theorem flag (h : Touches q ps s t) {f : FieldRef} (hf : ¬ q f.addr) : t.flag f = s.flag f := by
  simp only [State.flag, State.getF, h.rd hf]

theorem tab (h : Touches q ps s t) (hps : .tab ∉ ps) : t.tab = s.tab := h.2 .tab hps

/-! ## The operations of the state -/

theorem wr {a : Nat} (ha : q a) (hps : .regs ∈ ps) (s : State) (v : Nat) : Touches q ps s (s.wr a v) := by
  refine ⟨fun b hb => ?_, fun p hp => ?_⟩
  · exact smapGet_set_ne s.regs _ fun e => hb (e ▸ ha)
  · cases p with
    | regs => exact absurd hps hp
    | _ => rfl

theorem raise {f : FieldRef} (hf : q f.addr) (hps : .regs ∈ ps) (s : State) : Touches q ps s (s.raise f) := wr hf hps s _

theorem bumpBy {a : Nat} (ha : q a) (hps : .regs ∈ ps) (s : State) (n : Nat) : Touches q ps s (s.bumpBy a n) := wr ha hps s _

theorem onTab (hps : .tab ∈ ps) (s : State) (f : TabState → TabState) : Touches q ps s (s.onTab f) := by
  refine ⟨fun _ _ => rfl, fun p hp => ?_⟩
  cases p with
  | tab => exact absurd hps hp
  | _ => rfl

theorem onSvc (hps : .svc ∈ ps) (s : State) (f : SvcState → SvcState) : Touches q ps s (s.onSvc f) := by
  refine ⟨fun _ _ => rfl, fun p hp => ?_⟩
  cases p with
  | svc => exact absurd hps hp
  | _ => rfl

theorem onPort (hps : .pcx ∈ ps) (s : State) (p : Nat) (f : PortState → PortState) : Touches q ps s (s.onPort p f) := by
  refine ⟨fun _ _ => rfl, fun p hp => ?_⟩
  cases p with
  | pcx => exact absurd hps hp
  | _ => rfl

theorem setPort64 (hps : .ports64 ∈ ps) (s : State) (who : Requester) (f : Port64 → Port64) :
    Touches q ps s (s.setPort64 who f) := by
  refine ⟨fun _ _ => rfl, fun p hp => ?_⟩
  cases p with
  | ports64 => exact absurd hps hp
  | _ => rfl

end Touches

end Sys2Proof
end

section
/-! Snapshots, loads and steps of TOD, and the event queue (R67 to R70, R85, R120). A load or step holds gate lists and moves the
time grids on behind it (R173, R377): neither reaches TAB. -/

namespace Sys2Proof.Machine

variable {s : State}

/-! ## What follows a load or step of TOD -/

/-- Holding the gate lists touches the lanes alone (R173). -/
theorem State.holdGcl_touches {q : Nat → Prop} {ps : List Part} (hps : .pcx ∈ ps) (s : State) (d : Int) :
    Touches q ps s (s.holdGcl d) :=
  Touches.foldl (fun t _ _ => Touches.onPort hps t _ _) s

@[simp] theorem State.holdGcl_tab (s : State) (d : Int) : (s.holdGcl d).tab = s.tab :=
  (s.holdGcl_touches (q := fun _ => False) (List.mem_singleton_self _) d).tab (by decide)

theorem not_inSlot_of_lt {n a : Nat} (h : a < regSpace + n * 0x100000) : ¬ inSlot n a := fun hin => absurd hin.1 (not_le.2 h)

theorem gtskip_inSlot {g : Nat} (hg : g < 16) : inSlot 5 (SVC.GTSKIP g) := by
  simp only [inSlot, regSpace, SVC.GTSKIP]
  omega

/-- A grid and the streams on it are changed inside SVC. -/
theorem State.onGrid_onStreams_touches {q : Nat → Prop} {ps : List Part} (hps : .svc ∈ ps) (s : State) (g : Nat)
    (f : Grid → Grid) (sts : List Nat) (k : Stream → Stream) :
    Touches q ps s (sts.foldl (fun s st => s.onStream st k) (s.onGrid g f)) :=
  (Touches.onSvc hps s _).trans (Touches.foldl (fun t _ _ => Touches.onSvc hps t _) _)

/-- Moving the time grids on touches SVC and its registers alone (R377). -/
theorem State.skipGrids_touches (s : State) (before : Int) : Touches (inSlot 5) [.regs, .svc] s (s.skipGrids before) := by
  refine Touches.foldl (fun t g hg => ?_) s
  have moved := t.onGrid_onStreams_touches (q := inSlot 5) (ps := [.regs, .svc]) (by decide) g
  have counted (u : State) (n : Nat) :
      Touches (inSlot 5) [.regs, .svc] u ((u.bumpBy (SVC.GTSKIP g) n).raise SVC.RS_FLAGS_TSKIP) :=
    (Touches.bumpBy (gtskip_inSlot (List.mem_range.1 hg)) (by decide) u n).trans
      (Touches.raise ⟨by decide, by decide⟩ (by decide) _)
  exact Touches.ite (Touches.refl _ _ t) (Touches.ite ((moved _ _ _).trans (counted _ _)) (moved _ _ _))

/-- What follows the operation that may load or step TOD touches SVC and its registers alone (R377). -/
theorem State.steps_touches (s : State) (f : State → State) : Touches (inSlot 5) [.regs, .svc] (f s) (s.steps f) :=
  Touches.ite (Touches.refl _ _ _) ((f s).skipGrids_touches _)

/-- So what may load or step TOD touches with it no more than it does itself, but SVC. -/
theorem State.steps_touches_of {q : Nat → Prop} {ps : List Part} {f : State → State} (hq : ∀ a, inSlot 5 a → q a)
    (hps : [.regs, .svc] ⊆ ps) (h : Touches q ps s (f s)) : Touches q ps s (s.steps f) :=
  h.trans ((s.steps_touches f).mono hq hps)

@[simp] theorem State.steps_tab (s : State) (f : State → State) : (s.steps f).tab = (f s).tab :=
  (s.steps_touches f).tab (by decide)

/-! ## Loads and steps -/

theorem natCast_nsUnit : (nsUnit : Int) = 2 ^ 48 := Nat.cast_pow 2 48

@[simp] theorem TabState.setTod_angle (t : TabState) (v : Int) : (t.setTod v).angle = t.angle := rfl

@[simp] theorem TabState.setTod_todValid (t : TabState) (v : Int) : (t.setTod v).todValid = t.todValid := rfl

theorem TabState.setTod_natCast (t : TabState) (n : Nat) : (t.setTod n).tod = n % todModulus := by
  simp only [TabState.setTod, ← Int.natCast_mod, Int.toNat_natCast]

theorem toSigned_toNat {w : Nat} (v : BitVec w) (hw : 0 < w) : toSigned w v.toNat = v.toInt := by
  have half : 2 ^ w = 2 * 2 ^ (w - 1) := by rw [← pow_succ', Nat.sub_add_cancel hw]
  have sign : v.toNat < 2 ^ (w - 1) ↔ 2 * v.toNat < 2 ^ w := by omega
  simp only [BitVec.toInt_eq_toNat_cond, toSigned, Nat.mod_eq_of_lt v.isLt, sign, Nat.cast_pow, Nat.cast_ofNat]

/-- What a load and a step of TOD have in common (R68, R69, R70, R173): TAB takes the new time, TS_STEP sets, and the gate lists
are held. -/
def State.retime (s : State) (f : TabState → TabState) : State :=
  let t := (s.onTab f).raise TAB.STATUS_TS_STEP
  t.holdGcl ((t.tab.ns : Int) - s.tab.ns)

@[simp] theorem State.retime_tab (s : State) (f : TabState → TabState) : (s.retime f).tab = f s.tab := State.holdGcl_tab _ _

/-- A load or step sets TS_STEP and touches, beside TAB and the lanes, no register but STATUS. -/
theorem State.retime_touches {q : Nat → Prop} {ps : List Part} (hq : q TAB.STATUS) (hps : [.regs, .tab, .pcx] ⊆ ps)
    (s : State) (f : TabState → TabState) : Touches q ps s (s.retime f) := by
  simp only [List.cons_subset, List.nil_subset, and_true] at hps
  obtain ⟨hregs, htab, hpcx⟩ := hps
  exact ((Touches.onTab htab s f).trans (Touches.raise hq hregs _)).trans (State.holdGcl_touches hpcx _ _)

theorem State.flag_retime (s : State) (f : TabState → TabState) : (s.retime f).flag TAB.STATUS_TS_STEP = true := by
  rw [State.retime, (State.holdGcl_touches (q := fun _ => False) (List.mem_singleton_self _) _ _).flag id]
  exact State.flag_raise_self _ (by decide) (by decide)

theorem State.todLoad_eq (s : State) : s.todLoad = s.retime fun t =>
    { t.setTod ((s.rd TAB.TODSET_SEC * 1000000000 + s.rd TAB.TODSET_NS) * nsUnit : Nat) with todValid := true } := rfl

theorem State.todStep_eq (s : State) (v : Nat) :
    s.todStep v = (s.wr TAB.STEP v).retime fun t => t.setTod (t.tod + toSigned 64 v * nsUnit) := rfl

theorem State.todLoad_tod (s : State) :
    s.todLoad.tab.tod = (s.rd TAB.TODSET_SEC * 1000000000 + s.rd TAB.TODSET_NS) * 2 ^ 48 % todModulus := by
  rw [s.todLoad_eq, State.retime_tab]
  exact s.tab.setTod_natCast _

theorem State.todLoad_todValid (s : State) : s.todLoad.tab.todValid = true := by
  rw [s.todLoad_eq, State.retime_tab]

theorem State.todLoad_angle (s : State) : s.todLoad.tab.angle = s.tab.angle := by
  rw [s.todLoad_eq, State.retime_tab, TabState.setTod_angle]

theorem State.todStep_tab (s : State) (v : DWord) :
    (s.todStep v.toNat).tab = s.tab.setTod (s.tab.tod + v.toInt * 2 ^ 48) := by
  rw [s.todStep_eq, State.retime_tab, toSigned_toNat v (by decide), natCast_nsUnit, State.wr_tab]

theorem State.rd_todStep_step (s : State) (v : DWord) : (s.todStep v.toNat).rd TAB.STEP = v.toNat := by
  have kept : TAB.STEP ≠ TAB.STATUS := by decide
  rw [s.todStep_eq, (State.retime_touches (q := (· = TAB.STATUS)) rfl (List.Subset.refl _) _ _).rd kept, s.rd_wr_self,
    Nat.mod_eq_of_lt v.isLt]

theorem State.steps_todLoad_touches (s : State) :
    Touches (fun a => a = TAB.STATUS ∨ inSlot 5 a) [.regs, .tab, .pcx, .svc] s (s.steps fun s => s.todLoad) :=
  State.steps_touches_of (fun _ => .inr) (by decide) (s.retime_touches (.inl rfl) (by decide) _)

theorem State.steps_todStep_touches (s : State) (v : Nat) :
    Touches (fun a => a = TAB.STATUS ∨ a = TAB.STEP ∨ inSlot 5 a) [.regs, .tab, .pcx, .svc] s
      (s.steps fun s => s.todStep v) :=
  State.steps_touches_of (fun _ h => .inr (.inr h)) (by decide)
    ((Touches.wr (.inr (.inl rfl)) (by decide) s v).trans (State.retime_touches (.inl rfl) (by decide) _ _))

/-! ## Snapshots and the event queue -/

theorem State.snap_tabSnap_self (s : State) (who : Requester) :
    (s.tabSnap who).snap who = ⟨s.tab.sec, s.tab.nsPart, s.tab.au⟩ := smapGet_set_self _ _ _

/-- A snapshot overwrites no other requester's (R67). -/
theorem State.snap_tabSnap_ne (s : State) {who w : Requester} (h : reqPort w ≠ reqPort who) :
    (s.tabSnap who).snap w = s.snap w := smapGet_set_ne _ _ h

theorem State.port64_setPort64_self (s : State) (who : Requester) (f : Port64 → Port64) :
    (s.setPort64 who f).port64 who = f (s.port64 who) := smapGet_upd_self _ _ _

theorem State.port64_setPort64_ne (s : State) {who w : Requester} (f : Port64 → Port64) (h : reqPort w ≠ reqPort who) :
    (s.setPort64 who f).port64 w = s.port64 w := smapGet_upd_ne _ _ h

/-- A write discards its own requester's holding and no other's (R22). -/
theorem State.port64_unhold_ne (s : State) {who w : Requester} (h : reqPort w ≠ reqPort who) :
    (s.unhold who).port64 w = s.port64 w := s.port64_setPort64_ne _ h

theorem State.hold_unhold_self (s : State) (who : Requester) : ((s.unhold who).port64 who).hold = none :=
  congrArg Port64.hold (s.port64_setPort64_self who _)

theorem State.evqPop_cons {who : Requester} {r : PtpRecord} {rs : List PtpRecord} (h : s.tab.evq = r :: rs) :
    s.evqPop who = (s.onTab fun t => { t with evq := rs }).respond who (.data r.ns) := by
  simp only [State.evqPop, h]

/-! ## The commands, while the module runs -/

theorem State.act_awake (h : s.awake = true) (f : State → State) : s.act f = .next (f s) := by
  rw [State.act, if_pos h]

theorem State.actFrom_reach {who : Requester} (h : s.awake = true) (hr : s.regReach who = true) (f : State → State) :
    s.actFrom who f = .next (f s) := by
  simp only [State.actFrom, State.act_awake h, State.regFrom, hr, if_true]

theorem State.actWrite_reach {who : Requester} (h : s.awake = true) (hr : s.regReach who = true) (f : State → State) :
    s.actWrite who f = .next (f (s.unhold who)) := State.actFrom_reach h hr _

theorem exec_tabSnap {who : Requester} (h : s.awake = true) (hr : s.regReach who = true) :
    exec (.tabSnap who) s = .next ((s.unhold who).tabSnap who) := State.actWrite_reach h hr _

theorem exec_todLoad (h : s.awake = true) : exec .todLoad s = .next (s.steps fun s => s.todLoad) :=
  State.act_awake h fun s => s.steps _

theorem exec_todStep (h : s.awake = true) (v : DWord) :
    exec (.todStep v) s = .next (s.steps fun s => s.todStep v.toNat) :=
  State.act_awake h fun s => s.steps _

theorem exec_evqFlush (h : s.awake = true) : exec .evqFlush s = .next s.evqFlush := State.act_awake h _

theorem exec_evqPop {who : Requester} (h : s.awake = true) (hr : s.regReach who = true) :
    exec (.evqPop who) s = .next (s.evqPop who) := State.actFrom_reach h hr _

/-- Settles O4: each command changes its own requester's registers or TAB, and what follows a load or step of TOD, the hold of
the gate lists and the move of the time grids, reaches neither TAB nor STATUS. -/
theorem snapshotsLoadsAndStepsOfTod : Obligations.SnapshotsLoadsAndStepsOfTod := by
  intro s hs
  refine ⟨fun who hr => ⟨_, exec_tabSnap hs hr, ?snap⟩, ⟨_, exec_todLoad hs, ?load⟩, fun v => ⟨_, exec_todStep hs v, ?step⟩,
    ⟨_, exec_evqFlush hs, ?flush⟩, fun who r rs hr hq => ⟨_, exec_evqPop hs hr, ?pop⟩⟩
  case snap =>
    have touched : Touches (fun _ => False) [.tab, .ports64] s ((s.unhold who).tabSnap who) :=
      (Touches.setPort64 (by decide) s who _).trans (Touches.onTab (by decide) _ _)
    exact ⟨State.snap_tabSnap_self _ who, fun w => State.snap_tabSnap_ne _, rfl, rfl, s.hold_unhold_self who,
      fun w hw => s.port64_unhold_ne hw, touched.2⟩
  case load =>
    beta_reduce
    rw [State.steps_tab, (s.steps_touches _).flag (not_inSlot_of_lt (by decide))]
    exact ⟨s.todLoad_tod, s.todLoad_todValid, s.flag_retime _, s.todLoad_angle, s.steps_todLoad_touches⟩
  case step =>
    beta_reduce
    rw [State.steps_tab, State.todStep_tab, (s.steps_touches _).flag (not_inSlot_of_lt (by decide)),
      (s.steps_touches _).rd (not_inSlot_of_lt (by decide))]
    exact ⟨rfl, s.tab.setTod_todValid _, s.rd_todStep_step v, State.flag_retime _ _, s.tab.setTod_angle _,
      s.steps_todStep_touches _⟩
  case flush => exact ⟨rfl, rfl, rfl, (Touches.onTab (q := fun _ => False) (by decide) s _).2⟩
  case pop =>
    rw [State.evqPop_cons hq]
    have touched : Touches (fun _ => False) [.tab, .ports64] s
        ((s.onTab fun t => { t with evq := rs }).respond who (.data r.ns)) :=
      (Touches.onTab (by decide) s _).trans (Touches.setPort64 (by decide) _ _ _)
    exact ⟨rfl, rfl, congrArg Port64.resp (State.port64_setPort64_self _ who _), touched.2⟩

end Sys2Proof.Machine
end

section
/-! The integer tables (R488 to R492, R503). The model computes on numbers; each of its functions on the number of a word is
the number of the same operation on the word, and the tables follow entry by entry. -/

namespace Sys2Proof.Machine

/-! ## Numbers as words -/

theorem lowBits_eq_toNat (w v : Nat) : lowBits w v = (BitVec.ofNat w v).toNat := rfl

@[simp] theorem lowBits_toNat {w : Nat} (v : BitVec w) : lowBits w v.toNat = v.toNat := Nat.mod_eq_of_lt v.isLt

theorem lowBits_toNat_setWidth {w : Nat} (n : Nat) (v : BitVec w) : lowBits n v.toNat = (v.setWidth n).toNat :=
  (BitVec.toNat_setWidth n v).symm

theorem lowBits_of_lt {n w : Nat} (h : n < w) : lowBits w n = n := Nat.mod_eq_of_lt (h.trans Nat.lt_two_pow_self)

theorem ofSigned_eq_toNat (w : Nat) (i : Int) : ofSigned w i = (BitVec.ofInt w i).toNat := by
  rw [BitVec.toNat_ofInt, ofSigned, Nat.cast_pow, Nat.cast_ofNat]

@[simp] theorem ofSigned_toInt {w : Nat} (v : BitVec w) : ofSigned w v.toInt = v.toNat := by
  rw [ofSigned_eq_toNat, BitVec.ofInt_toInt]

/-- A result enters its register sign-extended (R488). -/
theorem toReg_toNat {w : Nat} (hw : 0 < w) (v : BitVec w) : toReg w v.toNat = (v.signExtend 64).toNat := by
  rw [toReg, toSigned_toNat v hw]
  split
  case isTrue h => subst h; rw [BitVec.signExtend_eq, Nat.mod_eq_of_lt v.isLt]
  case isFalse => exact ofSigned_eq_toNat 64 v.toInt

/-! ## Arithmetic and order -/

section Words
variable {w : Nat} (a b : BitVec w)

theorem ofSigned_toNat_sub : ofSigned w ((a.toNat : Int) - b.toNat) = (a - b).toNat := by
  rw [ofSigned_eq_toNat, Int.sub_eq_add_neg, BitVec.ofInt_add, BitVec.ofInt_neg, BitVec.ofInt_natCast, BitVec.ofInt_natCast,
    BitVec.ofNat_toNat, BitVec.ofNat_toNat, BitVec.setWidth_eq, BitVec.setWidth_eq, BitVec.sub_eq_add_neg]

/-- `a AND NOT b` takes from `a` the bits that `b` has too. -/
theorem toNat_sub_and : a.toNat - (a.toNat &&& b.toNat) = (a &&& ~~~b).toNat := by
  have apart : (a &&& ~~~b) &&& (a &&& b) = 0#w := by ext i hi; grind
  have parts : (a &&& ~~~b) + (a &&& b) = a := by
    rw [BitVec.add_eq_or_of_and_eq_zero _ _ apart, ← BitVec.and_or_distrib_left]; simp
  have sum := BitVec.toNat_add_of_and_eq_zero apart
  rw [parts, BitVec.toNat_and (x := a) (y := b)] at sum
  omega

theorem ofSigned_min_toInt : ofSigned w (min a.toInt b.toInt) = (if a.sle b then a else b).toNat := by
  simp only [min_def, BitVec.sle_iff_toInt_le, apply_ite (ofSigned w), apply_ite BitVec.toNat, ofSigned_toInt]

theorem ofSigned_max_toInt : ofSigned w (max a.toInt b.toInt) = (if a.sle b then b else a).toNat := by
  simp only [max_def, BitVec.sle_iff_toInt_le, apply_ite (ofSigned w), apply_ite BitVec.toNat, ofSigned_toInt]

theorem ofSigned_clampSigned (i : Int) :
    ofSigned w (clampSigned w i) = (BitVec.ofInt w (max (-2 ^ (w - 1)) (min (2 ^ (w - 1) - 1) i))).toNat := by
  rw [clampSigned, min_comm, ofSigned_eq_toNat]

theorem ofSigned_natAbs_toInt : ofSigned w a.toInt.natAbs = (if a.msb then -a else a).toNat := by
  rw [BitVec.msb_eq_toInt]
  by_cases h : a.toInt < 0
  case pos => rw [Int.ofNat_natAbs_of_nonpos h.le, ofSigned_eq_toNat, BitVec.ofInt_neg, BitVec.ofInt_toInt]; simp [h]
  case neg => rw [Int.natAbs_of_nonneg (not_lt.1 h), ofSigned_toInt]; simp [h]

/-! ## Shifts -/

theorem shiftLeft_toNat (n : Nat) : shiftLeft w a.toNat n = (a <<< n).toNat := by
  rw [shiftLeft, BitVec.toNat_shiftLeft, Nat.shiftLeft_eq]

theorem toNat_div_two_pow (n : Nat) : a.toNat / 2 ^ n = (a >>> n).toNat := by
  rw [BitVec.toNat_ushiftRight, Nat.shiftRight_eq_div_pow]

theorem shiftSar_toNat (hw : 0 < w) (n : Nat) : shiftSar w a.toNat n = (a.sshiftRight n).toNat := by
  rw [shiftSar, toSigned_toNat a hw, sarInt, Int.fdiv_eq_ediv_of_nonneg _ (by positivity), ofSigned_eq_toNat,
    BitVec.sshiftRight, Int.shiftRight_eq_div_pow, Nat.cast_pow, Nat.cast_ofNat]

/-- The bits that leave on the right and those that come in on the left do not meet. -/
theorem rotateRight_toNat {n : Nat} (hn : n < w) : rotateRight w a.toNat n = (a.rotateRight n).toNat := by
  have split_pow : 2 ^ w = 2 ^ n * 2 ^ (w - n) := by rw [← pow_add, Nat.add_sub_cancel' hn.le]
  have right : a.toNat / 2 ^ n < 2 ^ (w - n) := Nat.div_lt_of_lt_mul (split_pow ▸ a.isLt)
  have left : a.toNat * 2 ^ (w - n) % 2 ^ w = (a.toNat % 2 ^ n) * 2 ^ (w - n) := by rw [split_pow, Nat.mul_mod_mul_right]
  have apart : a.toNat / 2 ^ n + a.toNat * 2 ^ (w - n) % 2 ^ w = (a.rotateRight n).toNat := by
    rw [BitVec.toNat_rotateRight, Nat.mod_eq_of_lt hn, Nat.shiftLeft_eq, Nat.shiftRight_eq_div_pow, left, Nat.add_comm,
      Nat.or_comm, ← Nat.shiftLeft_eq, Nat.shiftLeft_add_eq_or_of_lt right]
  rw [rotateRight, ← Nat.add_mod_mod, apart, Nat.mod_eq_of_lt (a.rotateRight n).isLt]

/-! ## Division (R492) -/

theorem toNat_neg_one : (-1 : BitVec w).toNat = 2 ^ w - 1 := by
  rw [show (-1 : BitVec w) = BitVec.allOnes w from BitVec.neg_one_eq_allOnes, BitVec.toNat_allOnes]

theorem toNat_eq_zero_iff : b.toNat = 0 ↔ b = 0 := BitVec.toNat_inj (y := 0)

theorem divUnsigned_toNat : divUnsigned w a.toNat b.toNat = (if b = 0 then -1 else a / b).toNat := by
  simp only [divUnsigned, toNat_eq_zero_iff, apply_ite BitVec.toNat, toNat_neg_one, BitVec.toNat_udiv]

theorem remUnsigned_toNat : remUnsigned a.toNat b.toNat = (if b = 0 then a else a % b).toNat := by
  simp only [remUnsigned, toNat_eq_zero_iff, apply_ite BitVec.toNat, BitVec.toNat_umod]

theorem ofInt_tdiv_toInt : BitVec.ofInt w (a.toInt.tdiv b.toInt) = a.sdiv b := by
  rw [← BitVec.toInt_inj, BitVec.toInt_ofInt, BitVec.toInt_sdiv]

theorem divSigned_toNat (hw : 0 < w) : divSigned w a.toNat b.toNat = (if b = 0 then -1 else a.sdiv b).toNat := by
  simp only [divSigned, toNat_eq_zero_iff, apply_ite BitVec.toNat, toNat_neg_one, toSigned_toNat _ hw, ofSigned_eq_toNat,
    ofInt_tdiv_toInt]

theorem remSigned_toNat (hw : 0 < w) : remSigned w a.toNat b.toNat = (if b = 0 then a else a.srem b).toNat := by
  simp only [remSigned, toNat_eq_zero_iff, apply_ite BitVec.toNat, toSigned_toNat _ hw, ← BitVec.toInt_srem, ofSigned_toInt]

/-! ## Bits and bytes counted and turned -/

theorem clz_zero : clz w 0 = w := rfl

/-- Below the leading zeros stands the highest bit that is set. -/
theorem clz_bounds (ha : a ≠ 0) :
    clz w a.toNat < w ∧ 2 ^ (w - 1 - clz w a.toNat) ≤ a.toNat ∧ a.toNat < 2 ^ (w - clz w a.toNat) := by
  have ha : a.toNat ≠ 0 := mt (toNat_eq_zero_iff a).1 ha
  have top : a.toNat.log2 < w := (Nat.log2_lt ha).2 a.isLt
  have high : w - 1 - (w - 1 - a.toNat.log2) = a.toNat.log2 := by omega
  have past : w - (w - 1 - a.toNat.log2) = a.toNat.log2 + 1 := by omega
  rw [clz, if_neg ha, high, past]
  exact ⟨by omega, Nat.log2_self_le ha, Nat.lt_log2_self⟩

theorem ctz_zero : ctz w 0 = w := by
  rw [ctz, List.find?_eq_none.2 (by simp [bit]), Option.getD_none]

/-- The trailing zeros end at the lowest bit that is set. -/
theorem ctz_lowest (ha : a ≠ 0) : a.toNat % 2 ^ ctz w a.toNat = 0 ∧ a.toNat.testBit (ctz w a.toNat) = true := by
  cases h : (List.range w).find? fun i => bit a.toNat i with
  | none =>
    refine absurd ((toNat_eq_zero_iff a).1 (Nat.zero_of_testBit_eq_false fun i => ?_)) ha
    rcases lt_or_ge i w with hi | hi
    · simpa [bit] using List.find?_eq_none.1 h i (List.mem_range.2 hi)
    · rw [BitVec.testBit_toNat, a.getLsbD_of_ge i hi]
  | some z =>
    obtain ⟨hz, -, below⟩ := List.find?_range_eq_some.1 h
    rw [ctz, h, Option.getD_some]
    refine ⟨Nat.zero_of_testBit_eq_false fun i => ?_, hz⟩
    rw [Nat.testBit_mod_two_pow]
    rcases lt_or_ge i z with hi | hi
    · simpa [bit, hi] using below i hi
    · simp [hi]

end Words

theorem popc_eq_countP (w v : Nat) : popc w v = (List.range w).countP fun i => v.testBit i :=
  List.countP_eq_length_filter.symm

theorem getElem_leBytes (n v k : Nat) (h : k < (leBytes n v).length) : (leBytes n v)[k] = BitVec.ofNat 8 (v / 256 ^ k) := by
  induction n generalizing v k with
  | zero => simp at h
  | succ n ih =>
    cases k with
    | zero => simp [leBytes]
    | succ k => simp only [leBytes, List.getElem_cons_succ, ih, Nat.div_div_eq_div_mul, pow_succ']

theorem ofLe_div_mod (b : List Byte) (k : Nat) (h : k < b.length) : ofLe b / 256 ^ k % 256 = b[k].toNat := by
  have byte := getElem_leBytes b.length (ofLe b) k (by simpa)
  simp only [leBytes_ofLe] at byte
  rw [byte, BitVec.toNat_ofNat]

theorem bits_byte (v k : Nat) : bits v (8 * k + 7) (8 * k) = v / 256 ^ k % 256 := by
  rw [bits, pow_mul, show 8 * k + 7 + 1 - 8 * k = 8 by omega]; rfl

/-- Byte `k` of a number turned around is byte `k` from its other end. -/
theorem bits_ofLe_reverse_leBytes {n k : Nat} (v : Nat) (h : k < n) :
    bits (ofLe (leBytes n v).reverse) (8 * k + 7) (8 * k) = bits v (8 * n - 8 * k - 1) (8 * n - 8 * k - 8) := by
  have last : 8 * n - 8 * k - 1 = 8 * (n - 1 - k) + 7 := by omega
  have first : 8 * n - 8 * k - 8 = 8 * (n - 1 - k) := by omega
  rw [last, first, bits_byte, bits_byte, ofLe_div_mod _ k (by simpa), List.getElem_reverse, getElem_leBytes, leBytes_length,
    BitVec.toNat_ofNat]

/-! ## The ALU's entries that the shift instruction shares (R488, R490) -/

section Shifts
variable {w : Nat} (a : BitVec w) (b rb : Nat)

theorem aluOp_sll : aluOp w 6 a.toNat b rb = some (a <<< (lowBits w b % w)).toNat := by
  simp only [aluOp, lowBits_toNat, shiftLeft_toNat]

theorem aluOp_srl : aluOp w 7 a.toNat b rb = some (a >>> (lowBits w b % w)).toNat := by
  simp only [aluOp, lowBits_toNat, toNat_div_two_pow]

theorem aluOp_sra (hw : 0 < w) : aluOp w 8 a.toNat b rb = some (a.sshiftRight (lowBits w b % w)).toNat := by
  simp only [aluOp, lowBits_toNat, shiftSar_toNat a hw]

theorem aluOp_ror (hw : 0 < w) : aluOp w 9 a.toNat b rb = some (a.rotateRight (lowBits w b % w)).toNat := by
  simp only [aluOp, lowBits_toNat, rotateRight_toNat a (Nat.mod_lt _ hw)]

end Shifts

/-- The ALU reads the low bits of its operand alone. -/
theorem aluOp_lowBits (w fn a b rb : Nat) : aluOp w fn (lowBits w a) b rb = aluOp w fn a b rb := by
  simp only [aluOp, lowBits, Nat.mod_mod]

/-- SHI is the ALU's shift of its kind, at its width (R490). -/
theorem shiOp_eq_aluOp {w c k n : Nat} (a : Nat) (hw : w = 64 ∧ c = 0 ∨ w = 32 ∧ c = 1) (hk : k < 4) (hn : n < w) :
    shiOp (256 * c + 64 * k + n) a = (aluOp w (6 + k) a n 0).map (toReg w) := by
  have reserved : bits (256 * c + 64 * k + n) 11 9 = 0 := by simp only [bits]; omega
  have width : bit (256 * c + 64 * k + n) 8 = decide (c = 1) := by
    simp only [bit, Nat.testBit_eq_decide_div_mod_eq, decide_eq_decide]; omega
  have large : bit (256 * c + 64 * k + n) 5 = decide (32 ≤ n) := by
    simp only [bit, Nat.testBit_eq_decide_div_mod_eq, decide_eq_decide]; omega
  have kind : bits (256 * c + 64 * k + n) 7 6 = k := by simp only [bits]; omega
  have amount : bits (256 * c + 64 * k + n) 5 0 = n := by simp only [bits]; omega
  have less : lowBits w n % w = n := by rw [lowBits_of_lt hn, Nat.mod_eq_of_lt hn]
  simp only [shiOp, reserved, width, large, kind, amount]
  rcases hw with ⟨rfl, rfl⟩ | ⟨rfl, rfl⟩ <;> interval_cases k <;> simp [aluOp, less, hn]

theorem shiOp_results {w c n : Nat} (a : BitVec 64) (hw : w = 64 ∧ c = 0 ∨ w = 32 ∧ c = 1) (hn : n < w) :
    shiOp (256 * c + n) a.toNat = some ((a.setWidth w <<< n).signExtend 64).toNat ∧
    shiOp (256 * c + 64 + n) a.toNat = some ((a.setWidth w >>> n).signExtend 64).toNat ∧
    shiOp (256 * c + 128 + n) a.toNat = some (((a.setWidth w).sshiftRight n).signExtend 64).toNat ∧
    shiOp (256 * c + 192 + n) a.toNat = some (((a.setWidth w).rotateRight n).signExtend 64).toNat := by
  have pos : 0 < w := by omega
  have less : lowBits w n % w = n := by rw [lowBits_of_lt hn, Nat.mod_eq_of_lt hn]
  have shift {k : Nat} (hk : k < 4) (v : BitVec w) (h : aluOp w (6 + k) (a.setWidth w).toNat n 0 = some v.toNat) :
      shiOp (256 * c + 64 * k + n) a.toNat = some (v.signExtend 64).toNat := by
    rw [shiOp_eq_aluOp _ hw hk hn, ← aluOp_lowBits, lowBits_toNat_setWidth, h, Option.map_some, toReg_toNat pos]
  refine ⟨shift (k := 0) (by decide) _ ?_, shift (k := 1) (by decide) _ ?_, shift (k := 2) (by decide) _ ?_,
    shift (k := 3) (by decide) _ ?_⟩
  · rw [aluOp_sll, less]
  · rw [aluOp_srl, less]
  · rw [aluOp_sra _ _ _ pos, less]
  · rw [aluOp_ror _ _ _ pos, less]

theorem shiOp_narrow_none {n : Nat} (a : Nat) (hn : 32 ≤ n) (hn' : n < 64) : shiOp (256 + n) a = none := by
  have narrow : bit (256 + n) 8 = true := by simp only [bit, Nat.testBit_eq_decide_div_mod_eq, decide_eq_true_iff]; omega
  have large : bit (256 + n) 5 = true := by simp only [bit, Nat.testBit_eq_decide_div_mod_eq, decide_eq_true_iff]; omega
  exact if_pos (.inr ⟨by simp [narrow], large⟩)

theorem shiOp_reserved_none {k : Nat} (a : Nat) (hk : 512 ≤ k) (hk' : k < 4096) : shiOp k a = none :=
  if_pos (.inl (by simp only [bits]; omega))

/-! ## What no table lists -/

theorem aluOp_unlisted {fn : Nat} (w a b rb : Nat) (h : 0x14 < fn) : aluOp w fn a b rb = none := by
  obtain ⟨k, rfl⟩ := Nat.exists_eq_add_of_lt h
  rw [show 0x14 + k + 1 = k + 0x15 by omega]
  rfl

theorem atomOp_unlisted {op : Nat} (w old rb rd : Nat) (h : 10 ≤ op) : atomOp w op old rb rd = none := by
  obtain ⟨k, rfl⟩ := Nat.exists_eq_add_of_le' h
  rfl

/-- Settles O38: entry by entry, the model's function on the numbers of the operands is the number of the operation on the
words; SHI goes through the ALU's shifts, the W forms of MULDIV through the low halves of their operands. -/
theorem integerTablesComputeAsListed : Obligations.IntegerTablesComputeAsListed := by
  have pos32 : 0 < 32 := by decide
  have pos64 : 0 < 64 := by decide
  refine ⟨fun w rb a b hw => ?alu, fun n a hn => ?shi, fun a b => ?muldiv, fun w rd rb o hw => ?atom⟩
  case alu =>
    have pos : 0 < w := by omega
    have bytewise : 8 ∣ w := by omega
    refine ⟨?add, ?sub, ?and, ?or, ?xor, ?andn, ?sll, ?srl, ?sra, ?ror, ?min, ?max, ?minu, ?maxu, ?adds, ?subs,
      ⟨clz w a.toNat, ?clz, fun h => h ▸ clz_zero, clz_bounds a⟩,
      ⟨ctz w a.toNat, ?ctz, fun h => h ▸ ctz_zero, ctz_lowest a⟩, ?popc,
      ⟨ofLe (leBytes (w / 8) a.toNat).reverse, ?rev8, ?below, fun k hk => ?bytes⟩, ?abs, fun h => ?rb,
      fun fn => aluOp_unlisted w _ _ rb⟩
    case add => simp only [aluOp, lowBits_toNat, BitVec.toNat_add]
    case sub => simp only [aluOp, lowBits_toNat, ofSigned_toNat_sub]
    case and => simp only [aluOp, lowBits_toNat, BitVec.toNat_and]
    case or => simp only [aluOp, lowBits_toNat, BitVec.toNat_or]
    case xor => simp only [aluOp, lowBits_toNat, BitVec.toNat_xor]
    case andn => simp only [aluOp, lowBits_toNat, toNat_sub_and]
    case sll => rw [aluOp_sll, lowBits_toNat]
    case srl => rw [aluOp_srl, lowBits_toNat]
    case sra => rw [aluOp_sra _ _ _ pos, lowBits_toNat]
    case ror => rw [aluOp_ror _ _ _ pos, lowBits_toNat]
    case min => simp only [aluOp, lowBits_toNat, toSigned_toNat _ pos, ofSigned_min_toInt]
    case max => simp only [aluOp, lowBits_toNat, toSigned_toNat _ pos, ofSigned_max_toInt]
    case minu | maxu => simp only [aluOp, lowBits_toNat]
    case adds | subs => simp only [aluOp, lowBits_toNat, toSigned_toNat _ pos, ofSigned_clampSigned]
    case clz | ctz | rev8 => simp only [aluOp, lowBits_toNat, if_true]
    case popc => simp only [aluOp, lowBits_toNat, popc_eq_countP, if_true]
    case below =>
      have bound := ofLe_lt (leBytes (w / 8) a.toNat).reverse
      rw [List.length_reverse, leBytes_length] at bound
      exact bound.trans_eq (by rw [show 256 = 2 ^ 8 from rfl, ← pow_mul, Nat.mul_div_cancel' bytewise])
    case bytes => rw [bits_ofLe_reverse_leBytes _ hk, Nat.mul_div_cancel' bytewise]
    case abs => simp only [aluOp, lowBits_toNat, toSigned_toNat _ pos, ofSigned_natAbs_toInt, if_true]
    case rb => simp only [aluOp, if_neg h, and_self]
  case shi =>
    have wide := shiOp_results a (.inl ⟨rfl, rfl⟩) hn
    simp only [BitVec.setWidth_eq, BitVec.signExtend_eq, Nat.mul_zero, Nat.zero_add] at wide
    obtain ⟨sll, srl, sra, ror⟩ := wide
    exact ⟨sll, srl, sra, ror, shiOp_results a (.inr ⟨rfl, rfl⟩), fun h => shiOp_narrow_none _ h hn,
      fun k => shiOp_reserved_none _⟩
  case muldiv =>
    refine ⟨?mul, ?mulh, ?mulhu, ?mulw, ?div, ?divu, ?rem, ?remu, ?divw, ?divuw, ?remw, ?remuw⟩
    case mul => simp only [mulDiv, BitVec.toNat_mul]
    case mulh => simp only [mulDiv, toSigned_toNat _ pos64, ofSigned_eq_toNat, sarInt]
    case mulhu => rfl
    case mulw => simp only [mulDiv, lowBits_toNat_setWidth, ← BitVec.toNat_mul, toReg_toNat pos32]
    case div => simp only [mulDiv, divSigned_toNat _ _ pos64]
    case divu => simp only [mulDiv, divUnsigned_toNat]
    case rem => simp only [mulDiv, remSigned_toNat _ _ pos64]
    case remu => simp only [mulDiv, remUnsigned_toNat]
    case divw => simp only [mulDiv, lowBits_toNat_setWidth, divSigned_toNat _ _ pos32, toReg_toNat pos32]
    case divuw => simp only [mulDiv, lowBits_toNat_setWidth, divUnsigned_toNat, toReg_toNat pos32]
    case remw => simp only [mulDiv, lowBits_toNat_setWidth, remSigned_toNat _ _ pos32, toReg_toNat pos32]
    case remuw => simp only [mulDiv, lowBits_toNat_setWidth, remUnsigned_toNat, toReg_toNat pos32]
  case atom =>
    have pos : 0 < w := by omega
    refine ⟨?swap, ?cas, ?add, ?and, ?or, ?xor, ?min, ?max, ?minu, ?maxu, fun k => atomOp_unlisted w _ rb rd⟩
    case swap | minu | maxu => rfl
    case cas => simp only [atomOp, lowBits_eq_toNat, BitVec.toNat_inj]
    case add => simp only [atomOp, lowBits_eq_toNat, BitVec.toNat_add]
    case and => simp only [atomOp, lowBits_eq_toNat, BitVec.toNat_and]
    case or => simp only [atomOp, lowBits_eq_toNat, BitVec.toNat_or]
    case xor => simp only [atomOp, lowBits_eq_toNat, BitVec.toNat_xor]
    case min => simp only [atomOp, lowBits_eq_toNat, toSigned_toNat _ pos, ofSigned_min_toInt]
    case max => simp only [atomOp, lowBits_eq_toNat, toSigned_toNat _ pos, ofSigned_max_toInt]

end Sys2Proof.Machine
end
